-- ==== Sys2Proof/Word.lean ====
section
/-! DEFINITION. The words of the part: bytes and sixteen-bit words of frames and of the image, the point and card sets of
the matrix, the two stations, the three ports, and a value held once per station or once per port. -/

namespace Sys2Proof

/-- One byte of a frame, or a code on the printer's data lines. -/
abbrev Byte := BitVec 8

/-- A sixteen-bit word: an image word, an ADC code, a pending set, a CRC remainder. -/
abbrev Word16 := BitVec 16

/-- A set of points: bit p stands for point p (logical or physical, as the user says). -/
abbrev PointSet := BitVec 2048

/-- A set of cards: bit c stands for card c. -/
abbrev CardSet := BitVec 64

/-- A station, and with it its trunk, engine, channel, lid and window. -/
inductive Station where
  | a
  | b
deriving DecidableEq, Repr

/-- The other station. -/
def Station.other : Station → Station
  | .a => .b
  | .b => .a

/-- A request port: PA and PB of the stations, PS of the supervisory computer. -/
inductive Port where
  | pa
  | pb
  | ps
deriving DecidableEq, Repr

/-- The port of a station. -/
def Station.port : Station → Port
  | .a => .pa
  | .b => .pb

/-- The station whose own port this is; none for PS. -/
def Port.station? : Port → Option Station
  | .pa => some .a
  | .pb => some .b
  | .ps => none

/-- A value for each station. -/
structure Both (α : Type) where
  a : α
  b : α
deriving DecidableEq, Repr

/-- The value of one station. -/
def Both.get {α : Type} (v : Both α) : Station → α
  | .a => v.a
  | .b => v.b

/-- The pair with one station's value replaced. -/
def Both.set {α : Type} (v : Both α) : Station → α → Both α
  | .a, x => { v with a := x }
  | .b, x => { v with b := x }

/-- A value for each port. -/
structure PerPort (α : Type) where
  pa : α
  pb : α
  ps : α
deriving DecidableEq, Repr

/-- The value of one port. -/
def PerPort.get {α : Type} (v : PerPort α) : Port → α
  | .pa => v.pa
  | .pb => v.pb
  | .ps => v.ps

/-- The triple with one port's value replaced. -/
def PerPort.set {α : Type} (v : PerPort α) : Port → α → PerPort α
  | .pa, x => { v with pa := x }
  | .pb, x => { v with pb := x }
  | .ps, x => { v with ps := x }

@[simp] theorem Station.other_other (x : Station) : x.other.other = x := by cases x <;> rfl

theorem Station.other_ne (x : Station) : x.other ≠ x := by cases x <;> decide

@[simp] theorem Both.get_set_same {α : Type} (v : Both α) (x : Station) (y : α) : (v.set x y).get x = y := by
  cases x <;> rfl

@[simp] theorem Both.get_set_other {α : Type} (v : Both α) (x : Station) (y : α) :
    (v.set x y).get x.other = v.get x.other := by cases x <;> rfl

@[simp] theorem Both.get_other_set {α : Type} (v : Both α) (x : Station) (y : α) :
    (v.set x.other y).get x = v.get x := by cases x <;> rfl

theorem Both.get_set_ne {α : Type} (v : Both α) {x y : Station} (z : α) (h : y ≠ x) : (v.set x z).get y = v.get y := by
  cases x <;> cases y <;> first | rfl | exact absurd rfl h

@[simp] theorem PerPort.get_set_same {α : Type} (v : PerPort α) (p : Port) (y : α) : (v.set p y).get p = y := by
  cases p <;> rfl

theorem PerPort.get_set_ne {α : Type} (v : PerPort α) {p q : Port} (y : α) (h : q ≠ p) : (v.set p y).get q = v.get q := by
  cases p <;> cases q <;> first | rfl | exact absurd rfl h

end Sys2Proof
end

