-- ==== Sys2Proof/Config.lean ====
section
/-! DEFINITION. The fixed sizes and times of the part, and the FREE VALUES: opaque constants without a body, so that nothing
can be proved about them and every claim holds whatever they are (log 5, log 6). -/

namespace Sys2Proof.Config

/-- The words of the reference image (section 2.1). -/
def imageWords : Nat := 8208

/-- The records a bank holds (R148). -/
def bankSize : Nat := 128

/-- The saturation value of the run record's counts (R63). -/
def countMax : Nat := 65535

/-- The locate dwell in ms (R143). -/
def locateDwell : Nat := 200

/-- The largest insulation resistance in MΩ (R132). -/
def insulationMax : Nat := 60000

/-- The first over-range ADC code (R46). -/
def overRange : Nat := 65520

/-- The code at which a pair measurement steps down (R50). -/
def stepDown : Nat := 60000

/-- FREE VALUE: the time already gone of a running hold timer when a request reads it. No row of the table is a clock tick,
so the model does not know it (log 5). -/
opaque holdTimeGone : Nat → Nat

/-- FREE VALUE: which station is taken first where one command reaches both and the spec gives no order (log 6); true names
station A. -/
opaque stationAFirst : Nat → Bool

/-- FREE VALUE: whether the HV unit is served before the trunk controller when one monitor fall reaches a GUARDED trunk and a
source that stands on it (log 6). -/
opaque hvFirst : Nat → Bool

end Sys2Proof.Config
end

