-- ==== Sys2Proof/Syntax.lean ====
section
/-! DEFINITION. The commands: `Instr` has one constructor for each row of spec/opcode_table.json. `Request` is the request
catalogue of section 10.2 with its arguments in the widths of R175; a request's row of the table is that request with the port
it comes from. -/

namespace Sys2Proof

/-- The reset input that a RESET_END releases (R161, R174). -/
inductive ResetLine where
  | porn
  | linerst
deriving DecidableEq, Repr

/-- The rating the HVMAX strap selects (R115). -/
inductive BuildMax where
  | v1000
  | v1500
deriving DecidableEq, Repr

/-- The levels of the inputs that the part takes as its starting states when a reset ends (R2, R113, R154). -/
structure Inputs where
  /-- MONA reads 30 V or more -/
  hotA : Bool
  /-- MONB reads 30 V or more -/
  hotB : Bool
  /-- LIDA: lid A is closed -/
  lidA : Bool
  /-- LIDB: lid B is closed -/
  lidB : Bool
  /-- ESTOP is active -/
  estop : Bool
  /-- BUSY reads high -/
  busy : Bool
  /-- FAULT reads high -/
  fault : Bool
deriving DecidableEq, Repr

/-- The requests of the catalogue (section 10.2). Named values are bytes counted from 0 in the order their rule lists them,
numbers have the width of their range (R175). -/
inductive Request where
  | takeNotice
  | endNotice
  | writePending (enable values : Word16)
  | setNoticeLevel (source level : Byte)
  | setNoticeBase (base : Byte)
  | readNotices
  | callStation (station : Byte)
  | resetDevice
  | readCause
  | setWindow (station base limit : Byte)
  | lockWindow (station : Byte)
  | setSettleTime (trunk time : Byte)
  | readMatrix
  | readPoints (first : Word16) (count : Byte)
  | beginLoad
  | writeImage (start : Word16) (words : List Word16)
  | commitImage
  | abandonLoad
  | armAlarm
  | readImage (start : Word16) (count : Byte)
  | referenceStatus
  | readChannel (channel : Byte)
  | openRun
  | closeRun
  | abort
  | stationReset
  | startContinuity (scope limit : Byte)
  | startInsulation (kind : Byte) (selection voltage dwell threshold : Word16) (locate : Byte)
  | readStatus (station : Byte)
  | setSerial (station : Byte) (value : BitVec 32)
  | clearCounters (station : Byte)
  | readCounters (station : Byte)
  | setHvPermission (permission : Byte)
  | setHvLimit (limit : Byte) (value : Word16)
  | clearHvFault
  | reserveHv
  | releaseHv
  | readHv
  | setTicketPolicy (station policy : Byte)
  | cancelTicket (station bank : Byte)
  | readDefects (station bank start : Byte)
  | readPrinter
deriving DecidableEq, Repr

/-- The commands of the part, one constructor per row of spec/opcode_table.json. -/
inductive Instr where
  /-- PORN is asserted; `build` is what the HVMAX strap selects -/
  | powerOnReset (build : BuildMax)
  /-- LINERST is asserted; `build` is what the HVMAX strap selects -/
  | lineReset (build : BuildMax)
  /-- chip select rises after a period in which `bytes` were clocked in -/
  | requestFrame (port : Port) (bytes : List Byte)
  /-- chip select rises after a fetch period -/
  | fetch (port : Port)
  | takeNotice (port : Port)
  | endNotice (port : Port)
  | writePending (port : Port) (enable values : Word16)
  | setNoticeLevel (port : Port) (source level : Byte)
  | setNoticeBase (port : Port) (base : Byte)
  | readNotices (port : Port)
  | callStation (port : Port) (station : Byte)
  | resetDevice (port : Port)
  | readCause (port : Port)
  | setWindow (port : Port) (station base limit : Byte)
  | lockWindow (port : Port) (station : Byte)
  | setSettleTime (port : Port) (trunk time : Byte)
  | readMatrix (port : Port)
  | readPoints (port : Port) (first : Word16) (count : Byte)
  | chainLoadComplete
  | releaseWaitExpiry (trunk : Station)
  /-- `pres` holds the levels of PRES0 to PRES63 at that moment (R7) -/
  | housekeepingReleaseWaitExpiry (pres : CardSet)
  | settleTimeExpiry (trunk : Station)
  | monitorRise (trunk : Station)
  | monitorFall (trunk : Station)
  | beginLoad (port : Port)
  | writeImage (port : Port) (start : Word16) (words : List Word16)
  | commitImage (port : Port)
  | abandonLoad (port : Port)
  | armAlarm (port : Port)
  | readImage (port : Port) (start : Word16) (count : Byte)
  | referenceStatus (port : Port)
  | checkerWordRead
  | checkEnd
  | readChannel (port : Port) (channel : Byte)
  | apertureEnd (channel : Station) (code : Word16)
  | openRun (port : Port)
  | closeRun (port : Port)
  | abort (port : Port)
  | stationReset (port : Port)
  | setSerial (port : Port) (station : Byte) (value : BitVec 32)
  | clearCounters (port : Port) (station : Byte)
  | readCounters (port : Port) (station : Byte)
  | readStatus (port : Port) (station : Byte)
  | startContinuity (port : Port) (scope limit : Byte)
  | startInsulation (port : Port) (kind : Byte) (selection voltage dwell threshold : Word16) (locate : Byte)
  | transferSwitchClosed
  /-- HVV reads `hvv` volts -/
  | hvSetpointReached (hvv : Nat)
  | dwellExpiry
  /-- the averages of HVV in mV and of HVI in pA over the 2 ms (log 13) -/
  | sampleEnd (milliVolts picoAmps : Nat)
  /-- HVI reads `hvi` nA -/
  | hvTripCurrent (hvi : Nat)
  /-- HVV reads `hvv` volts -/
  | hvSag (hvv : Nat)
  | rampTimeout
  | dischargeTimeout
  | setHvPermission (port : Port) (permission : Byte)
  | setHvLimit (port : Port) (limit : Byte) (value : Word16)
  | clearHvFault (port : Port)
  | reserveHv (port : Port)
  | releaseHv (port : Port)
  | readHv (port : Port)
  | holdTimerExpiry
  | lidOpen (lid : Station)
  | lidClose (lid : Station)
  | estopActive
  | estopClear
  | setTicketPolicy (port : Port) (station policy : Byte)
  | cancelTicket (port : Port) (station bank : Byte)
  | readDefects (port : Port) (station bank start : Byte)
  | readPrinter (port : Port)
  | busyFall
  | busyRise
  | acknowledgeTimerExpiry
  | faultRise
  | faultFall
  /-- a master lowers chip select -/
  | chipSelectFall (port : Port)
  /-- PORN or LINERST is released; `inputs` are the levels the part finds -/
  | resetEnd (line : ResetLine) (inputs : Inputs)
deriving DecidableEq, Repr

/-- The port and the request of a command that is a row of the request catalogue. -/
def Instr.request? : Instr → Option (Port × Request)
  | .takeNotice p => some (p, .takeNotice)
  | .endNotice p => some (p, .endNotice)
  | .writePending p e v => some (p, .writePending e v)
  | .setNoticeLevel p n l => some (p, .setNoticeLevel n l)
  | .setNoticeBase p b => some (p, .setNoticeBase b)
  | .readNotices p => some (p, .readNotices)
  | .callStation p x => some (p, .callStation x)
  | .resetDevice p => some (p, .resetDevice)
  | .readCause p => some (p, .readCause)
  | .setWindow p x b l => some (p, .setWindow x b l)
  | .lockWindow p x => some (p, .lockWindow x)
  | .setSettleTime p x t => some (p, .setSettleTime x t)
  | .readMatrix p => some (p, .readMatrix)
  | .readPoints p f c => some (p, .readPoints f c)
  | .beginLoad p => some (p, .beginLoad)
  | .writeImage p a ws => some (p, .writeImage a ws)
  | .commitImage p => some (p, .commitImage)
  | .abandonLoad p => some (p, .abandonLoad)
  | .armAlarm p => some (p, .armAlarm)
  | .readImage p a c => some (p, .readImage a c)
  | .referenceStatus p => some (p, .referenceStatus)
  | .readChannel p x => some (p, .readChannel x)
  | .openRun p => some (p, .openRun)
  | .closeRun p => some (p, .closeRun)
  | .abort p => some (p, .abort)
  | .stationReset p => some (p, .stationReset)
  | .setSerial p x v => some (p, .setSerial x v)
  | .clearCounters p x => some (p, .clearCounters x)
  | .readCounters p x => some (p, .readCounters x)
  | .readStatus p x => some (p, .readStatus x)
  | .startContinuity p c l => some (p, .startContinuity c l)
  | .startInsulation p k w v d t l => some (p, .startInsulation k w v d t l)
  | .setHvPermission p v => some (p, .setHvPermission v)
  | .setHvLimit p l v => some (p, .setHvLimit l v)
  | .clearHvFault p => some (p, .clearHvFault)
  | .reserveHv p => some (p, .reserveHv)
  | .releaseHv p => some (p, .releaseHv)
  | .readHv p => some (p, .readHv)
  | .setTicketPolicy p x v => some (p, .setTicketPolicy x v)
  | .cancelTicket p x b => some (p, .cancelTicket x b)
  | .readDefects p x b i => some (p, .readDefects x b i)
  | .readPrinter p => some (p, .readPrinter)
  | .powerOnReset _ | .lineReset _ | .requestFrame _ _ | .fetch _ | .chainLoadComplete | .releaseWaitExpiry _
  | .housekeepingReleaseWaitExpiry _ | .settleTimeExpiry _ | .monitorRise _ | .monitorFall _ | .checkerWordRead | .checkEnd
  | .apertureEnd _ _ | .transferSwitchClosed | .hvSetpointReached _ | .dwellExpiry | .sampleEnd _ _ | .hvTripCurrent _
  | .hvSag _ | .rampTimeout | .dischargeTimeout | .holdTimerExpiry | .lidOpen _ | .lidClose _ | .estopActive | .estopClear
  | .busyFall | .busyRise | .acknowledgeTimerExpiry | .faultRise | .faultFall | .chipSelectFall _ | .resetEnd _ _ => none

end Sys2Proof
end

