-- ==== Sys2Proof/WellFormed.lean ====
section
/-! DEFINITION. Which commands can be given at all. Arguments have the widths of their fields, so one check is left: the
payload of a frame is at most 248 bytes (R161, R175), so a WRITE IMAGE carries at most 123 words. -/

namespace Sys2Proof

/-- The most words a WRITE IMAGE frame can carry: 2 bytes of start and two a word within 248 bytes of payload (R30, R175). -/
def maxFrameWords : Nat := 123

/-- The request fits one frame. -/
def Request.wf : Request → Bool
  | .writeImage _ words => words.length ≤ maxFrameWords
  | _ => true

/-- The command can be given: a request fits one frame, and every other command is as it stands. -/
def Instr.wf (i : Instr) : Bool :=
  match i.request? with
  | some (_, r) => r.wf
  | none => true

end Sys2Proof
end

