-- ==== Sys2Proof/Decode.lean ====
section
/-! DEFINITION. The request catalogue (section 10.2) and the frames of R175: the code and the payload of each request, the
reading of a payload, and which ports may issue which code. The rows of spec/opcode_table.json give no bits, so
`decodeTableWord` answers none for every word. -/

namespace Sys2Proof

/-- Which ports may issue a request: any, the station ports, or PS alone (section 10.2). -/
inductive PortClass where
  | any
  | station
  | supervisor
deriving DecidableEq, Repr

/-- The class holds the port. -/
def PortClass.holds : PortClass → Port → Bool
  | .any, _ => true
  | .station, p => p ≠ .ps
  | .supervisor, p => p = .ps

/-- The request catalogue of section 10.2: each code byte with the ports that may issue it. -/
def catalogue : List (Byte × PortClass) :=
  [(0x01, .any), (0x02, .any), (0x03, .any), (0x04, .any), (0x05, .any), (0x06, .any), (0x07, .supervisor),
   (0x08, .supervisor), (0x09, .any),
   (0x10, .supervisor), (0x11, .supervisor), (0x12, .supervisor), (0x13, .any), (0x14, .any),
   (0x20, .supervisor), (0x21, .supervisor), (0x22, .supervisor), (0x23, .supervisor), (0x24, .supervisor),
   (0x25, .any), (0x26, .any), (0x28, .any),
   (0x30, .station), (0x31, .station), (0x32, .station), (0x33, .station), (0x34, .station), (0x35, .station),
   (0x36, .any), (0x37, .supervisor), (0x38, .supervisor), (0x39, .any),
   (0x40, .supervisor), (0x41, .supervisor), (0x42, .supervisor), (0x43, .station), (0x44, .station), (0x45, .any),
   (0x50, .supervisor), (0x51, .supervisor), (0x52, .any), (0x53, .any)]

/-- The class of a code of the catalogue; none for a code it does not name. -/
def codeClass (code : Byte) : Option PortClass :=
  (catalogue.find? (fun row => row.1 = code)).map (·.2)

/-- The code byte of a request (section 10.2). -/
def Request.code : Request → Byte
  | .takeNotice => 0x01
  | .endNotice => 0x02
  | .writePending _ _ => 0x03
  | .setNoticeLevel _ _ => 0x04
  | .setNoticeBase _ => 0x05
  | .readNotices => 0x06
  | .callStation _ => 0x07
  | .resetDevice => 0x08
  | .readCause => 0x09
  | .setWindow _ _ _ => 0x10
  | .lockWindow _ => 0x11
  | .setSettleTime _ _ => 0x12
  | .readMatrix => 0x13
  | .readPoints _ _ => 0x14
  | .beginLoad => 0x20
  | .writeImage _ _ => 0x21
  | .commitImage => 0x22
  | .abandonLoad => 0x23
  | .armAlarm => 0x24
  | .readImage _ _ => 0x25
  | .referenceStatus => 0x26
  | .readChannel _ => 0x28
  | .openRun => 0x30
  | .closeRun => 0x31
  | .abort => 0x32
  | .stationReset => 0x33
  | .startContinuity _ _ => 0x34
  | .startInsulation _ _ _ _ _ _ => 0x35
  | .readStatus _ => 0x36
  | .setSerial _ _ => 0x37
  | .clearCounters _ => 0x38
  | .readCounters _ => 0x39
  | .setHvPermission _ => 0x40
  | .setHvLimit _ _ => 0x41
  | .clearHvFault => 0x42
  | .reserveHv => 0x43
  | .releaseHv => 0x44
  | .readHv => 0x45
  | .setTicketPolicy _ _ => 0x50
  | .cancelTicket _ _ => 0x51
  | .readDefects _ _ _ => 0x52
  | .readPrinter => 0x53

/-- A sixteen-bit value, high byte first (R175). -/
def be16 (w : Word16) : List Byte := [w.extractLsb' 8 8, w.extractLsb' 0 8]

/-- A thirty-two-bit value, high byte first (R175). -/
def be32 (v : BitVec 32) : List Byte :=
  [v.extractLsb' 24 8, v.extractLsb' 16 8, v.extractLsb' 8 8, v.extractLsb' 0 8]

/-- Two bytes, high byte first, as a value. -/
def word16 (hi lo : Byte) : Word16 := hi ++ lo

/-- Four bytes, high byte first, as a value. -/
def word32 (b3 b2 b1 b0 : Byte) : BitVec 32 := b3 ++ b2 ++ b1 ++ b0

/-- Bytes taken two at a time as words; none for an odd number of bytes (R30). -/
def wordsOf : List Byte → Option (List Word16)
  | [] => some []
  | [_] => none
  | hi :: lo :: rest => (wordsOf rest).map (word16 hi lo :: ·)

/-- Words as bytes, high byte first. -/
def bytesOf : List Word16 → List Byte
  | [] => []
  | w :: ws => be16 w ++ bytesOf ws

/-- The payload of a request: its arguments in the order its rule names them (R175). -/
def Request.payload : Request → List Byte
  | .writePending e v => be16 e ++ be16 v
  | .setNoticeLevel n l => [n, l]
  | .setNoticeBase b => [b]
  | .callStation x => [x]
  | .setWindow x b l => [x, b, l]
  | .lockWindow x => [x]
  | .setSettleTime x t => [x, t]
  | .readPoints f c => be16 f ++ [c]
  | .writeImage a ws => be16 a ++ bytesOf ws
  | .readImage a c => be16 a ++ [c]
  | .readChannel x => [x]
  | .startContinuity c l => [c, l]
  | .startInsulation k w v d t l => k :: be16 w ++ be16 v ++ be16 d ++ be16 t ++ [l]
  | .readStatus x => [x]
  | .setSerial x v => x :: be32 v
  | .clearCounters x => [x]
  | .readCounters x => [x]
  | .setHvPermission v => [v]
  | .setHvLimit l v => l :: be16 v
  | .setTicketPolicy x v => [x, v]
  | .cancelTicket x b => [x, b]
  | .readDefects x b i => [x, b, i]
  | .takeNotice | .endNotice | .readNotices | .resetDevice | .readCause | .readMatrix | .beginLoad | .commitImage
  | .abandonLoad | .armAlarm | .referenceStatus | .openRun | .closeRun | .abort | .stationReset | .clearHvFault | .reserveHv
  | .releaseHv | .readHv | .readPrinter => []

/-- The request frame of a request: code, payload length, payload (R175). -/
def Request.frame (r : Request) : List Byte :=
  r.code :: BitVec.ofNat 8 r.payload.length :: r.payload

/-- A request without arguments: its payload is empty. -/
def args0 (r : Request) : List Byte → Option Request
  | [] => some r
  | _ => none

/-- A request of one byte. -/
def args1 (f : Byte → Request) : List Byte → Option Request
  | [a] => some (f a)
  | _ => none

/-- A request of two bytes. -/
def args2 (f : Byte → Byte → Request) : List Byte → Option Request
  | [a, b] => some (f a b)
  | _ => none

/-- A request of three bytes. -/
def args3 (f : Byte → Byte → Byte → Request) : List Byte → Option Request
  | [a, b, c] => some (f a b c)
  | _ => none

/-- A request of four bytes. -/
def args4 (f : Byte → Byte → Byte → Byte → Request) : List Byte → Option Request
  | [a, b, c, d] => some (f a b c d)
  | _ => none

/-- SET SERIAL: a station byte and four bytes of value. -/
def argsSerial : List Byte → Option Request
  | [x, a, b, c, d] => some (.setSerial x (word32 a b c d))
  | _ => none

/-- WRITE IMAGE: two bytes of start and two for each word (R30). -/
def argsImage : List Byte → Option Request
  | hi :: lo :: rest => (wordsOf rest).map (.writeImage (word16 hi lo))
  | _ => none

/-- START INSULATION: a kind byte, the selection word, voltage, dwell and threshold of two bytes each, the locate byte. -/
def argsInsulation : List Byte → Option Request
  | [k, a, b, c, d, e, f, g, h, l] => some (.startInsulation k (word16 a b) (word16 c d) (word16 e f) (word16 g h) l)
  | _ => none

/-- The request a code byte and a payload spell; none where the payload's length does not fit the arguments of the code's
request (R163), or no request has the code. -/
def parseRequest (code : Byte) (payload : List Byte) : Option Request :=
  match code.toNat with
  | 0x01 => args0 .takeNotice payload
  | 0x02 => args0 .endNotice payload
  | 0x03 => args4 (fun a b c d => .writePending (word16 a b) (word16 c d)) payload
  | 0x04 => args2 .setNoticeLevel payload
  | 0x05 => args1 .setNoticeBase payload
  | 0x06 => args0 .readNotices payload
  | 0x07 => args1 .callStation payload
  | 0x08 => args0 .resetDevice payload
  | 0x09 => args0 .readCause payload
  | 0x10 => args3 .setWindow payload
  | 0x11 => args1 .lockWindow payload
  | 0x12 => args2 .setSettleTime payload
  | 0x13 => args0 .readMatrix payload
  | 0x14 => args3 (fun a b c => .readPoints (word16 a b) c) payload
  | 0x20 => args0 .beginLoad payload
  | 0x21 => argsImage payload
  | 0x22 => args0 .commitImage payload
  | 0x23 => args0 .abandonLoad payload
  | 0x24 => args0 .armAlarm payload
  | 0x25 => args3 (fun a b c => .readImage (word16 a b) c) payload
  | 0x26 => args0 .referenceStatus payload
  | 0x28 => args1 .readChannel payload
  | 0x30 => args0 .openRun payload
  | 0x31 => args0 .closeRun payload
  | 0x32 => args0 .abort payload
  | 0x33 => args0 .stationReset payload
  | 0x34 => args2 .startContinuity payload
  | 0x35 => argsInsulation payload
  | 0x36 => args1 .readStatus payload
  | 0x37 => argsSerial payload
  | 0x38 => args1 .clearCounters payload
  | 0x39 => args1 .readCounters payload
  | 0x40 => args1 .setHvPermission payload
  | 0x41 => args3 (fun a b c => .setHvLimit a (word16 b c)) payload
  | 0x42 => args0 .clearHvFault payload
  | 0x43 => args0 .reserveHv payload
  | 0x44 => args0 .releaseHv payload
  | 0x45 => args0 .readHv payload
  | 0x50 => args2 .setTicketPolicy payload
  | 0x51 => args2 .cancelTicket payload
  | 0x52 => args3 .readDefects payload
  | 0x53 => args0 .readPrinter payload
  | _ => none

/-- The command a word spells by the table's bits. No row of spec/opcode_table.json gives bits, so no word spells one. -/
def decodeTableWord (_nbits _w : Nat) : Option Instr := none

end Sys2Proof
end

