-- ==== Sys2Proof/Machine/State.lean ====
section
/-! DEFINITION. The state of the part as plain data, its reset value, and the reasons a step could stop. INVENTORY.md lists
every field with the rule that names it. -/

namespace Sys2Proof.Machine

/-! ## Reset lines and cause -/

/-- The reset cause record (R174). -/
inductive ResetCause where
  | powerOn
  | line
  | supervisor
deriving DecidableEq, Repr

/-! ## Chapter 1: the point matrix -/

/-- The matrix state (R6). -/
inductive MatrixState where
  | unknown
  | clearing
  | ready
deriving DecidableEq, Repr

/-- The state of a point, named from its two relays (R1). -/
inductive PointState where
  | float
  | drive
  | ret
deriving DecidableEq, Repr

/-- The positions of the D relays and of the T relays: bit p set where the relay of physical point p is closed (R1). -/
structure Relays where
  drive : PointSet
  ret : PointSet
deriving DecidableEq, Repr

/-- A card's selector: NONE, A or B (R1). -/
inductive Selector where
  | none
  | to (x : Station)
deriving DecidableEq, Repr

/-- A selector for every card: bit c of `a` where card c is A, bit c of `b` where it is B, neither where it is NONE. -/
structure Selectors where
  a : CardSet
  b : CardSet
deriving DecidableEq, Repr

/-- The relay image: relays and card selectors as the chain last set them (R1). -/
structure RelayImage where
  relays : Relays
  sel : Selectors
deriving DecidableEq, Repr

/-- The housekeeping loads of R5. -/
inductive Housekeeping where
  | clearing
  | allOpen
  | window
deriving DecidableEq, Repr

/-- Whose load the chain carries (section 1.2). -/
inductive Requester where
  | trunk (x : Station)
  | housekeeping (k : Housekeeping)
deriving DecidableEq, Repr

/-- A chain load in progress: its requester and its contents, fixed at its start (R3). -/
structure ChainLoad where
  requester : Requester
  contents : RelayImage
deriving DecidableEq, Repr

/-- A station window: base card, limit card and lock (section 1.6). -/
structure Window where
  base : Nat
  limit : Nat
  lock : Bool
deriving DecidableEq, Repr

/-- A configuration: logical points to DRIVE and to RETURN (R9). -/
structure Configuration where
  drive : PointSet
  ret : PointSet
deriving DecidableEq, Repr

/-- The trunk states of section 1.4. -/
inductive TrunkState where
  | idle
  | guarded
  | opening
  | closing
  | settling
  | settled
deriving DecidableEq, Repr

/-- What a trunk in OPENING waits for: its opening load, the release wait after it, the end of an earlier load of its own
(R16 after a station reset, R13 after a fall), or the supervisor all-open load (R16; the trunk shows GUARDED meanwhile while hot). -/
inductive OpeningPart where
  | load
  | releaseWait
  | earlierLoad
  | deviceAllOpen
deriving DecidableEq, Repr

/-- A trunk controller (section 1.4). -/
structure Trunk where
  state : TrunkState
  /-- the configuration in work, or held in GUARDED -/
  config : Option Configuration
  /-- the newer configuration that waits behind it (R12) -/
  waiting : Option Configuration
  /-- the target of the configuration in work, on physical points (R9) -/
  target : Relays
  part : OpeningPart
  /-- the settle time running, with the length it started with (R15) -/
  settleTimer : Option Nat
  /-- the settle time in ms, 1 to 20 (R15) -/
  settleTime : Nat
deriving DecidableEq, Repr

/-- The matrix controller and the window decoder. -/
structure Matrix where
  state : MatrixState
  /-- the relay image; none while it is unknown (R1) -/
  image : Option RelayImage
  /-- the selector table (R1) -/
  selTable : Selectors
  /-- the card presence table (R7) -/
  presence : CardSet
  /-- the chain load in progress (R3) -/
  load : Option ChainLoad
  /-- the trunk controllers' request slots: the positions asked for their cards (R4) -/
  slots : Both (Option Relays)
  /-- the housekeeping requester's slot (R4, R5) -/
  hk : Option Housekeeping
  /-- the last-served trunk (R4) -/
  lastServed : Station
  /-- the release wait after a housekeeping load (R5, R6) -/
  hkWait : Option Housekeeping
  windows : Both Window
  trunks : Both Trunk
  /-- each trunk monitor reads 30 V or more (R2) -/
  hot : Both Bool
deriving DecidableEq, Repr

/-! ## Chapter 2: the reference store -/

/-- The reference states (section 2.2). -/
inductive RefState where
  | empty
  | loading
  | checking
  | valid
  | faulted
deriving DecidableEq, Repr

/-- The kinds of check (section 2.4). -/
inductive CheckKind where
  | full
  | checksum
deriving DecidableEq, Repr

/-- The fault reasons of R36 and R37. -/
inductive FaultReason where
  | formatTag
  | span
  | netCount
  | memberCount
  | netSize
  | contiguity
  | memberOrder
  | sharedPoint
  | headerLimits
  | offset
  | checksum
deriving DecidableEq, Repr

/-- The header fields item 9 judges, in its order (R36). -/
inductive HeaderField where
  | continuityThreshold
  | shortThreshold
  | startRange
  | insulationVoltage
  | dwell
  | insulationThreshold
deriving DecidableEq, Repr

/-- The location recorded with a fault (R36). -/
inductive FaultLocation where
  | none
  | net (i : Nat)
  | pointNet (point net : Nat)
  | field (f : HeaderField)
  | physical (p : Nat)
deriving DecidableEq, Repr

/-- A structure fault found: the item of R36, the reason and the location. -/
structure CheckFault where
  item : Nat
  reason : FaultReason
  location : FaultLocation
deriving DecidableEq, Repr

/-- The checker's pass (R35 to R37). -/
structure Check where
  kind : CheckKind
  /-- words read so far -/
  pos : Nat
  /-- the remainder of the checksum computation -/
  rem : Word16
  /-- the lowest-numbered failure kept -/
  fault : Option CheckFault
  /-- sum of the member counts of the net records read -/
  sum : Nat
  /-- member count of the record being read -/
  count : Nat
  /-- the net the member list has reached -/
  net : Nat
  /-- members of that net still to read -/
  left : Nat
  /-- the previous member of that net -/
  prev : Option Nat
  /-- the points met in the member list -/
  seen : PointSet
deriving DecidableEq, Repr

/-- The last check result (R34, R38, R39). -/
structure CheckResult where
  kind : CheckKind
  /-- none for PASS; the reason and location of a failure -/
  fault : Option (FaultReason × FaultLocation)
  stored : Word16
  computed : Option Word16
deriving DecidableEq, Repr

/-- A listed word of the image: its number and its value. -/
abbrev ImageCell := Nat × Word16

/-- The reference store. -/
structure Store where
  /-- the image in canonical form: rising word numbers, no listed 0; an unlisted word reads 0 (log 14) -/
  words : List ImageCell
  state : RefState
  check : Option Check
  lastResult : Option CheckResult
  /-- the reference CRC (R37) -/
  crc : Option Word16
  /-- the words as they stand passed a check (for the header summary of R34) -/
  passed : Bool
  /-- alarm armed (R42) -/
  armed : Bool
  /-- alarm active (R42) -/
  active : Bool
  /-- the runs that joined the check (R40) -/
  joined : List Station
deriving DecidableEq, Repr

/-! ## Chapter 3: the measurement channels -/

/-- The channel states (R44). -/
inductive ChannelState where
  | idle
  | measuring
  | compensating
  | isolated
deriving DecidableEq, Repr

/-- The reasons of a NOT-TAKEN result (R47, R49). -/
inductive NotTakenReason where
  | isolated
  | busy
  | notSettled
  | hot
  | cut
deriving DecidableEq, Repr

/-- A measurement request: a pair of physical points with a start range, or a group with the short threshold in Ω (section 3.2). -/
inductive Measurement where
  | pair (p q start : Nat)
  | group (threshold : Nat)
deriving DecidableEq, Repr

/-- A result of a channel (R52, R53, R47, R58). Values are in mΩ. -/
inductive MeasResult where
  | pairValue (value range : Nat)
  | openWire
  | clean (value : Option Nat)
  | fail (value : Nat)
  | notTaken (reason : NotTakenReason)
  | discarded
deriving DecidableEq, Repr

/-- A measurement channel (R44). -/
structure Channel where
  state : ChannelState
  range : Nat
  lastCode : Option Word16
  lastRaw : Option Nat
  lastResult : Option MeasResult
  inHand : Option Measurement
  isoPending : Bool
deriving DecidableEq, Repr

/-! ## Chapters 4 to 6 and 8: the sweep engines and their runs -/

/-- The run states (R62). -/
inductive RunState where
  | noRun
  | checking
  | ready
  | continuity
  | insulation
deriving DecidableEq, Repr

/-- The continuity status of a run record (R63). -/
inductive Continuity where
  | notDone
  | done
  | cutShort
deriving DecidableEq, Repr

/-- The ticket policies (R151). -/
inductive TicketPolicy where
  | none
  | nonPass
  | all
deriving DecidableEq, Repr

/-- The verdicts (R70). -/
inductive Verdict where
  | pass
  | fail
  | incomplete
  | invalidReference
deriving DecidableEq, Repr

/-- The two banks of a station (R148). -/
inductive BankNo where
  | zero
  | one
deriving DecidableEq, Repr

/-- The run record (R63). -/
structure RunRecord where
  serial : Nat
  bank : BankNo
  continuity : Continuity
  found : Nat
  shorts : Nat
  stepInterrupted : Bool
  refFault : Bool
  policy : TicketPolicy
  abortPending : Bool
deriving DecidableEq, Repr

/-- The cause of a counted run end (R71). -/
inductive RunEndCause where
  | closeRun
  | referenceCheck
  | stationReset
deriving DecidableEq, Repr

/-- The last-run summary (R63). -/
structure LastRun where
  serial : Nat
  bank : BankNo
  verdict : Verdict
  cause : RunEndCause
deriving DecidableEq, Repr

/-- The five verdict counters (R75). -/
structure Counters where
  closed : BitVec 32
  pass : BitVec 32
  fail : BitVec 32
  incomplete : BitVec 32
  invalid : BitVec 32
deriving DecidableEq, Repr

/-- A driver or candidate: a net, or an unused point (R96). -/
inductive Driver where
  | net (i : Nat)
  | point (p : Nat)
deriving DecidableEq, Repr

/-- The selection of an insulation step (R136). -/
inductive Selection where
  | net (n : Nat)
  | classMask (value mask : Byte)
  | classPair (one two : Byte)
deriving DecidableEq, Repr

/-- The defect kinds (R147). -/
inductive DefectKind where
  | openWire
  | highR
  | short
  | leakGroup
  | insLow
  | arc
deriving DecidableEq, Repr

/-- A point with its net, or an unused point with the net absent (R147). -/
structure Subject where
  net : Option Nat
  point : Nat
deriving DecidableEq, Repr

/-- Subject b of a defect record (R147). -/
inductive SubjectB where
  | absent
  | single (s : Subject)
  | range (first last : Driver)
  | all
deriving DecidableEq, Repr

/-- A defect record (R147). -/
structure Defect where
  seq : Nat
  kind : DefectKind
  a : Option Subject
  b : SubjectB
  selection : Option Selection
  value : Option Nat
  range : Option Nat
deriving DecidableEq, Repr

/-- The bank states (R148). -/
inductive BankState where
  | free
  | recording
  | kept
  | queued
  | printing
deriving DecidableEq, Repr

/-- A bank (R148). -/
structure Bank where
  state : BankState
  records : List Defect
  unlisted : Nat
deriving DecidableEq, Repr

/-- The two banks of a station. -/
structure Banks where
  zero : Bank
  one : Bank
deriving DecidableEq, Repr

/-- The scope of a sweep (R82). -/
inductive Scope where
  | connectionOnly
  | full
deriving DecidableEq, Repr

/-- The phase of a sweep (R81). -/
inductive Phase where
  | connection
  | isolation
deriving DecidableEq, Repr

/-- An OPEN held back: its anchor point and its member point; its range is 3 (R81, R89). -/
structure HeldOpen where
  anchor : Nat
  point : Nat
deriving DecidableEq, Repr

/-- The sweep record (R81, R97). Fields read from the image hold what the engine read. -/
structure Sweep where
  scope : Scope
  limit : Nat
  phase : Phase
  /-- sweep header: N, the default continuity threshold in mΩ, the start range -/
  nets : Nat
  threshold : Nat
  start : Nat
  /-- the current net, its member count, first member index and threshold as its record was read -/
  net : Nat
  netCount : Nat
  netFirst : Nat
  netThreshold : Nat
  /-- the current member position -/
  pos : Nat
  anchor : Nat
  reselected : Bool
  /-- the re-selection test is in hand -/
  retest : Bool
  held : List HeldOpen
  pairs : Nat
  /-- the two points of the pair configuration last handed -/
  pairA : Nat
  pairB : Nat
  /-- sweep header of the isolation phase: S, M, the short threshold in Ω -/
  span : Nat
  members : Nat
  short : Nat
  /-- the unused points, ascending -/
  unused : List Nat
  driver : Nat
  candidates : Nat
  /-- the first point of the current driver -/
  driverFirst : Nat
  groupDriver : Nat
  groupSweep : Nat
  confirms : Nat
deriving DecidableEq, Repr

/-- The states of a locator entry (R100). -/
inductive EntryState where
  | toMeasure
  | lower
  | upper
  | confirm
deriving DecidableEq, Repr

/-- An entry of the locator stack (R100). `first` and `last` number the candidates: driver numbers in the isolation phase,
positions in the candidate list (from 0) in an insulation locate. The value is in mΩ there and in MΩ here. -/
structure Entry where
  first : Nat
  last : Nat
  state : EntryState
  value : Option Nat
  halfFailed : Bool
deriving DecidableEq, Repr

/-- The step states (R140). -/
inductive StepState where
  | waitHv
  | configure
  | energise
  | locate
  | finish
deriving DecidableEq, Repr

/-- A step record (R135). -/
structure StepRecord where
  selection : Selection
  /-- the selected nets, in index order (R137) -/
  selected : List Nat
  /-- the returned set, the candidate list of a locate (R137, R143) -/
  returned : List Driver
  voltage : Nat
  dwell : Nat
  threshold : Nat
  locate : Bool
  state : StepState
  energisations : Nat
  lastRins : Option Nat
  clamped : Bool
  /-- interrupted, and waiting for its energisation to end (R145) -/
  interrupted : Bool
deriving DecidableEq, Repr

/-- The table read at which an engine is held while the store is CHECKING (R41, R83, R97, R139, R143). -/
inductive ReadPoint where
  | sweepStart
  | net
  | pair
  | isolationStart
  | locator
  | step
  | locate
deriving DecidableEq, Repr

/-- What an engine waits on (R94, R110, R146); `allOpen` is the empty configuration of an activity whose outcome is fixed
(R68). -/
inductive EngineWait where
  | nothing
  | trunk
  | channel
  | read (r : ReadPoint)
  | hv
  | energisation
  | allOpen
deriving DecidableEq, Repr

/-- A station: its sweep engine with its run, its counters and its banks. -/
structure Bench where
  run : RunState
  record : Option RunRecord
  summary : Option LastRun
  lastBank : BankNo
  nextSerial : Nat
  counters : Counters
  policy : TicketPolicy
  banks : Banks
  sweep : Option Sweep
  /-- the locator stack, its top first -/
  locator : List Entry
  step : Option StepRecord
  queued : Option StepRecord
  wait : EngineWait
  /-- the configuration last handed to the trunk (R86: the same configuration again) -/
  handed : Configuration
deriving DecidableEq, Repr

/-! ## Chapter 7: the HV unit -/

/-- The source states (R113). -/
inductive SourceState where
  | off
  | ramping
  | dwelling
  | sampling
  | discharging
  | faulted
deriving DecidableEq, Repr

/-- The transfer switch (R113). -/
inductive Switch where
  | off
  | to (x : Station)
deriving DecidableEq, Repr

/-- The permission (R113, R114). -/
inductive Permission where
  | permitted
  | barred
  | permittedLocked
  | barredLocked
deriving DecidableEq, Repr

/-- The HV limits (R115): cap in V, ramp rate in halves of a V/ms, trip current in µA, hold timeout in ms, string limit. -/
structure Limits where
  cap : Nat
  ramp : Nat
  trip : Nat
  hold : Nat
  string : Nat
deriving DecidableEq, Repr

/-- The stages of an energisation (R122, R123). -/
inductive Stage where
  | isolating
  | connecting
  | ramping
  | dwelling
  | sampling
  | discharging
deriving DecidableEq, Repr

/-- The causes of an ARC (R124). -/
inductive ArcCause where
  | tripCurrent
  | sag
  | rampTimeout
deriving DecidableEq, Repr

/-- The causes of a CUT (R125). -/
inductive CutCause where
  | trunk
  | lid
  | estop
  | barred
  | abort
  | runEnd
deriving DecidableEq, Repr

/-- What ended an energisation (R125, R126). SAMPLED carries V_meas in V, I_nA in nA and R_ins in MΩ. -/
inductive EnergOutcome where
  | sampled (volts nanoAmps rins : Nat)
  | arc (cause : ArcCause)
  | cut (cause : CutCause)
  | fault
deriving DecidableEq, Repr

/-- The result of an energisation (R125, R126). -/
structure EnergResult where
  setpoint : Nat
  clamped : Bool
  outcome : EnergOutcome
deriving DecidableEq, Repr

/-- The energisation record (R122). -/
structure Energisation where
  trunk : Station
  setpoint : Nat
  clamped : Bool
  dwell : Nat
  ramp : Nat
  trip : Nat
  stage : Stage
  /-- the reading stored, or the ARC or CUT noted; none while the result is open (R124, R128) -/
  outcome : Option EnergOutcome
deriving DecidableEq, Repr

/-- The HV unit (R113). -/
structure Hv where
  holder : Option Station
  releasePending : Bool
  /-- the pending release raises no HV-RELEASED: it follows a station reset (R133) -/
  quiet : Bool
  reserved : Bool
  stepAsk : Both Bool
  reserveAsk : Both Bool
  /-- the asking stations, the one whose ask was set earlier first (R116) -/
  line : List Station
  string : Nat
  /-- the hold timer: stopped, or running from this time in ms (R120) -/
  holdTimer : Option Nat
  holderStep : Bool
  source : SourceState
  energ : Option Energisation
  sw : Switch
  /-- the fault latch: the trunk of a DISCHARGE-TIMEOUT (R126) -/
  latch : Option Station
  permission : Permission
  limits : Limits
  build : BuildMax
  last : Option EnergResult
  /-- LID-X is closed -/
  lidClosed : Both Bool
  /-- E-STOP is active -/
  estop : Bool
  /-- the discharge path is engaged -/
  path : Bool
deriving DecidableEq, Repr

/-! ## Chapter 9: the ticket printer unit -/

/-- A job of the print queue (R151); `cancelled` holds the number of the last line printed before the cancel line (R158). -/
structure Job where
  station : Station
  bank : BankNo
  serial : Nat
  verdict : Verdict
  found : Nat
  crc : Option Word16
  code : List Byte
  revision : Word16
  cancelled : Option Nat
deriving DecidableEq, Repr

/-- The printer link states (R154). -/
inductive LinkState where
  | idle
  | sending
  | waitAck
  | paused
  | stalled
deriving DecidableEq, Repr

/-- The ticket printer unit. -/
structure Printer where
  /-- the print queue, its head first -/
  queue : List Job
  /-- the composer's position: line and character, each from 1 (R152) -/
  line : Nat
  char : Nat
  /-- a line is in progress (R152) -/
  started : Bool
  link : LinkState
  /-- BUSY has risen since the strobe -/
  risen : Bool
  /-- a cancel was taken in STALLED: the line in progress is restarted when the link resumes (R158) -/
  restart : Bool
  /-- the byte in hand, on PD0 to PD7 -/
  data : Option Byte
  busy : Bool
  fault : Bool
deriving DecidableEq, Repr

/-! ## Chapter 10: ports and attention units -/

/-- The levels of a notice source, OFF lowest (R166). -/
inductive Level where
  | off
  | l0
  | l1
  | l2
  | top
deriving DecidableEq, Repr

/-- An attention unit (R165). `levels` holds sources 0 to 8; `stack` has its top first. -/
structure Attention where
  pending : Word16
  levels : Vector Level 9
  stack : List Level
  base : Byte
deriving DecidableEq, Repr

/-- The status codes (R175). -/
inductive Status where
  | ok
  | accepted
  | wait
  | abandoned
  | badLength
  | unknownRequest
  | notPermitted
  | badArgument
  | unreadable
  | busy
  | runOpen
  | noRun
  | noReference
  | notLoading
  | locked
  | overlap
  | windowSmall
  | cardMissing
  | printerBacklog
  | prerequisite
  | emptySelection
  | hvBarred
  | interlock
  | hvFault
  | notQueued
deriving DecidableEq, Repr

/-- READ NOTICES (R167); the stack from bottom to top. -/
structure NoticeReport where
  pending : Word16
  levels : List Level
  stack : List Level
  base : Byte
  attn : Bool
  alarm : Bool
deriving DecidableEq, Repr

/-- A window as READ MATRIX shows it (R21). -/
structure WindowReport where
  base : Nat
  limit : Nat
  lock : Bool
  enabled : Bool
deriving DecidableEq, Repr

/-- READ MATRIX (R21). -/
structure MatrixReport where
  state : MatrixState
  trunks : Both TrunkState
  windows : Both WindowReport
  settle : Both Nat
  presence : CardSet
  selTable : Selectors
  hot : Both Bool
deriving DecidableEq, Repr

/-- The header summary of REFERENCE STATUS (R34). -/
structure HeaderSummary where
  span : Nat
  nets : Nat
  members : Nat
  unused : Nat
  code : List Byte
  revision : Word16
deriving DecidableEq, Repr

/-- REFERENCE STATUS (R34). -/
structure ReferenceReport where
  state : RefState
  check : Option CheckKind
  lastResult : Option CheckResult
  crc : Option Word16
  summary : Option HeaderSummary
  armed : Bool
  active : Bool
deriving DecidableEq, Repr

/-- READ CHANNEL (R60). -/
structure ChannelReport where
  state : ChannelState
  range : Nat
  isoPending : Bool
  lastCode : Option Word16
  lastRaw : Option Nat
  lastResult : Option MeasResult
  groupOhms : Option Nat
  /-- the range of the last result (R52, R53) -/
  resultRange : Option Nat
deriving DecidableEq, Repr

/-- The progress of the connection phase (R94). -/
structure ConnectionProgress where
  scope : Scope
  limit : Nat
  net : Nat
  netCount : Nat
  pos : Nat
  /-- absent where the net has no member at that position -/
  memberPoint : Option Nat
  anchor : Nat
  reselected : Bool
  retest : Bool
  held : List Nat
  pairs : Nat
deriving DecidableEq, Repr

/-- The progress of the isolation phase (R110); the stack from bottom to top, each entry with its group value in Ω. -/
structure IsolationProgress where
  scope : Scope
  limit : Nat
  drivers : Nat
  driver : Nat
  what : Driver
  candidates : Nat
  stack : List (Entry × Option Nat)
  /-- the entry whose range test or confirm is in hand -/
  inHand : Option Entry
  groupDriver : Nat
  groupSweep : Nat
  confirms : Nat
  pairs : Nat
deriving DecidableEq, Repr

/-- A step slot as READ STATUS shows it (R146). -/
structure StepReport where
  selection : Selection
  selectedNets : Nat
  candidates : Nat
  voltage : Nat
  dwell : Nat
  threshold : Nat
  locate : Bool
  state : StepState
  energisations : Nat
  lastRins : Option Nat
  clamped : Bool
deriving DecidableEq, Repr

/-- The progress of insulation steps (R146). -/
structure InsulationProgress where
  step : Option StepReport
  queued : Option (StepReport × Bool)
  stack : List Entry
  underTest : Option Entry
deriving DecidableEq, Repr

/-- The progress of the activity (R80). -/
inductive Progress where
  | connection (p : ConnectionProgress)
  | isolation (p : IsolationProgress)
  | insulation (p : InsulationProgress)
deriving DecidableEq, Repr

/-- READ STATUS (R80). -/
structure StatusReport where
  run : RunState
  record : Option RunRecord
  banks : BankState × BankState
  lastBank : BankNo
  trunk : TrunkState
  summary : Option LastRun
  progress : Option Progress
  wait : EngineWait
deriving DecidableEq, Repr

/-- The energisation as READ HV shows it (R134). -/
structure EnergReport where
  trunk : Station
  setpoint : Nat
  clamped : Bool
  dwell : Nat
  stage : Stage
deriving DecidableEq, Repr

/-- READ HV (R134). -/
structure HvReport where
  holder : Option Station
  releasePending : Bool
  reserved : Bool
  waiting : Option Station
  string : Nat
  stepAsk : Both Bool
  reserveAsk : Both Bool
  holderStep : Bool
  holdTimer : Option Nat
  source : SourceState
  sw : Switch
  energ : Option EnergReport
  latch : Option Station
  permission : Permission
  limits : Limits
  build : BuildMax
  lidClosed : Both Bool
  estop : Bool
  hot : Both Bool
  last : Option EnergResult
deriving DecidableEq, Repr

/-- READ DEFECTS (R150): each record in its 12-byte form (R175). -/
structure DefectsReport where
  state : BankState
  count : Nat
  unlisted : Nat
  records : List (List Byte)
deriving DecidableEq, Repr

/-- READ PRINTER (R160). -/
structure PrinterReport where
  jobs : List (Station × BankNo × Nat × Verdict)
  headCancelled : Bool
  line : Nat
  char : Nat
  trailer : Bool
  link : LinkState
  busy : Bool
  fault : Bool
  policies : Both TicketPolicy
deriving DecidableEq, Repr

/-- The payload of a response. Where R169, R170 and R175 give the bytes, these are the bytes; where the spec lists what is
returned and gives no byte layout, the content stands as it is named (log 7). -/
inductive Payload where
  | empty
  | bytes (bs : List Byte)
  | notices (r : NoticeReport)
  | cause (c : ResetCause)
  | matrix (r : MatrixReport)
  | points (ps : List PointState)
  | words (ws : List Word16)
  | reference (r : ReferenceReport)
  | channel (r : ChannelReport)
  | opened (serial : Nat) (bank : BankNo)
  | closed (serial : Nat) (bank : BankNo) (verdict : Verdict) (found unlisted : Nat) (ticket : Bool)
  | stepTaken (queued : Bool)
  | status (r : StatusReport)
  | counters (next : Nat) (c : Counters)
  | hv (r : HvReport)
  | defects (r : DefectsReport)
  | printer (r : PrinterReport)
deriving DecidableEq, Repr

/-- A response: status, code echo, the CLAMPED and MORE flags, payload (R163, R175). -/
structure Response where
  status : Status
  echo : Byte
  clamped : Bool
  more : Bool
  payload : Payload
deriving DecidableEq, Repr

/-- A response frame: a response and the DROPPED flag as it stood (R162). -/
structure Frame where
  response : Response
  dropped : Bool
deriving DecidableEq, Repr

/-- The frame a port shifts out in the chip-select period in progress; `fromSlot` where it is the response slot's response,
still in the slot (R162). -/
structure Shift where
  frame : Frame
  fromSlot : Bool
deriving DecidableEq, Repr

/-- A request port (R161). -/
structure PortState where
  /-- the request slot: a request in work -/
  work : Option Request
  /-- the response slot -/
  response : Option Response
  dropped : Bool
  /-- the frame fixed at chip-select fall (R162) -/
  shifting : Option Shift
  /-- the frame shifted out in the last finished period -/
  lastFrame : Option Frame
deriving DecidableEq, Repr

/-! ## The whole part -/

/-- The state of the part. -/
structure State where
  porn : Bool
  linerst : Bool
  cause : ResetCause
  ports : PerPort PortState
  attention : PerPort Attention
  matrix : Matrix
  store : Store
  channels : Both Channel
  benches : Both Bench
  hv : Hv
  printer : Printer
  /-- the model's own: the number of free values taken so far (log 5) -/
  free : Nat
  /-- the commands that wait, the front first -/
  pending : List Instr
deriving DecidableEq, Repr

/-- Reasons for a fault. Nothing stops this part: every command on every state has a next state, so no reason is raised
(log 38). -/
inductive Fault where
  /-- raised by nothing; safe, since nothing stops -/
  | noFault
deriving DecidableEq, Repr

/-- Reasons for a refusal. -/
inductive Refusal where
  /-- raised by an arm of `exec` whose command has no meaning yet (there is none); safe: the model stops where the part goes on -/
  | notModelled (mnemonic : String)
deriving DecidableEq, Repr

/-! ## Reset values -/

/-- Every relay open. -/
def Relays.allOpen : Relays := { drive := 0, ret := 0 }

/-- Every selector NONE. -/
def Selectors.none : Selectors := { a := 0, b := 0 }

/-- The empty configuration (R9). -/
def Configuration.empty : Configuration := { drive := 0, ret := 0 }

/-- The window after a power-on or line reset (R17). -/
def Window.reset : Window := { base := 63, limit := 0, lock := false }

/-- A trunk controller after a power-on or line reset (R15, R16). -/
def Trunk.reset : Trunk :=
  { state := .idle, config := none, waiting := none, target := .allOpen, part := .load, settleTimer := none, settleTime := 3 }

/-- The matrix after a power-on or line reset, with the monitors' present readings (R1, R2, R4, R6, R7, R17). -/
def Matrix.reset (hot : Both Bool) : Matrix :=
  { state := .unknown, image := none, selTable := .none, presence := 0, load := none, slots := ⟨none, none⟩, hk := none,
    lastServed := .b, hkWait := none, windows := ⟨.reset, .reset⟩, trunks := ⟨.reset, .reset⟩, hot := hot }

/-- The store after a power-on (R43). -/
def Store.reset : Store :=
  { words := [], state := .empty, check := none, lastResult := none, crc := none, passed := false, armed := false,
    active := false, joined := [] }

/-- A channel after a power-on, line or supervisor reset (R44). -/
def Channel.reset : Channel :=
  { state := .idle, range := 0, lastCode := none, lastRaw := none, lastResult := none, inHand := none, isoPending := false }

/-- The counters after a power-on (R75). -/
def Counters.zero : Counters := { closed := 0, pass := 0, fail := 0, incomplete := 0, invalid := 0 }

/-- A bank after a power-on, line or supervisor reset (R148). -/
def Bank.reset : Bank := { state := .free, records := [], unlisted := 0 }

/-- A station after a power-on (R62, R65, R75, R76, R148, R151). -/
def Bench.reset : Bench :=
  { run := .noRun, record := none, summary := none, lastBank := .one, nextSerial := 1, counters := .zero, policy := .nonPass,
    banks := ⟨.reset, .reset⟩, sweep := none, locator := [], step := none, queued := none, wait := .nothing,
    handed := .empty }

/-- The build maximum in volts (R115). -/
def buildVolts : BuildMax → Nat
  | .v1000 => 1000
  | .v1500 => 1500

/-- The limits after a power-on or line reset (R115). -/
def Limits.reset (build : BuildMax) : Limits :=
  { cap := buildVolts build, ramp := 2, trip := 1000, hold := 1000, string := 8 }

/-- The HV unit after a power-on or line reset, with the strap and the interlock inputs found (R113, R115, R133). -/
def Hv.reset (build : BuildMax) (lids : Both Bool) (estop : Bool) : Hv :=
  { holder := none, releasePending := false, quiet := false, reserved := false, stepAsk := ⟨false, false⟩,
    reserveAsk := ⟨false, false⟩, line := [], string := 0, holdTimer := none, holderStep := false, source := .off,
    energ := none, sw := .off, latch := none, permission := .barred, limits := .reset build, build := build, last := none,
    lidClosed := lids, estop := estop, path := true }

/-- The printer unit after a power-on, line or supervisor reset: the link IDLE, or PAUSED where FAULT reads high (R154, R159). -/
def Printer.reset (busy fault : Bool) : Printer :=
  { queue := [], line := 1, char := 1, started := false, link := if fault then .paused else .idle, risen := false,
    restart := false, data := none, busy := busy, fault := fault }

/-- An attention unit after a power-on, line or supervisor reset (R166). -/
def Attention.reset : Attention :=
  { pending := 0, levels := #v[.off, .off, .off, .off, .off, .off, .off, .off, .off], stack := [], base := 0 }

/-- A port after a power-on (R164). -/
def PortState.reset : PortState :=
  { work := none, response := none, dropped := false, shifting := none, lastFrame := none }

/-- The chain load of the clearing pass: every relay open, every selector NONE (R5). -/
def clearingLoad : ChainLoad :=
  { requester := .housekeeping .clearing, contents := { relays := .allOpen, sel := .none } }

/-- The part right after a power-on whose PORN has been released, with every input pin low: both monitors cold, both lids
open, E-STOP clear, BUSY and FAULT low, the strap at 1000 V (log 3). With both monitors cold the matrix has become CLEARING
and the clearing load has started (R6). -/
def State.reset : State :=
  { porn := false, linerst := false, cause := .powerOn, ports := ⟨.reset, .reset, .reset⟩,
    attention := ⟨.reset, .reset, .reset⟩,
    matrix := { Matrix.reset ⟨false, false⟩ with state := .clearing, load := some clearingLoad },
    store := .reset, channels := ⟨.reset, .reset⟩, benches := ⟨.reset, .reset⟩,
    hv := .reset .v1000 ⟨false, false⟩ false, printer := .reset false false, free := 0, pending := [] }

/-- PORN or LINERST is asserted. -/
def State.inReset (s : State) : Bool := s.porn || s.linerst

end Sys2Proof.Machine
end

