-- ==== Sys2Proof/Machine/Ops.lean ====
section
/-! DEFINITION. The named operations over the state: one accessor and one update for each block, the reference image as an
addressed store, the raising of a notice, and the order of the two stations where the spec leaves it open. -/

namespace Sys2Proof.Machine

/-! ## Blocks -/

/-- The request port. -/
def State.port (s : State) (p : Port) : PortState := s.ports.get p

/-- The attention unit of a port. -/
def State.unit (s : State) (p : Port) : Attention := s.attention.get p

/-- The trunk controller of a station. -/
def State.trunk (s : State) (x : Station) : Trunk := s.matrix.trunks.get x

/-- The window of a station. -/
def State.window (s : State) (x : Station) : Window := s.matrix.windows.get x

/-- The trunk monitor reads 30 V or more (R2). -/
def State.hot (s : State) (x : Station) : Bool := s.matrix.hot.get x

/-- The measurement channel of a station. -/
def State.channel (s : State) (x : Station) : Channel := s.channels.get x

/-- The sweep engine, run, counters and banks of a station. -/
def State.bench (s : State) (x : Station) : Bench := s.benches.get x

def State.setPort (s : State) (p : Port) (v : PortState) : State := { s with ports := s.ports.set p v }

def State.setUnit (s : State) (p : Port) (v : Attention) : State := { s with attention := s.attention.set p v }

def State.setMatrix (s : State) (m : Matrix) : State := { s with matrix := m }

def State.setTrunk (s : State) (x : Station) (t : Trunk) : State :=
  { s with matrix := { s.matrix with trunks := s.matrix.trunks.set x t } }

def State.setStore (s : State) (v : Store) : State := { s with store := v }

def State.setChannel (s : State) (x : Station) (c : Channel) : State := { s with channels := s.channels.set x c }

def State.setBench (s : State) (x : Station) (b : Bench) : State := { s with benches := s.benches.set x b }

def State.setHv (s : State) (h : Hv) : State := { s with hv := h }

def State.setPrinter (s : State) (q : Printer) : State := { s with printer := q }

/-- One free value has been taken (log 5). -/
def State.advanceFree (s : State) : State := { s with free := s.free + 1 }

/-! ## The reference image (section 2.1) -/

/-- The word of a number; an unlisted word reads 0 (log 14). -/
def imageRead : List ImageCell → Nat → Word16
  | [], _ => 0
  | (b, w) :: rest, a => if a = b then w else imageRead rest a

/-- The image with one word written, in canonical form. -/
def imageWrite : List ImageCell → Nat → Word16 → List ImageCell
  | [], a, v => if v = 0 then [] else [(a, v)]
  | (b, w) :: rest, a, v =>
    if a < b then (if v = 0 then (b, w) :: rest else (a, v) :: (b, w) :: rest)
    else if a = b then (if v = 0 then rest else (a, v) :: rest)
    else (b, w) :: imageWrite rest a v

/-- Consecutive words written in order (R30). -/
def imageWriteAll : List ImageCell → Nat → List Word16 → List ImageCell
  | m, _, [] => m
  | m, a, w :: ws => imageWriteAll (imageWrite m a w) (a + 1) ws

/-- Consecutive words read (R33). -/
def imageReadAll (m : List ImageCell) (start count : Nat) : List Word16 :=
  (List.range count).map (fun i => imageRead m (start + i))

/-- The canonical form from a lowest word number on: word numbers rise, are below 8208, and no listed word is 0. -/
def imageWfFrom : Nat → List ImageCell → Bool
  | _, [] => true
  | lo, (a, v) :: rest => decide (lo ≤ a ∧ a < Config.imageWords ∧ v ≠ 0) && imageWfFrom (a + 1) rest

/-- The canonical form of the image. -/
def imageWf (m : List ImageCell) : Bool := imageWfFrom 0 m

/-! ## Notices (section 10.3) -/

/-- The order of the levels: OFF, 0, 1, 2, TOP (R166). -/
def levelRank : Level → Nat
  | .off => 0
  | .l0 => 1
  | .l1 => 2
  | .l2 => 3
  | .top => 4

/-- The level byte of a level handed out: 0, 1, 2, and 3 for TOP (R169). -/
def levelByte : Level → Byte
  | .off => 0xFF
  | .l0 => 0
  | .l1 => 1
  | .l2 => 2
  | .top => 3

/-- The sources that have a name on a port, as bits (R165). -/
def definedSources : Port → Word16
  | .ps => 0xC03F
  | .pa | .pb => 0xC1FF

/-- The level of a source: TOP for 14 and 15 (R166); an undefined source reads OFF (log 26). -/
def sourceLevel (u : Attention) (n : Nat) : Level :=
  if n = 14 ∨ n = 15 then .top else if h : n < 9 then u.levels[n] else .off

/-- The bit of a source in the pending set, and in the mask and the values of WRITE PENDING: bit n, counted from the least significant, for
source n (log 53). -/
def sourceBit (n : Nat) : Word16 := 1#16 <<< n

/-- A block raises a source in an attention unit (R166). -/
def raiseIn (u : Attention) (n : Nat) : Attention :=
  if sourceLevel u n = .off then u else { u with pending := u.pending ||| sourceBit n }

/-- A block raises a source in the attention unit of a port (R166). -/
def raise (p : Port) (n : Nat) (s : State) : State := s.setUnit p (raiseIn (s.unit p) n)

/-- The rank of the top of the serving stack; an empty stack counts as lying below level 0 (R168). -/
def stackRank (u : Attention) : Nat := (u.stack.head?.map levelRank).getD 0

/-- A source is eligible: pending, and its level above the top of the serving stack (R169). -/
def eligible (u : Attention) (n : Nat) : Bool :=
  u.pending.getLsbD n && decide (stackRank u < levelRank (sourceLevel u n))

/-- The port's ATTN line (R168). -/
def attnLine (u : Attention) (alarm : Bool) : Bool := alarm || (List.range 16).any (eligible u)

/-- The ATTN line of a port of the part. -/
def State.attn (s : State) (p : Port) : Bool := attnLine (s.unit p) s.store.active

/-- The better of two eligible sources: the higher level, and among equal levels the one found first (R169). -/
def betterSource (u : Attention) (best : Option Nat) (n : Nat) : Option Nat :=
  match best with
  | none => some n
  | some m => if levelRank (sourceLevel u m) < levelRank (sourceLevel u n) then some n else some m

/-- The source TAKE NOTICE picks (R169). -/
def pickSource (u : Attention) : Option Nat :=
  ((List.range 16).filter (eligible u)).foldl (betterSource u) none

/-- RUN-READY on a station port. -/
def srcRunReady : Nat := 0
/-- STEP-DONE on a station port. -/
def srcStepDone : Nat := 1
/-- DEFECT on a station port. -/
def srcDefect : Nat := 2
/-- HV-GRANTED on a station port. -/
def srcHvGranted : Nat := 3
/-- HV-RELEASED on a station port. -/
def srcHvReleased : Nat := 4
/-- RUN-ENDED on a station port. -/
def srcRunEnded : Nat := 5
/-- TICKET-DONE on a station port. -/
def srcTicketDone : Nat := 6
/-- CALL on a station port. -/
def srcCall : Nat := 8
/-- PRINTER on a port. -/
def srcPrinter : Port → Nat
  | .ps => 2
  | .pa | .pb => 7
/-- LOAD-CHECKED on port PS. -/
def srcLoadChecked : Nat := 0
/-- REFERENCE-FAULT on port PS. -/
def srcReferenceFault : Nat := 1
/-- HV-FAULT on port PS. -/
def srcHvFault : Nat := 3
/-- RUN-ENDED-A and RUN-ENDED-B on port PS. -/
def srcRunEndedOf : Station → Nat
  | .a => 4
  | .b => 5
/-- INTERLOCK on every port. -/
def srcInterlock : Nat := 14
/-- REFERENCE-ALARM on every port. -/
def srcAlarm : Nat := 15

/-- A source raised on all three ports. -/
def raiseAll (n : Port → Nat) (s : State) : State := raise .ps (n .ps) (raise .pb (n .pb) (raise .pa (n .pa) s))

/-! ## The two stations inside one command -/

/-- One command reaches both stations. Where both have work in it the order is a free value (log 6); otherwise it makes no
difference. -/
def eachStation (bothWork : Bool) (f : Station → State → State) (s : State) : State :=
  if bothWork then
    if Config.stationAFirst s.free then f .b (f .a s.advanceFree) else f .a (f .b s.advanceFree)
  else f .b (f .a s)

/-- A run of the station is open: its state is not NO-RUN (R62). -/
def runOpen (s : State) (x : Station) : Bool := decide ((s.bench x).run ≠ .noRun)

/-- The store is CHECKING, so that every table read waits (R41). -/
def checking (s : State) : Bool := decide (s.store.state = .checking)

end Sys2Proof.Machine
end

