-- ==== Sys2Proof/Machine/Operands.lean ====
section
/-! DEFINITION. Operands: the named values of request arguments (R175) and the clamps of section 6 of 00_scope.md, the fields of
the reference image (R23, R24, R175), and the mapping of logical points through a window (R17). -/

namespace Sys2Proof.Machine

/-! ## Named values of arguments -/

/-- A station, trunk or channel name: A is 0, B is 1. -/
def stationOf (v : Byte) : Option Station :=
  if v = 0 then some .a else if v = 1 then some .b else none

/-- A bank: 0 or 1. -/
def bankOf (v : Byte) : Option BankNo :=
  if v = 0 then some .zero else if v = 1 then some .one else none

/-- A level: OFF, 0, 1, 2 in that order (R167). -/
def levelOf (v : Byte) : Option Level :=
  if v = 0 then some .off else if v = 1 then some .l0 else if v = 2 then some .l1 else if v = 3 then some .l2 else none

/-- A scope: CONNECTION-ONLY, FULL (R82). -/
def scopeOf (v : Byte) : Option Scope :=
  if v = 0 then some .connectionOnly else if v = 1 then some .full else none

/-- A ticket policy: NONE, NON-PASS, ALL (R151). -/
def policyOf (v : Byte) : Option TicketPolicy :=
  if v = 0 then some .none else if v = 1 then some .nonPass else if v = 2 then some .all else none

/-- A permission: PERMITTED, BARRED, PERMITTED-LOCKED, BARRED-LOCKED (R113). -/
def permissionOf (v : Byte) : Option Permission :=
  if v = 0 then some .permitted else if v = 1 then some .barred
  else if v = 2 then some .permittedLocked else if v = 3 then some .barredLocked else none

/-- A selection: the kind NET, CLASS-MASK or CLASS-PAIR and the selection word (R136, R175); none where R136 refuses it. -/
def selectionOf (kind : Byte) (word : Word16) : Option Selection :=
  if kind = 0 then (if word.toNat ≤ 1023 then some (.net word.toNat) else none)
  else if kind = 1 then some (.classMask (word.extractLsb' 8 8) (word.extractLsb' 0 8))
  else if kind = 2 then some (.classPair (word.extractLsb' 8 8) (word.extractLsb' 0 8))
  else none

/-- A value clamped into a range (00_scope.md, section 6). -/
def clampTo (lo hi v : Nat) : Nat := if v < lo then lo else if hi < v then hi else v

/-! ## Fields of the reference image -/

/-- A word of the image as a number. -/
def wordNat (m : List ImageCell) (a : Nat) : Nat := (imageRead m a).toNat

/-- Point span S. -/
def hdrSpan (m : List ImageCell) : Nat := wordNat m 1
/-- Net count N. -/
def hdrNets (m : List ImageCell) : Nat := wordNat m 2
/-- Member count M. -/
def hdrMembers (m : List ImageCell) : Nat := wordNat m 3
/-- Default continuity threshold in mΩ, high word first. -/
def hdrThreshold (m : List ImageCell) : Nat := 65536 * wordNat m 4 + wordNat m 5
/-- Short threshold in Ω. -/
def hdrShort (m : List ImageCell) : Nat := wordNat m 6
/-- Continuity start range. -/
def hdrStart (m : List ImageCell) : Nat := wordNat m 7
/-- Default insulation voltage in V. -/
def hdrVoltage (m : List ImageCell) : Nat := wordNat m 8
/-- Default dwell in ms. -/
def hdrDwell (m : List ImageCell) : Nat := wordNat m 9
/-- Default insulation threshold in MΩ. -/
def hdrInsulation (m : List ImageCell) : Nat := wordNat m 10
/-- Harness code: six characters, two a word, high byte first (R23). -/
def hdrCode (m : List ImageCell) : List Byte := be16 (imageRead m 11) ++ be16 (imageRead m 12) ++ be16 (imageRead m 13)
/-- Program revision. -/
def hdrRevision (m : List ImageCell) : Word16 := imageRead m 14

/-- Member count of net i. -/
def netCount (m : List ImageCell) (i : Nat) : Nat := wordNat m (16 + 4 * i)
/-- First member index of net i. -/
def netFirst (m : List ImageCell) (i : Nat) : Nat := wordNat m (17 + 4 * i)
/-- Class code of net i. -/
def netClass (m : List ImageCell) (i : Nat) : Byte := (imageRead m (18 + 4 * i)).extractLsb' 0 8
/-- EXCLUDE-INSULATION of net i. -/
def netExcluded (m : List ImageCell) (i : Nat) : Bool := (imageRead m (18 + 4 * i)).getLsbD 8
/-- Threshold of net i in mΩ: its override of 10 mΩ units, or the default where it is absent (R24, R87). -/
def netThreshold (m : List ImageCell) (i deflt : Nat) : Nat :=
  if wordNat m (19 + 4 * i) = 0 then deflt else 10 * wordNat m (19 + 4 * i)
/-- Entry j of the member list. -/
def memberAt (m : List ImageCell) (j : Nat) : Nat := wordNat m (4112 + j)
/-- Offset of physical point p in mΩ. -/
def offsetOf (m : List ImageCell) (p : Nat) : Nat := wordNat m (6160 + p)

/-! ## Points, drivers and windows -/

/-- The set of one point; empty for a number no point has. -/
def pointSet (p : Nat) : PointSet := 1#2048 <<< p

/-- The set of the members of entries first, first + 1, up to `count` of them. -/
def memberSet (m : List ImageCell) (first : Nat) : Nat → PointSet
  | 0 => 0
  | n + 1 => memberSet m first n ||| pointSet (memberAt m (first + n))

/-- The points of net i. -/
def netPoints (m : List ImageCell) (i : Nat) : PointSet := memberSet m (netFirst m i) (netCount m i)

/-- The unused points below the span, ascending (R27). -/
def unusedPoints (m : List ImageCell) (span members : Nat) : List Nat :=
  (List.range span).filter (fun p => !(memberSet m 0 members).getLsbD p)

/-- The points of a driver or candidate (R96). -/
def driverPoints (m : List ImageCell) : Driver → PointSet
  | .net i => netPoints m i
  | .point p => pointSet p

/-- The first point of a driver (R96). -/
def firstPoint (m : List ImageCell) : Driver → Nat
  | .net i => memberAt m (netFirst m i)
  | .point p => p

/-- A driver or candidate as a subject: a net with a point of it, an unused point with the net absent (R105, R147). -/
def subjectOf (d : Driver) (point : Nat) : Subject :=
  match d with
  | .net i => { net := some i, point := point }
  | .point p => { net := none, point := p }

/-- A driver or candidate with its first point as a subject (R96, R147). -/
def Driver.subject (m : List ImageCell) (d : Driver) : Subject := subjectOf d (firstPoint m d)

/-- The points of several drivers together. -/
def driversPoints (m : List ImageCell) : List Driver → PointSet
  | [] => 0
  | d :: ds => driverPoints m d ||| driversPoints m ds

/-- Driver d of the driver list: the nets first, then the unused points (R96). -/
def driverAt (nets : Nat) (unused : List Nat) (d : Nat) : Driver :=
  if d < nets then .net d else .point (unused.getD (d - nets) 0)

/-- The numbers first to last. -/
def span (first last : Nat) : List Nat := (List.range (last + 1 - first)).map (first + ·)

/-- The window is enabled (R17). -/
def Window.enabled (w : Window) : Bool := decide (w.base ≤ w.limit)

/-- The cards from base to limit. -/
def cardRange (base limit : Nat) : CardSet := (BitVec.allOnes 64 >>> (63 - (limit - base))) <<< base

/-- The cards of a window; none where it is disabled (R17). -/
def Window.cards (w : Window) : CardSet := if w.enabled then cardRange w.base w.limit else 0

/-- The number of points of a window (R17). -/
def Window.size (w : Window) : Nat := if w.enabled then 32 * (w.limit - w.base + 1) else 0

/-- The physical points of a window. -/
def Window.points (w : Window) : PointSet :=
  if w.enabled then (BitVec.allOnes 2048 >>> (2048 - w.size)) <<< (32 * w.base) else 0

/-- Logical points mapped through a window; a point without a physical point is dropped (R9, R17). -/
def Window.map (w : Window) (logical : PointSet) : PointSet := (logical <<< (32 * w.base)) &&& w.points

/-- The physical point of one logical point (R17). -/
def Window.physical (w : Window) (l : Nat) : Nat := 32 * w.base + l

/-- The target of a configuration on the window's cards; a point named in both sets floats (R3, R9). -/
def targetOf (w : Window) (c : Configuration) : Relays :=
  { drive := w.map c.drive &&& ~~~ w.map c.ret, ret := w.map c.ret &&& ~~~ w.map c.drive }

/-- The cards that hold logical points 0 to span − 1 of a window (R64). -/
def spanCards (w : Window) (n : Nat) : CardSet := if n = 0 then 0 else cardRange w.base (w.base + (n - 1) / 32)

/-- The selector of a card. -/
def Selectors.card (v : Selectors) (c : Nat) : Selector :=
  if v.a.getLsbD c then .to .a else if v.b.getLsbD c then .to .b else .none

/-- The cards whose selector is a station. -/
def Selectors.of (v : Selectors) : Station → CardSet
  | .a => v.a
  | .b => v.b

/-- The selector table after window X takes the given cards: they become X, other cards of X become NONE, the rest is left
alone (R19). -/
def Selectors.take (v : Selectors) (x : Station) (cards : CardSet) : Selectors :=
  match x with
  | .a => { a := cards, b := v.b &&& ~~~ cards }
  | .b => { a := v.a &&& ~~~ cards, b := cards }

/-- The state of a point from its two relays (R1). -/
def Relays.point (r : Relays) (p : Nat) : PointState :=
  match r.drive.getLsbD p, r.ret.getLsbD p with
  | true, false => .drive
  | false, true => .ret
  | _, _ => .float

/-! ## Banks -/

/-- One bank of a station. -/
def Banks.get (v : Banks) : BankNo → Bank
  | .zero => v.zero
  | .one => v.one

/-- The banks with one replaced. -/
def Banks.set (v : Banks) : BankNo → Bank → Banks
  | .zero, b => { v with zero := b }
  | .one, b => { v with one := b }

/-- The other bank. -/
def BankNo.other : BankNo → BankNo
  | .zero => .one
  | .one => .zero

end Sys2Proof.Machine
end

