-- ==== Sys2Proof/Machine/Flags.lean ====
section
/-! DEFINITION. The values and flags the part computes: resistances, setpoints and their clamped flag, the conditions of the
HV supervision, the checksum, the verdict and its counters, and the 12-byte defect record. -/

namespace Sys2Proof.Machine

/-! ## Resistance (chapter 3) -/

/-- The multiplier of a range: one code step in mΩ, times 1000 (R45). -/
def multiplier (k : Nat) : Nat :=
  if k = 0 then 625 else if k = 1 then 6250 else if k = 2 then 62500 else 625000

/-- The forced current of a range, in µA (R45). -/
def forcedCurrent (k : Nat) : Nat :=
  if k = 0 then 100000 else if k = 1 then 10000 else if k = 2 then 1000 else 100

/-- The length of an aperture at a range, in ms (R45, R46). -/
def apertureTime (k : Nat) : Nat := if k = 3 then 4 else 1

/-- The current source of a channel, in µA: on at the current of the range while an aperture runs, off (none) otherwise (R45). -/
def Channel.current (c : Channel) : Option Nat := if c.state = .measuring then some (forcedCurrent c.range) else none

/-- Raw resistance of a code at a range, in mΩ (R48). -/
def rawResistance (code k : Nat) : Nat := (code * multiplier k + 500) / 1000

/-- Compensated resistance: the two offsets subtracted, 0 where the difference is negative (R51). -/
def compensated (raw offP offQ : Nat) : Nat := raw - offP - offQ

/-- A value in mΩ rounded half up to whole ohms (R54). -/
def groupOhms (raw : Nat) : Nat := (raw + 500) / 1000

/-- The result of a group aperture (R53). -/
def groupResult (code threshold : Nat) : MeasResult :=
  if Config.overRange ≤ code then .clean none
  else if threshold * 1000 ≤ rawResistance code 3 then .clean (some (rawResistance code 3))
  else .fail (rawResistance code 3)

/-- The group value in Ω that goes with a result (R54). -/
def resultOhms : MeasResult → Option Nat
  | .clean (some v) => some (groupOhms v)
  | .fail v => some (groupOhms v)
  | _ => none

/-- The range that goes with a result: of its final aperture for a PAIR-VALUE, 3 for OPEN (R52) and for a group result (R53). -/
def resultRange : MeasResult → Option Nat
  | .pairValue _ k => some k
  | .openWire | .clean _ | .fail _ => some 3
  | .notTaken _ | .discarded => none

/-! ## Insulation (chapter 7) -/

/-- Insulation resistance in MΩ (R132). -/
def insulationResistance (volts nanoAmps : Nat) : Nat :=
  if nanoAmps = 0 then Config.insulationMax else min (volts * 1000 / nanoAmps) Config.insulationMax

/-- The setpoint: the request rounded down to 10 V, then clamped into 50 V to the cap (R122). -/
def setpointOf (cap requested : Nat) : Nat := clampTo 50 cap (requested / 10 * 10)

/-- The permission allows grants (R114). -/
def Permission.allows : Permission → Bool
  | .permitted | .permittedLocked => true
  | .barred | .barredLocked => false

/-- The permission is locked (R114). -/
def Permission.locked : Permission → Bool
  | .permittedLocked | .barredLocked => true
  | .permitted | .barred => false

/-- The source output is on (R123). -/
def SourceState.outputOn : SourceState → Bool
  | .ramping | .dwelling | .sampling => true
  | .off | .discharging | .faulted => false

/-- A reading of HVI at or above the trip current of the record (R124). -/
def tripReached (e : Energisation) (hvi : Nat) : Bool := decide (e.trip * 1000 ≤ hvi)

/-- A reading of HVV below 80 % of the setpoint (R124). -/
def sagReached (e : Energisation) (hvv : Nat) : Bool := decide (hvv * 10 < e.setpoint * 8)

/-- A CUT result (R142: it does not count). -/
def EnergOutcome.isCut : EnergOutcome → Bool
  | .cut _ => true
  | _ => false

/-! ## The checksum (R37) -/

/-- One bit fed to the remainder. -/
def crcBit (rem : Word16) (bit : Bool) : Word16 :=
  if rem.getLsbD 15 = bit then rem <<< 1 else (rem <<< 1) ^^^ 0x8005#16

/-- One word fed: its high byte first, the most significant bit of each byte first. -/
def crcWord (rem w : Word16) : Word16 :=
  (List.range 16).foldl (fun r i => crcBit r (w.getLsbD (15 - i))) rem

/-! ## Verdicts and counters (R70, R75) -/

/-- The verdict of a run record (R70). -/
def verdictOf (r : RunRecord) : Verdict :=
  if r.refFault then .invalidReference
  else if 0 < r.found then .fail
  else if r.continuity ≠ .done ∨ r.stepInterrupted then .incomplete
  else .pass

/-- A counted run end: one to closed and one to the verdict's counter (R75). -/
def Counters.count (c : Counters) : Verdict → Counters
  | .pass => { c with closed := c.closed + 1, pass := c.pass + 1 }
  | .fail => { c with closed := c.closed + 1, fail := c.fail + 1 }
  | .incomplete => { c with closed := c.closed + 1, incomplete := c.incomplete + 1 }
  | .invalidReference => { c with closed := c.closed + 1, invalid := c.invalid + 1 }

/-- The run needs a ticket under its policy (R71). -/
def needsTicket : TicketPolicy → Verdict → Bool
  | .none, _ => false
  | .nonPass, v => v ≠ .pass
  | .all, _ => true

/-- A count that rises by one and stays at 65,535 (R63). -/
def saturate (n : Nat) : Nat := if n < Config.countMax then n + 1 else n

/-- The next serial after one is taken (R66). -/
def serialAfter (n : Nat) : Nat := if n = 999999 then 1 else n + 1

/-! ## The defect record of R175 -/

/-- The kind byte. -/
def DefectKind.byte : DefectKind → Byte
  | .openWire => 1
  | .highR => 2
  | .short => 3
  | .leakGroup => 4
  | .insLow => 5
  | .arc => 6

/-- A driver or candidate word: bit 15 for an unused point. -/
def driverWord : Driver → Word16
  | .net i => BitVec.ofNat 16 i
  | .point p => 0x8000#16 ||| BitVec.ofNat 16 p

/-- A subject as the driver or candidate it names. -/
def Subject.driver (v : Subject) : Driver :=
  match v.net with
  | some i => .net i
  | none => .point v.point

/-- The selection word. -/
def Selection.word : Selection → Word16
  | .net n => BitVec.ofNat 16 n
  | .classMask v k => v ++ k
  | .classPair v1 v2 => v1 ++ v2

/-- The selection kind, bits 6 to 7 of byte 3. -/
def Selection.kindBits : Selection → Byte
  | .net _ => 0
  | .classMask _ _ => 1
  | .classPair _ _ => 2

/-- The form of subject b, bits 4 to 5 of byte 3. -/
def SubjectB.formBits : SubjectB → Byte
  | .absent => 0
  | .single _ => 1
  | .range _ _ => 2
  | .all => 3

/-- The first candidate word of subject b; 0 for ALL. -/
def SubjectB.firstWord : SubjectB → Word16
  | .single v => driverWord v.driver
  | .range d _ => driverWord d
  | .absent | .all => 0

/-- The last candidate word of subject b; 0 for ALL. -/
def SubjectB.lastWord : SubjectB → Word16
  | .single v => driverWord v.driver
  | .range _ d => driverWord d
  | .absent | .all => 0

/-- The member point word of an OPEN or HIGH-R; 0xFFFF where subject b is absent. -/
def SubjectB.pointWord : SubjectB → Word16
  | .single v => BitVec.ofNat 16 v.point
  | _ => 0xFFFF

/-- Byte 3: the range in bits 0 to 1, value present in bit 2, the form of subject b in bits 4 to 5, the selection kind in bits
6 to 7. -/
def Defect.infoByte (d : Defect) : Byte :=
  BitVec.ofNat 8 ((d.range.getD 0) % 4) ||| (if d.value.isSome then 4#8 else 0#8) ||| (d.b.formBits <<< 4)
    ||| ((d.selection.map Selection.kindBits).getD 0 <<< 6)

/-- The 12-byte form of a defect record (R175). -/
def Defect.bytes (d : Defect) : List Byte :=
  let value := d.value.getD 0
  let head := be16 (BitVec.ofNat 16 d.seq) ++ [d.kind.byte, d.infoByte]
  let sel := be16 ((d.selection.map Selection.word).getD 0)
  let aPoint := BitVec.ofNat 16 ((d.a.map (·.point)).getD 0)
  let aDriver := (d.a.map (fun v => driverWord v.driver)).getD 0
  match d.kind with
  | .openWire | .highR => head ++ be32 (BitVec.ofNat 32 value) ++ be16 aPoint ++ be16 d.b.pointWord
  | .short => head ++ be32 (BitVec.ofNat 32 value) ++ be16 aDriver ++ be16 d.b.firstWord
  | .leakGroup => head ++ be16 d.b.lastWord ++ be16 (BitVec.ofNat 16 value) ++ be16 aDriver ++ be16 d.b.firstWord
  | .insLow => head ++ sel ++ be16 (BitVec.ofNat 16 value) ++ be16 d.b.firstWord ++ be16 d.b.lastWord
  | .arc => head ++ sel ++ be16 (BitVec.ofNat 16 value) ++ be16 0#16 ++ be16 0#16

/-! ## The response frame of R175 -/

/-- The code of a status. -/
def Status.byte : Status → Byte
  | .ok => 0x00
  | .accepted => 0x01
  | .wait => 0x02
  | .abandoned => 0x03
  | .badLength => 0x10
  | .unknownRequest => 0x11
  | .notPermitted => 0x12
  | .badArgument => 0x13
  | .unreadable => 0x14
  | .busy => 0x20
  | .runOpen => 0x21
  | .noRun => 0x22
  | .noReference => 0x23
  | .notLoading => 0x24
  | .locked => 0x25
  | .overlap => 0x26
  | .windowSmall => 0x27
  | .cardMissing => 0x28
  | .printerBacklog => 0x29
  | .prerequisite => 0x2A
  | .emptySelection => 0x2B
  | .hvBarred => 0x2C
  | .interlock => 0x2D
  | .hvFault => 0x2E
  | .notQueued => 0x2F

/-- The flags byte of a frame: DROPPED in bit 0, CLAMPED in bit 1, MORE in bit 2. -/
def Frame.flags (f : Frame) : Byte :=
  (if f.dropped then 1#8 else 0#8) ||| (if f.response.clamped then 2#8 else 0#8) ||| (if f.response.more then 4#8 else 0#8)

/-- The bytes of a payload where the spec gives its layout; none for the named content of log 7. -/
def Payload.bytes? : Payload → Option (List Byte)
  | .empty => some []
  | .bytes bs => some bs
  | .words ws => some (ws.flatMap be16)
  | .notices _ | .cause _ | .matrix _ | .points _ | .reference _ | .channel _ | .opened _ _ | .closed _ _ _ _ _ _ | .stepTaken _
  | .status _ | .counters _ _ | .hv _ | .defects _ | .printer _ => none

/-- A response frame around the bytes of its payload: status, code echo, flags, payload length, payload. -/
def Frame.around (f : Frame) (payload : List Byte) : List Byte :=
  f.response.status.byte :: f.response.echo :: f.flags :: BitVec.ofNat 8 payload.length :: payload

/-- The bytes of a response frame, where the spec gives the layout of its payload. -/
def Frame.bytes? (f : Frame) : Option (List Byte) := f.response.payload.bytes?.map f.around

end Sys2Proof.Machine
end

