-- ==== Sys2Proof/Machine/Checker.lean ====
section
/-! DEFINITION. The checker's pass over the image: the order of its reads, the structure items and the checksum (R35 to R37). -/

namespace Sys2Proof.Machine

/-- A check at its start (R35, R37). -/
def Check.start (kind : CheckKind) : Check :=
  { kind := kind, pos := 0, rem := 0xFFFF, fault := none, sum := 0, count := 0, net := 0, left := 0, prev := none, seen := 0 }

/-- The image word the checker reads at a position of its pass, for the N and M of the header (R35). -/
def passWord (nets members pos : Nat) : Nat :=
  if pos < 16 + 4 * nets then pos
  else if pos < 16 + 4 * nets + members then 4112 + (pos - (16 + 4 * nets))
  else 6160 + (pos - (16 + 4 * nets + members))

/-- The reads of a pass that gets past the header (R35). -/
def passLength (nets members : Nat) : Nat := 2064 + 4 * nets + members

/-- A failure noted: the lowest-numbered one is kept, and of one item the first met (R35, R36). -/
def Check.note (k : Check) (item : Nat) (reason : FaultReason) (location : FaultLocation) : Check :=
  match k.fault with
  | some f => if item < f.item then { k with fault := some ⟨item, reason, location⟩ } else k
  | none => { k with fault := some ⟨item, reason, location⟩ }

/-- A failure noted where a condition fails. -/
def Check.judge (k : Check) (passes : Bool) (item : Nat) (reason : FaultReason) (location : FaultLocation) : Check :=
  if passes then k else k.note item reason location

/-- Items 1 to 4, judged after the header words in both kinds of check (R35, R36). -/
def Check.judgeHeader (m : List ImageCell) (k : Check) : Check :=
  (((k.judge (imageRead m 0 = 0x4648) 1 .formatTag .none).judge (1 ≤ hdrSpan m ∧ hdrSpan m ≤ 2048) 2 .span .none).judge
    (1 ≤ hdrNets m ∧ hdrNets m ≤ 1024) 3 .netCount .none).judge (1 ≤ hdrMembers m ∧ hdrMembers m ≤ 2048) 4 .memberCount .none

/-- The fields of item 9 in their order, each with whether it lies in its range of R23. -/
def headerLimits (m : List ImageCell) : List (HeaderField × Bool) :=
  [(.continuityThreshold, decide (1 ≤ hdrThreshold m ∧ hdrThreshold m ≤ 40000000)),
   (.shortThreshold, decide (100 ≤ hdrShort m ∧ hdrShort m ≤ 40000)),
   (.startRange, decide (hdrStart m ≤ 3)),
   (.insulationVoltage, decide (50 ≤ hdrVoltage m ∧ hdrVoltage m ≤ 1500)),
   (.dwell, decide (10 ≤ hdrDwell m ∧ hdrDwell m ≤ 60000)),
   (.insulationThreshold, decide (1 ≤ hdrInsulation m ∧ hdrInsulation m ≤ 60000))]

/-- Item 9, judged from the header words (R36). -/
def Check.judgeLimits (m : List ImageCell) (k : Check) : Check :=
  match (headerLimits m).find? (fun f => !f.2) with
  | some f => k.note 9 .headerLimits (.field f.1)
  | none => k

/-- The pass has ended at the header: one of items 1 to 4 failed (R35). -/
def Check.headerFault (k : Check) : Bool :=
  match k.fault with
  | some f => decide (f.item ≤ 4)
  | none => false

/-- Items 5 and 6 for a word of net record i (R36). -/
def Check.readRecord (m : List ImageCell) (k : Check) (i r : Nat) (w : Word16) : Check :=
  if r = 0 then ({ k with count := w.toNat }).judge (1 ≤ w.toNat ∧ w.toNat ≤ 512) 5 .netSize (.net i)
  else if r = 1 then
    let k1 := k.judge (w.toNat = k.sum) 6 .contiguity (.net i)
    let k2 := { k1 with sum := k.sum + k.count }
    if i + 1 = hdrNets m then k2.judge (k2.sum = hdrMembers m) 6 .contiguity .none else k2
  else k

/-- Items 5 and 6 have not failed, so that members can be given to their nets (R36). -/
def Check.netsKnown (k : Check) : Bool :=
  match k.fault with
  | some f => decide (6 < f.item)
  | none => true

/-- The net of the next member entry: the net in hand, or the next one where its members have all been read. -/
def Check.nextMember (m : List ImageCell) (k : Check) (j : Nat) : Check :=
  if k.left = 0 then
    let i := if j = 0 then 0 else k.net + 1
    { k with net := i, left := netCount m i, prev := none }
  else k

/-- Items 7 and 8 for entry j of the member list (R36). -/
def Check.readMember (m : List ImageCell) (k : Check) (j : Nat) (w : Word16) : Check :=
  if k.netsKnown then
    let k1 := k.nextMember m j
    let ascending := match k1.prev with
      | some v => decide (v < w.toNat)
      | none => true
    let k2 := k1.judge (ascending && decide (w.toNat < hdrSpan m)) 7 .memberOrder (.net k1.net)
    let k3 := k2.judge (!k1.seen.getLsbD w.toNat) 8 .sharedPoint (.pointNet w.toNat k1.net)
    { k3 with left := k1.left - 1, prev := some w.toNat, seen := k1.seen ||| pointSet w.toNat }
  else k

/-- Item 10 for the offset of physical point p (R36). -/
def Check.readOffset (k : Check) (p : Nat) (w : Word16) : Check :=
  k.judge (w.toNat ≤ 4095) 10 .offset (.physical p)

/-- The structure items that the word at a position concerns (R35): the header items once its sixteen words are read, and, in a
full check, items 5 to 10. -/
def Check.judgeWord (m : List ImageCell) (k : Check) (w : Word16) : Check :=
  let nets := hdrNets m
  let members := hdrMembers m
  if k.pos < 15 then k
  else if k.pos = 15 then
    let k1 := k.judgeHeader m
    if k1.headerFault then k1 else if k1.kind = .full then k1.judgeLimits m else k1
  else if k.kind = .checksum then k
  else if k.pos < 16 + 4 * nets then k.readRecord m ((k.pos - 16) / 4) ((k.pos - 16) % 4) w
  else if k.pos < 16 + 4 * nets + members then k.readMember m (k.pos - (16 + 4 * nets)) w
  else k.readOffset (k.pos - (16 + 4 * nets + members)) w

/-- The pass has read its last word: after 16 reads on a header fault, else after all of them (R35). -/
def Check.complete (m : List ImageCell) (k : Check) : Bool :=
  decide (16 ≤ k.pos) && (k.headerFault || decide (passLength (hdrNets m) (hdrMembers m) ≤ k.pos))

/-- One read of the checker: the word is fed to the checksum, all but word 15, and judged (R35, R37). -/
def Check.read (m : List ImageCell) (k : Check) : Check :=
  if k.complete m then k
  else
    let w := imageRead m (passWord (hdrNets m) (hdrMembers m) k.pos)
    let fed := if k.pos = 15 then k else { k with rem := crcWord k.rem w }
    let judged := fed.judgeWord m w
    { judged with pos := k.pos + 1 }

/-- The fault a completed pass reports: the structure fault kept, else CHECKSUM where the computed CRC differs (R36, R37). -/
def Check.verdict (m : List ImageCell) (k : Check) : Option (FaultReason × FaultLocation) :=
  match k.fault with
  | some f => some (f.reason, f.location)
  | none => if k.rem = imageRead m 15 then none else some (.checksum, .none)

/-- The result of a completed pass; the computed CRC only where no structure fault stands (R36, R37). -/
def Check.result (m : List ImageCell) (k : Check) : CheckResult :=
  { kind := k.kind, fault := k.verdict m, stored := imageRead m 15,
    computed := if k.fault.isSome then none else some k.rem }

end Sys2Proof.Machine
end

