-- ==== Sys2Proof/Machine/Source.lean ====
section
/-! DEFINITION. The channel's isolation and the energisation of the source, as far as neither reaches an engine: connecting,
cutting, discharging (R49, R55, R56, R122 to R126, R128). What an ended energisation means to a step is in Insulation.lean. -/

namespace Sys2Proof.Machine

/-! ## The channel and the switch -/

/-- Channel MX leaves ISOLATED, or drops a pending isolation: the switch stands OFF, or the request is withdrawn; a pair
measurement still compensating returns to COMPENSATING (R56). -/
def leaveIsolation (x : Station) (s : State) : State :=
  let c := s.channel x
  let state := if c.state = .isolated then (if c.inHand.isSome then .compensating else .idle) else c.state
  s.setChannel x { c with state := state, isoPending := false }

/-- The transfer switch is set to TO-X: the energisation in ISOLATING goes on to CONNECTING (R122). -/
def connectSource (x : Station) (s : State) : State :=
  match s.hv.energ with
  | some e =>
    if e.trunk = x ∧ e.stage = .isolating then
      s.setHv { s.hv with sw := .to x, energ := some { e with stage := .connecting } }
    else s
  | none => s

/-- An aperture of channel MX is cut: NOT-TAKEN, reason CUT; a pending isolation is then carried out and reported (R49, R55). -/
def cutAperture (x : Station) (s : State) : State :=
  let c := s.channel x
  if c.state = .measuring then
    let cut := { c with state := if c.isoPending then .isolated else .idle, lastResult := some (.notTaken .cut),
                        inHand := none, isoPending := false }
    if c.isoPending then connectSource x (s.setChannel x cut) else s.setChannel x cut
  else s

/-- The HV unit asks channel MX to isolate (R55): at once unless an aperture is running. -/
def isolateChannel (x : Station) (s : State) : State :=
  let c := s.channel x
  match c.state with
  | .measuring => s.setChannel x { c with isoPending := true }
  | .idle | .compensating | .isolated => connectSource x (s.setChannel x { c with state := .isolated })

/-! ## Ending an energisation -/

/-- An energisation that has ended: the trunk it stood on and its result. -/
abbrev Ended := Option (Station × EnergResult)

/-- The result of an energisation whose outcome is noted. -/
def Energisation.result (e : Energisation) (o : EnergOutcome) : EnergResult :=
  { setpoint := e.setpoint, clamped := e.clamped, outcome := o }

/-- The outcome an energisation ends with; a cut is kept only where the result is still open (R128). -/
def Energisation.settle (e : Energisation) (o : EnergOutcome) : EnergOutcome := e.outcome.getD o

/-- The discharge ends: the switch is set to OFF, the channel is told, the path released, the source OFF, the result stored
(R125). -/
def endDischarge (e : Energisation) (o : EnergOutcome) (s : State) : State × Ended :=
  let s1 := s.setHv { s.hv with sw := .off, path := false, source := .off, energ := none, last := some (e.result o) }
  (leaveIsolation e.trunk s1, some (e.trunk, e.result o))

/-- The source enters DISCHARGING with the outcome noted; the discharge ends at once on a cold trunk (R125). -/
def enterDischarge (e : Energisation) (o : EnergOutcome) (s : State) : State × Ended :=
  if s.hot e.trunk then
    (s.setHv { s.hv with path := true, source := .discharging,
                         energ := some { e with stage := .discharging, outcome := some o } }, none)
  else endDischarge e o s

/-- An energisation of trunk X is cut with a cause (R128). -/
def cutEnergisation (x : Station) (cause : CutCause) (s : State) : State × Ended :=
  match s.hv.energ with
  | some e =>
    if e.trunk = x then
      match e.stage with
      | .isolating =>
        (leaveIsolation x (s.setHv { s.hv with energ := none, last := some (e.result (e.settle (.cut cause))) }),
          some (x, e.result (e.settle (.cut cause))))
      | .connecting | .ramping | .dwelling | .sampling => enterDischarge e (e.settle (.cut cause)) s
      | .discharging => (s, none)
    else (s, none)
  | none => (s, none)

/-- Trunk X leaves SETTLED: an energisation on it is cut with cause TRUNK, and an aperture on it is cut (R14, R49, R122, R128).
The engine of X is not told here: it leaves SETTLED only by a configuration it hands itself or by a reset (log 30). -/
def leaveSettled (x : Station) (s : State) : State := cutAperture x (cutEnergisation x .trunk s).1

end Sys2Proof.Machine
end

