-- ==== Sys2Proof/Machine/Trunk.lean ====
section
/-! DEFINITION. The relay chain with its arbiter, the clearing pass, and the trunk controllers: break-before-make, the settle
time and the hot-switch guard (R1 to R16, R19). -/

namespace Sys2Proof.Machine

/-! ## The relay chain arbiter -/

/-- The relay image, or every relay open and every selector NONE while it is unknown (no trunk or window load starts then). -/
def Matrix.known (m : Matrix) : RelayImage := m.image.getD { relays := .allOpen, sel := .none }

/-- A housekeeping request may start (R5): a window load waits for the trunks that a changing card leaves or joins. -/
def Matrix.mayStart (m : Matrix) : Housekeeping → Bool
  | .clearing => true
  | .allOpen => !m.hot.a && !m.hot.b
  | .window =>
    (decide (m.known.sel.a = m.selTable.a) || !m.hot.a) && (decide (m.known.sel.b = m.selTable.b) || !m.hot.b)

/-- What a housekeeping load writes (R5). -/
def Matrix.housekeepingLoad (m : Matrix) : Housekeeping → ChainLoad
  | .clearing => clearingLoad
  | .allOpen => { requester := .housekeeping .allOpen, contents := { relays := .allOpen, sel := m.selTable } }
  | .window => { requester := .housekeeping .window, contents := { relays := m.known.relays, sel := m.selTable } }

/-- What a trunk's load writes: its positions on its own cards, the relay image elsewhere, the selector table (R3). -/
def Matrix.trunkLoad (m : Matrix) (x : Station) (r : Relays) : ChainLoad :=
  let mine := (m.windows.get x).points
  let old := m.known.relays
  { requester := .trunk x,
    contents :=
      { relays := { drive := (old.drive &&& ~~~ mine) ||| (r.drive &&& mine), ret := (old.ret &&& ~~~ mine) ||| (r.ret &&& mine) },
        sel := m.selTable } }

/-- The trunk the arbiter serves next: the only one that waits, or the one not last served (R4). -/
def Matrix.nextTrunk (m : Matrix) : Option (Station × Relays) :=
  match m.slots.get m.lastServed.other, m.slots.get m.lastServed with
  | some r, _ => some (m.lastServed.other, r)
  | none, some r => some (m.lastServed, r)
  | none, none => none

/-- The arbiter serves a trunk where one waits (R4). -/
def Matrix.startTrunk (m : Matrix) : Matrix :=
  match m.nextTrunk with
  | some (x, r) => { m with load := some (m.trunkLoad x r), slots := m.slots.set x none, lastServed := x }
  | none => m

/-- The arbiter starts a load where the chain is free and a request may start (R4). -/
def Matrix.arbitrate (m : Matrix) : Matrix :=
  if m.load.isSome then m
  else
    match m.hk with
    | some k => if m.mayStart k then { m with load := some (m.housekeepingLoad k), hk := none } else m.startTrunk
    | none => m.startTrunk

/-- The arbiter looks at its slots. -/
def chainStart (s : State) : State := s.setMatrix s.matrix.arbitrate

/-- A trunk's request is placed in its slot, and starts at once on a free chain (R4). -/
def requestLoad (x : Station) (r : Relays) (s : State) : State :=
  chainStart (s.setMatrix { s.matrix with slots := s.matrix.slots.set x (some r) })

/-- A trunk's waiting request is withdrawn (R4, R13). -/
def withdrawLoad (x : Station) (s : State) : State :=
  s.setMatrix { s.matrix with slots := s.matrix.slots.set x none }

/-- A housekeeping request is placed: it replaces a waiting one, but a clearing request stays (R5). -/
def requestHousekeeping (k : Housekeeping) (s : State) : State :=
  if s.matrix.hk = some .clearing then s else chainStart (s.setMatrix { s.matrix with hk := some k })

/-- The clearing pass: on an UNKNOWN matrix with both monitors cold it becomes CLEARING and places the clearing load (R6). -/
def clearingPass (s : State) : State :=
  if s.matrix.state = .unknown ∧ s.matrix.hot.a = false ∧ s.matrix.hot.b = false then
    requestHousekeeping .clearing (s.setMatrix { s.matrix with state := .clearing })
  else s

/-! ## Trunk controllers -/

/-- The relays of the trunk's cards as the image holds them. -/
def trunkRelays (s : State) (x : Station) : Relays :=
  { drive := s.matrix.known.relays.drive &&& (s.window x).points, ret := s.matrix.known.relays.ret &&& (s.window x).points }

/-- Some relay that is closed is open in the target (R10). -/
def Relays.opensSome (now target : Relays) : Bool :=
  decide (now.drive &&& ~~~ target.drive ≠ 0 ∨ now.ret &&& ~~~ target.ret ≠ 0)

/-- Some relay that is open is closed in the target (R10, R11). -/
def Relays.closesSome (now target : Relays) : Bool :=
  decide (target.drive &&& ~~~ now.drive ≠ 0 ∨ target.ret &&& ~~~ now.ret ≠ 0)

/-- The opening image: every relay that the target opens is opened, nothing is closed (R10). -/
def Relays.opened (now target : Relays) : Relays :=
  { drive := now.drive &&& target.drive, ret := now.ret &&& target.ret }

/-- The trunk enters SETTLING with the settle time then set (R11, R15). -/
def Trunk.settle (t : Trunk) : Trunk := { t with state := .settling, part := .load, settleTimer := some t.settleTime }

/-- The trunk becomes IDLE: no configuration in hand. -/
def Trunk.rest (t : Trunk) : Trunk :=
  { t with state := .idle, config := none, target := .allOpen, part := .load, settleTimer := none }

/-- The trunk takes up a configuration (R10). The answer says whether it was the empty configuration complete at once. -/
def takeUp (x : Station) (c : Configuration) (s : State) : State × Bool :=
  let s0 := if (s.trunk x).state = .settled then leaveSettled x s else s
  let target := targetOf (s0.window x) c
  let now := trunkRelays s0 x
  let t := { s0.trunk x with config := some c, target := target, part := .load, settleTimer := none }
  if s0.hot x then (s0.setTrunk x { t with state := .guarded }, false)
  else if now.opensSome target then (requestLoad x (now.opened target) (s0.setTrunk x { t with state := .opening }), false)
  else if now.closesSome target then (requestLoad x target (s0.setTrunk x { t with state := .closing }), false)
  else if c = .empty then (s0.setTrunk x t.rest, true)
  else (s0.setTrunk x t.settle, false)

/-- A configuration arrives at trunk X (R9, R10, R12, R13, R16). In GUARDED it replaces the held one and any that waits behind it: only
the newest is kept (log 19). The answer says whether it was complete at once. -/
def arrive (x : Station) (c : Configuration) (s : State) : State × Bool :=
  let t := s.trunk x
  let wait := (s.setTrunk x { t with waiting := some c }, false)
  if s.matrix.state ≠ .ready then wait
  else
    match t.state with
    | .idle | .settled => takeUp x c s
    | .guarded => if t.part = .deviceAllOpen then wait else (s.setTrunk x { t with config := some c, waiting := none }, false)
    | .opening | .closing | .settling => wait

/-- The configuration in work is complete, in SETTLED or IDLE: it is reported, or superseded where one waits (R11, R12). The
answer names the state to report. -/
def completeConfig (x : Station) (settled : Bool) (s : State) : State × Option TrunkState :=
  let t := s.trunk x
  match t.waiting with
  | some c =>
    let r := takeUp x c (s.setTrunk x { t with waiting := none })
    (r.1, if r.2 then some .idle else none)
  | none =>
    if settled then (s.setTrunk x { t with state := .settled, settleTimer := none }, some .settled)
    else (s.setTrunk x t.rest, some .idle)

/-- The trunk's own load has completed (R11). An earlier load, whose request has been replaced or withdrawn, changes nothing
(log 20). A trunk that let it run out after a fall of its monitor or a station reset takes up the configuration it holds, which after a
station reset is as a rule the empty one (R13, R16, logs 20 and 22). -/
def trunkLoadDone (x : Station) (s : State) : State × Option TrunkState :=
  let t := s.trunk x
  if (s.matrix.slots.get x).isSome then (s, none)
  else
    match t.state, t.part with
    | .opening, .load => (s.setTrunk x { t with part := .releaseWait }, none)
    | .opening, .earlierLoad =>
      let r := takeUp x (t.config.getD .empty) s
      if r.2 then completeConfig x false r.1 else (r.1, none)
    | .closing, _ => (s.setTrunk x t.settle, none)
    | _, _ => (s, none)

/-- The trunk's release wait ends (R11). -/
def releaseWaitEnds (x : Station) (s : State) : State × Option TrunkState :=
  let t := s.trunk x
  if t.state = .opening ∧ t.part = .releaseWait then
    if (trunkRelays s x).closesSome t.target then
      (requestLoad x t.target (s.setTrunk x { t with state := .closing, part := .load }), none)
    else if t.config = some .empty then completeConfig x false s
    else (s.setTrunk x t.settle, none)
  else (s, none)

/-- The trunk's settle time ends (R11). -/
def settleTimeEnds (x : Station) (s : State) : State × Option TrunkState :=
  if (s.trunk x).state = .settling then completeConfig x true s else (s, none)

/-- The configuration that a rise of the monitor leaves held (R13): in SETTLING the one in work, elsewhere the waiting one where there
is one. -/
def Trunk.held (t : Trunk) : Option Configuration := if t.state = .settling then t.config else t.waiting.or t.config

/-- The configuration that goes on waiting behind the held one: only in SETTLING does one stay (R12, R13, log 19). -/
def Trunk.behind (t : Trunk) : Option Configuration := if t.state = .settling then t.waiting else none

/-- The hot-switch guard at a rise of the trunk's monitor (R13): the waiting request is withdrawn, the timers stop, and a configuration
is held. -/
def guardTrunk (x : Station) (s : State) : State :=
  let t := s.trunk x
  match t.state with
  | .opening | .closing | .settling =>
    if t.part = .deviceAllOpen then s.setTrunk x { t with state := .guarded }
    else
      withdrawLoad x
        (s.setTrunk x { t with state := .guarded, config := t.held, waiting := t.behind, settleTimer := none,
                               part := if t.part = .earlierLoad then .earlierLoad else .load })
  | .idle | .guarded | .settled => s

/-- A load of trunk X is in progress on the chain. -/
def ownLoadRuns (s : State) (x : Station) : Bool := decide (s.matrix.load.map (·.requester) = some (.trunk x))

/-- A GUARDED trunk whose monitor has fallen takes up its held configuration afresh (R13), and one complete at once gives way to a
configuration that waits behind it (R12). One that waits for the supervisor all-open load shows OPENING again (R16), and so does one with
a load of its own still in progress: it takes the held configuration up at the end of that load, from the relays as they then stand
(R13, R16, log 20). -/
def unguardTrunk (x : Station) (s : State) : State × Option TrunkState :=
  let t := s.trunk x
  if t.state = .guarded then
    if t.part = .deviceAllOpen then (s.setTrunk x { t with state := .opening }, none)
    else if ownLoadRuns s x then (s.setTrunk x { t with state := .opening, part := .earlierLoad }, none)
    else
      let r := takeUp x (t.config.getD .empty) s
      if r.2 then completeConfig x false r.1 else (r.1, none)
  else (s, none)

/-- Trunk X is all-open with no load of its own in progress, so that its IDLE needs no load (R16). -/
def restsOpen (s : State) (x : Station) : Bool :=
  decide ((s.trunk x).state = .idle) && !ownLoadRuns s x && !(trunkRelays s x).opensSome .allOpen

/-- A station reset reaches trunk X: it is made all-open by the shortest safe path, after a load of its own in progress (R16, log 22). -/
def stationResetTrunk (x : Station) (s : State) : State :=
  let t := s.trunk x
  if t.part = .deviceAllOpen ∨ restsOpen s x then s.setTrunk x { t with waiting := none }
  else
    let s1 := withdrawLoad x (s.setTrunk x { t with waiting := none })
    if ownLoadRuns s1 x then
      let s2 := if t.state = .settled then leaveSettled x s1 else s1
      s2.setTrunk x { s2.trunk x with state := if s2.hot x then .guarded else .opening, config := some .empty,
                                      target := .allOpen, part := .earlierLoad, settleTimer := none }
    else (takeUp x .empty s1).1

/-- A supervisor reset reaches trunk X: it waits for the supervisor all-open load on a READY matrix, and is IDLE otherwise
(R16). -/
def supervisorResetTrunk (x : Station) (s : State) : State :=
  let t := { (s.trunk x).rest with waiting := none }
  if s.matrix.state = .ready then
    s.setTrunk x { t with state := if s.hot x then .guarded else .opening, part := .deviceAllOpen }
  else s.setTrunk x t

/-- The supervisor all-open is over for trunk X: it becomes IDLE, and a configuration that arrived meanwhile is taken up. -/
def allOpenDone (x : Station) (s : State) : State × Option TrunkState :=
  let t := s.trunk x
  if t.part = .deviceAllOpen then
    match t.waiting with
    | some c =>
      let r := takeUp x c (s.setTrunk x { t.rest with waiting := none })
      (r.1, if r.2 then some .idle else none)
    | none => (s.setTrunk x t.rest, none)
  else (s, none)

/-- The matrix has become READY: trunk X takes its waiting configuration as if it had just arrived (R9). -/
def takeWaiting (x : Station) (s : State) : State × Option TrunkState :=
  let t := s.trunk x
  match t.waiting with
  | some c =>
    let r := arrive x c (s.setTrunk x { t with waiting := none })
    (r.1, if r.2 then some .idle else none)
  | none => (s, none)

end Sys2Proof.Machine
end

