-- ==== Sys2Proof/Machine/Measure.lean ====
section
/-! DEFINITION. The measurement channels: taking or refusing a request, the end of an aperture, compensation, and what a failed
check and the resets do to a channel (R44 to R61). -/

namespace Sys2Proof.Machine

/-- The reason for which channel MX refuses a request; none where it takes it (R47). -/
def refusalOf (x : Station) (s : State) : Option NotTakenReason :=
  let c := s.channel x
  if c.state = .isolated ∨ c.isoPending then some .isolated
  else if c.state = .measuring ∨ c.state = .compensating then some .busy
  else if (s.trunk x).state ≠ .settled then some .notSettled
  else if s.hot x then some .hot
  else none

/-- The range of the first aperture (R47). -/
def Measurement.firstRange : Measurement → Nat
  | .pair _ _ start => start
  | .group _ => 3

/-- A measurement request of engine EX (R47). The answer names the reason where it is refused. -/
def requestMeasurement (x : Station) (m : Measurement) (s : State) : State × Option NotTakenReason :=
  let c := s.channel x
  match refusalOf x s with
  | some why => (s.setChannel x { c with lastResult := some (.notTaken why) }, some why)
  | none => (s.setChannel x { c with state := .measuring, range := m.firstRange, inHand := some m }, none)

/-- A channel with its measurement ended by a result; ISOLATED stays (R52, R53, R55). -/
def Channel.finish (c : Channel) (r : MeasResult) : Channel :=
  { c with state := if c.state = .isolated then .isolated else .idle, inHand := none, lastResult := some r }

/-- Compensation: a pair measurement whose final aperture is in ends once its two offsets are answered (R51). -/
def compensate (x : Station) (s : State) : State × Option MeasResult :=
  let c := s.channel x
  if c.state = .measuring ∨ checking s then (s, none)
  else
    match c.inHand, c.lastRaw with
    | some (.pair p q _), some raw =>
      let r := MeasResult.pairValue (compensated raw (offsetOf s.store.words p) (offsetOf s.store.words q)) c.range
      (s.setChannel x (c.finish r), some r)
    | _, _ => (s, none)

/-- The end of an aperture at the channel itself: the code is stored, and the measurement steps down, ends, or goes on to
compensation (R46, R48, R50, R53, R55). -/
def Channel.apertureEnd (c : Channel) (code : Word16) : Channel × Option MeasResult :=
  let d := { c with lastCode := some code, lastRaw := some (rawResistance code.toNat c.range) }
  match c.inHand with
  | some (.pair _ _ _) =>
    if Config.stepDown ≤ code.toNat ∧ c.range < 3 then
      if c.isoPending then (d.finish (.notTaken .isolated), some (.notTaken .isolated))
      else ({ d with range := c.range + 1 }, none)
    else if Config.overRange ≤ code.toNat then (d.finish .openWire, some .openWire)
    else ({ d with state := .compensating }, none)
  | some (.group t) => (d.finish (groupResult code.toNat t), some (groupResult code.toNat t))
  | none => ({ d with state := .idle }, none)

/-- A pending isolation is carried out once no aperture runs, and reported to the HV unit (R55). -/
def isolatePending (x : Station) (s : State) : State :=
  let c := s.channel x
  if c.isoPending ∧ c.state ≠ .measuring then
    connectSource x (s.setChannel x { c with state := .isolated, isoPending := false })
  else s

/-- An aperture of channel MX ends with a code. The answer is the result handed to the engine, where the measurement ends. -/
def endAperture (x : Station) (code : Word16) (s : State) : State × Option MeasResult :=
  let c := s.channel x
  if c.state = .measuring then
    let r := c.apertureEnd code
    let s1 := isolatePending x (s.setChannel x r.1)
    match r.2 with
    | some v => (s1, some v)
    | none => compensate x s1
  else (s, none)

/-- A reference check has failed: a compensation that waited for its offsets ends with DISCARDED (R58). -/
def discardCompensation (x : Station) (s : State) : State :=
  let c := s.channel x
  if c.inHand.isSome ∧ c.state ≠ .measuring then s.setChannel x (c.finish .discarded) else s

/-- A station reset reaches channel MX (R59). NOT-TAKEN, reason CUT, is stored where a measurement was in hand to be dropped; an idle
channel keeps its last result (log 40). -/
def stationResetChannel (x : Station) (s : State) : State :=
  let c := s.channel x
  let dropped := if c.inHand.isSome then { c with lastResult := some (.notTaken .cut) } else c
  s.setChannel x { dropped with state := if c.state = .isolated then .isolated else .idle, inHand := none, isoPending := false }

end Sys2Proof.Machine
end

