-- ==== Sys2Proof/Machine/Ticket.lean ====
section
/-! DEFINITION. The ticket printer unit: the lines of a ticket, the composer, the printer link, and the print queue (R151 to
R160). -/

namespace Sys2Proof.Machine

/-! ## Text -/

/-- The character codes of a text. -/
def ascii (t : String) : List Byte := t.toList.map (fun c => BitVec.ofNat 8 c.toNat)

/-- A decimal digit. -/
def digit (n : Nat) : Byte := BitVec.ofNat 8 (48 + n % 10)

/-- The last `width` decimal digits, with leading zeros. -/
def digits : Nat → Nat → List Byte
  | 0, _ => []
  | width + 1, n => digits width (n / 10) ++ [digit n]

/-- A whole number without leading zeros, of at most ten digits. -/
def decimal (n : Nat) : List Byte :=
  match (digits 10 n).dropWhile (fun d => d = 48) with
  | [] => [48]
  | ds => ds

/-- A hexadecimal digit in capitals. -/
def hexDigit (n : Nat) : Byte := if n % 16 < 10 then BitVec.ofNat 8 (48 + n % 16) else BitVec.ofNat 8 (55 + n % 16)

/-- The last `width` hexadecimal digits, with leading zeros. -/
def hexDigits : Nat → Nat → List Byte
  | 0, _ => []
  | width + 1, n => hexDigits width (n / 16) ++ [hexDigit n]

/-- An empty line: 40 spaces (R152). -/
def blankLine : List Byte := List.replicate 40 32

/-- A text put into a line from a column on, columns counted from 1. -/
def putAt (col : Nat) (text line : List Byte) : List Byte :=
  line.take (col - 1) ++ text ++ line.drop (col - 1 + text.length)

/-- A text put into a line so that it ends at column 40 (R153). -/
def putRight (text line : List Byte) : List Byte := putAt (41 - text.length) text line

/-- A harness-code character: "?" outside the printable range (R153). -/
def printable (c : Byte) : Byte := if 0x20 ≤ c.toNat ∧ c.toNat ≤ 0x7E then c else 63

/-! ## Lines of a ticket (R153) -/

/-- A station's header text. -/
def stationText : Station → List Byte
  | .a => ascii "STATION A"
  | .b => ascii "STATION B"

/-- A verdict's text. -/
def verdictText : Verdict → List Byte
  | .pass => ascii "PASS"
  | .fail => ascii "FAIL"
  | .incomplete => ascii "INCOMPLETE"
  | .invalidReference => ascii "INVALID-REFERENCE"

/-- A kind's text. -/
def kindText : DefectKind → List Byte
  | .openWire => ascii "OPEN"
  | .highR => ascii "HIGH-R"
  | .short => ascii "SHORT"
  | .leakGroup => ascii "LEAK-GROUP"
  | .insLow => ascii "INS-LOW"
  | .arc => ascii "ARC"

/-- A net: N and four digits. -/
def netText (i : Nat) : List Byte := ascii "N" ++ digits 4 i

/-- A point: P and four digits. -/
def pointText (p : Nat) : List Byte := ascii "P" ++ digits 4 p

/-- A driver or candidate: a net, or a point for an unused point. -/
def driverText : Driver → List Byte
  | .net i => netText i
  | .point p => pointText p

/-- A selection. -/
def selectionText : Selection → List Byte
  | .net n => netText n
  | .classMask v k => ascii "C" ++ hexDigits 2 v.toNat ++ ascii "/" ++ hexDigits 2 k.toNat
  | .classPair v1 v2 => ascii "C" ++ hexDigits 2 v1.toNat ++ ascii "+" ++ hexDigits 2 v2.toNat

/-- Subject b as a point: the member of an OPEN or HIGH-R, or ANCHOR. -/
def memberText : SubjectB → List Byte
  | .single v => pointText v.point
  | _ => ascii "ANCHOR"

/-- Subject b as a candidate, a range or ALL. -/
def candidateText : SubjectB → List Byte
  | .single v => driverText v.driver
  | .range first last => driverText first ++ ascii "-" ++ driverText last
  | .all => ascii "ALL"
  | .absent => []

/-- Subject a as a point. -/
def aPointText (d : Defect) : List Byte := (d.a.map (fun v => pointText v.point)).getD []

/-- Subject a as a driver. -/
def aDriverText (d : Defect) : List Byte := (d.a.map (fun v => driverText v.driver)).getD []

/-- The subject text of a record line. -/
def subjectText (d : Defect) : List Byte :=
  match d.kind with
  | .openWire | .highR => aPointText d ++ ascii " " ++ memberText d.b
  | .short | .leakGroup => aDriverText d ++ ascii " " ++ candidateText d.b
  | .insLow | .arc => (d.selection.map selectionText).getD [] ++ ascii " " ++ candidateText d.b

/-- A value in mΩ as ohms. -/
def ohmsText (v : Nat) : List Byte := decimal (v / 1000) ++ ascii "." ++ digits 3 v ++ ascii "R"

/-- The value text of a record line. -/
def valueText (d : Defect) : List Byte :=
  match d.kind, d.value with
  | .openWire, _ => []
  | .highR, some v | .short, some v => ohmsText v
  | .short, none => ascii "UNCONF"
  | .leakGroup, some v => decimal v ++ ascii "R"
  | .insLow, some v => decimal v ++ ascii "M"
  | .arc, some v => decimal v ++ ascii "V"
  | .highR, none | .leakGroup, none | .insLow, none | .arc, none => []

/-- The record line of a defect. -/
def recordLine (d : Defect) : List Byte :=
  putRight (valueText d) (putAt 16 (subjectText d) (putAt 5 (kindText d.kind) (putAt 1 (digits 3 d.seq) blankLine)))

/-- The five header lines of a job, numbered from 1; `unlisted` is its bank's unlisted count. -/
def headerLine (j : Job) (unlisted n : Nat) : List Byte :=
  if n = 1 then
    putAt 19 (digits 6 j.serial) (putAt 12 (ascii "SERIAL") (putAt 1 (stationText j.station) blankLine))
  else if n = 2 then
    putAt 21 (digits 5 j.revision.toNat) (putAt 17 (ascii "REV")
      (putAt 9 (j.code.map printable) (putAt 1 (ascii "HARNESS") blankLine)))
  else if n = 3 then
    putAt 36 (match j.crc with | some c => hexDigits 4 c.toNat | none => ascii "----")
      (putAt 28 (ascii "REF CRC") (putAt 9 (verdictText j.verdict) (putAt 1 (ascii "VERDICT") blankLine)))
  else if n = 4 then
    putAt 25 (digits 5 unlisted) (putAt 16 (ascii "UNLISTED")
      (putAt 9 (digits 5 j.found) (putAt 1 (ascii "DEFECTS") blankLine)))
  else List.replicate 40 45

/-- The trailer lines, numbered from 1. -/
def trailerLine (n : Nat) : List Byte := if n = 1 then putAt 1 (ascii "END OF TICKET") blankLine else blankLine

/-- Line n of a ticket that is not cancelled: five headers, the records, the trailer (R152). -/
def plainLine (j : Job) (b : Bank) (n : Nat) : List Byte :=
  if n ≤ 5 then headerLine j b.unlisted n
  else if n ≤ 5 + b.records.length then (b.records[n - 6]?.map recordLine).getD blankLine
  else trailerLine (n - 5 - b.records.length)

/-- Line n of a ticket; from the cancel mark on, the cancel line and the trailer (R158). -/
def ticketLine (j : Job) (b : Bank) (n : Nat) : List Byte :=
  match j.cancelled with
  | some k =>
    if n ≤ k then plainLine j b n
    else if n = k + 1 then putAt 1 (ascii "TICKET CANCELLED") blankLine
    else trailerLine (n - k - 1)
  | none => plainLine j b n

/-- The lines of a ticket: r + 9, or five past the cancel mark (R152, R158). -/
def ticketLines (j : Job) (b : Bank) : Nat :=
  match j.cancelled with
  | some k => k + 5
  | none => b.records.length + 9

/-- The line at which the trailer begins. -/
def trailerStart (j : Job) (b : Bank) : Nat :=
  match j.cancelled with
  | some k => k + 2
  | none => b.records.length + 6

/-- The byte of a line at a character position from 1: 40 characters, carriage return, line feed (R152). -/
def lineByte (line : List Byte) (char : Nat) : Byte := (line ++ [13, 10]).getD (char - 1) 32

/-! ## The composer and the link -/

/-- The bank of a job. -/
def jobBank (s : State) (j : Job) : Bank := (s.bench j.station).banks.get j.bank

/-- A bank's state is set. -/
def setBankState (x : Station) (n : BankNo) (v : BankState) (s : State) : State :=
  let b := s.bench x
  s.setBench x { b with banks := b.banks.set n { b.banks.get n with state := v } }

/-- The link gives the strobe where BUSY reads low: WAIT-ACK, the acknowledge timer runs (R154, R155). -/
def strobe (q : Printer) : Printer := if q.busy then q else { q with link := .waitAck, risen := false }

/-- The composer hands the link the byte at its position where the link is IDLE and a job is at the head (R152, R154). The position names
the byte in hand until that byte is complete (R156, log 51). -/
def composerHand (s : State) : State :=
  let q := s.printer
  match q.queue with
  | j :: _ =>
    if q.link = .idle then
      s.setPrinter (strobe { q with link := .sending, started := true,
                                    data := some (lineByte (ticketLine j (jobBank s j) q.line) q.char) })
    else s
  | [] => s

/-- The job at the head begins: its bank is PRINTING and the composer begins its first line (R151, R157). -/
def beginHead (s : State) : State :=
  match s.printer.queue with
  | j :: _ =>
    composerHand (setBankState j.station j.bank .printing (s.setPrinter { s.printer with line := 1, char := 1, started := false }))
  | [] => s

/-- A job joins the print queue at its tail, and is the head at once on an empty queue (R151). -/
def queueJob (j : Job) (s : State) : State :=
  let s1 := setBankState j.station j.bank .queued (s.setPrinter { s.printer with queue := s.printer.queue ++ [j] })
  if s.printer.queue = [] then beginHead s1 else s1

/-- The ticket of the head job ends (R157). -/
def endTicket (s : State) : State :=
  match s.printer.queue with
  | j :: rest =>
    beginHead (raise j.station.port srcTicketDone
      (setBankState j.station j.bank .kept (s.setPrinter { s.printer with queue := rest, line := 1, char := 1, started := false })))
  | [] => s

/-- The byte in hand is complete: the position advances, and the composer hands the next byte or the ticket ends (R152, R154). -/
def byteComplete (s : State) : State :=
  let q := { s.printer with link := .idle, data := none, risen := false }
  match q.queue with
  | j :: _ =>
    if q.char < 42 then composerHand (s.setPrinter { q with char := q.char + 1 })
    else if q.line < ticketLines j (jobBank s j) then
      composerHand (s.setPrinter { q with line := q.line + 1, char := 1, started := false })
    else endTicket (s.setPrinter { q with started := false })
  | [] => s.setPrinter q

/-- The link leaves STALLED on a low BUSY: it strobes the byte again (R155), or, after a cancel taken in STALLED, restarts the line in
progress from its first character as R156 gives (R158, log 34). -/
def resumeStalled (q : Printer) (s : State) : State :=
  if q.restart then composerHand (s.setPrinter { q with restart := false, link := .idle, char := 1 }) else s.setPrinter (strobe q)

/-- BUSY falls (R154, R155). -/
def busyFalls (s : State) : State :=
  let q := { s.printer with busy := false }
  match q.link with
  | .sending => s.setPrinter (strobe q)
  | .stalled => resumeStalled q s
  | .waitAck => if q.risen then byteComplete (s.setPrinter q) else s.setPrinter q
  | .idle | .paused => s.setPrinter q

/-- BUSY rises (R154). -/
def busyRises (s : State) : State :=
  let q := { s.printer with busy := true }
  s.setPrinter { q with risen := q.risen || decide (q.link = .waitAck) }

/-- The acknowledge timer expires in WAIT-ACK: the link stalls, PRINTER is raised, and on a low BUSY the strobe is given again
(R155). An expiry that stands behind the BUSY_FALL that completed its byte finds the timer of the next byte and stalls that byte
(log 43). -/
def acknowledgeExpires (s : State) : State :=
  if s.printer.link = .waitAck then
    raiseAll srcPrinter (s.setPrinter (strobe { s.printer with link := .stalled, risen := false }))
  else s

/-- FAULT rises: the link pauses, the byte in hand is dropped (R156). -/
def faultRises (s : State) : State :=
  s.setPrinter { s.printer with fault := true, link := .paused, data := none, risen := false, restart := false }

/-- FAULT falls: the link resumes at the first character of the line in progress, or of the next line (R156). -/
def faultFalls (s : State) : State :=
  if s.printer.link = .paused then composerHand (s.setPrinter { s.printer with fault := false, link := .idle, char := 1 })
  else s.setPrinter { s.printer with fault := false }

/-- The trailer of the head job has begun. -/
def trailerBegun (s : State) : Bool :=
  match s.printer.queue with
  | j :: _ => decide (trailerStart j (jobBank s j) ≤ s.printer.line)
  | [] => false

/-- The last line printed before the cancel line: the line in progress, or the line before the one to come (R158). -/
def cancelMark (q : Printer) : Nat := if q.started then q.line else q.line - 1

/-- A QUEUED or PRINTING bank's ticket is cancelled (R158). Taken in STALLED, the link restarts its line when it resumes. -/
def cancelTicket (x : Station) (n : BankNo) (s : State) : State :=
  if ((s.bench x).banks.get n).state = .queued then
    raise x.port srcTicketDone (setBankState x n .kept
      (s.setPrinter { s.printer with queue := s.printer.queue.filter (fun j => ¬ (j.station = x ∧ j.bank = n)) }))
  else
    match s.printer.queue with
    | j :: rest =>
      if trailerBegun s ∨ j.cancelled.isSome then s
      else
        s.setPrinter { s.printer with
          queue := { j with cancelled := some (cancelMark s.printer) } :: rest, restart := decide (s.printer.link = .stalled) }
    | [] => s

end Sys2Proof.Machine
end

