-- ==== Sys2Proof/Machine/Arbiter.lean ====
section
/-! DEFINITION. Lending the source: asks, grants, releases, step ends, the hold timer (R116 to R121), with the configuration a
granted step begins (R139 to R141), and the energise request (R122). -/

namespace Sys2Proof.Machine

/-! ## Configurations of an engine -/

/-- Engine EX hands trunk X a configuration and waits for it; a configuration with points is never complete at once (R85, R10). -/
def handConfig (x : Station) (c : Configuration) (s : State) : State :=
  (arrive x c (s.setBench x { s.bench x with handed := c, wait := .trunk })).1

/-- Engine EX is held at a table read (R41). -/
def holdRead (x : Station) (r : ReadPoint) (s : State) : State := s.setBench x { s.bench x with wait := .read r }

/-- The points of several nets. -/
def netsPoints (m : List ImageCell) (nets : List Nat) : PointSet := driversPoints m (nets.map .net)

/-- The step configuration: every selected net on DRIVE, the returned set on RETURN (R139). -/
def stepConfig (m : List ImageCell) (st : StepRecord) : Configuration :=
  { drive := netsPoints m st.selected, ret := driversPoints m st.returned }

/-- The step in the step slot is in CONFIGURE, and its configuration is handed, after its table reads (R139, R141). -/
def handStep (x : Station) (s : State) : State :=
  if checking s then holdRead x .step s
  else
    match (s.bench x).step with
    | some st => handConfig x (stepConfig s.store.words st) s
    | none => s

/-- The step may leave WAIT-HV: it enters CONFIGURE (R140, R141). A queued step takes no notice: it is answered when it is taken
up. -/
def stepMayGo (x : Station) (s : State) : State :=
  match (s.bench x).step with
  | some st =>
    if st.state = .waitHv then handStep x (s.setBench x { s.bench x with step := some { st with state := .configure } }) else s
  | none => s

/-! ## The arbiter -/

/-- Station X asks (R116). -/
def Hv.asks (h : Hv) (x : Station) : Bool := h.stepAsk.get x || h.reserveAsk.get x

/-- The waiting item: the asking station next in line (R116). -/
def Hv.waiting (h : Hv) : Option Station := h.line.find? (fun x => decide (h.holder ≠ some x))

/-- The line kept in the order the asks were set: a station joins at its first ask and leaves with its last. -/
def Hv.lineUp (h : Hv) (x : Station) : Hv :=
  { h with line := if h.asks x then (if h.line.contains x then h.line else h.line ++ [x])
                   else h.line.filter (fun y => decide (y ≠ x)) }

/-- The step ask of a station is set or cleared (R116, R121). -/
def Hv.setStepAsk (h : Hv) (x : Station) (v : Bool) : Hv := ({ h with stepAsk := h.stepAsk.set x v }).lineUp x

/-- The reserve ask of a station is set or cleared (R118, R121). -/
def Hv.setReserveAsk (h : Hv) (x : Station) (v : Bool) : Hv := ({ h with reserveAsk := h.reserveAsk.set x v }).lineUp x

/-- Both asks of a station are cleared (R116, R121, R130). -/
def Hv.clearAsks (h : Hv) (x : Station) : Hv := (h.setStepAsk x false).setReserveAsk x false

/-- The conditions of a grant to station X (R116). -/
def Hv.grantable (h : Hv) (x : Station) : Bool :=
  h.permission.allows && !h.estop && h.lidClosed.get x && h.latch.isNone && h.holder.isNone

/-- The HV unit's part of a grant (R116, R120). -/
def Hv.granted (h : Hv) (x : Station) : Hv :=
  let forStep := h.stepAsk.get x
  { h.clearAsks x with holder := some x, reserved := h.reserveAsk.get x || !forStep, string := 0, holderStep := forStep,
                       holdTimer := if forStep then none else some h.limits.hold }

/-- A grant to station X (R116): HV-GRANTED is raised, and a step that asked may leave WAIT-HV. -/
def grant (x : Station) (s : State) : State :=
  let s1 := raise x.port srcHvGranted (s.setHv (s.hv.granted x))
  if s.hv.stepAsk.get x then stepMayGo x s1 else s1

/-- The arbiter looks for a station to grant: the waiting one first, then the other (R117). -/
def lookForGrant (s : State) : State :=
  match s.hv.line.find? (fun x => s.hv.grantable x) with
  | some x => grant x s
  | none => s

/-- The HV unit's part of a release (R119). -/
def Hv.released (h : Hv) : Hv :=
  { h with holder := none, reserved := false, releasePending := false, quiet := false, holdTimer := none, holderStep := false }

/-- A release of the holder: made with the switch OFF, else left pending (R119). HV-RELEASED is raised unless the release follows a
station reset (R133); the arbiter then looks for a station to grant. -/
def releaseHolder (s : State) : State :=
  match s.hv.holder with
  | some x =>
    if s.hv.sw = .off then
      let s1 := s.setHv s.hv.released
      lookForGrant (if s.hv.quiet then s1 else raise x.port srcHvReleased s1)
    else s.setHv { s.hv with releasePending := true }
  | none => s

/-- A release that is pending is made once the switch stands OFF (R119, R125). -/
def releaseIfDue (s : State) : State := if s.hv.releasePending then releaseHolder s else s

/-- Station X keeps the source after a step end; a reserved holder's hold timer starts (R119, R120). -/
def keepSource (s : State) : State :=
  s.setHv { s.hv with holdTimer := if s.hv.reserved then some s.hv.limits.hold else s.hv.holdTimer }

/-- The string count after a step end of the holder (R119, item 1). -/
def Hv.countString (h : Hv) : Hv := { h with string := if h.waiting.isSome then min (h.string + 1) 64 else h.string }

/-- A step end of holder X settles whether X keeps the source (R119). `queued` says that a step stands queued behind the one that
ended. -/
def stepEnd (x : Station) (queued : Bool) (s : State) : State :=
  if s.hv.holder = some x then
    let h := { s.hv.countString with holderStep := false }
    if h.releasePending then releaseHolder (s.setHv h)
    else if queued ∨ h.reserved then
      if h.waiting.isSome ∧ h.limits.string ≤ h.string then
        let asked := if h.reserved then h.setReserveAsk x true else h
        releaseHolder (s.setHv (if queued then asked.setStepAsk x true else asked))
      else keepSource (s.setHv h)
    else releaseHolder (s.setHv h)
  else s

/-- A step of station X enters WAIT-HV (R116, R140): the holder is answered at once, another station's step ask is set. -/
def stepWaits (x : Station) (s : State) : State :=
  if s.hv.holder = some x ∧ s.hv.releasePending = false then
    stepMayGo x (s.setHv { s.hv with holderStep := true, holdTimer := none })
  else lookForGrant (s.setHv (s.hv.setStepAsk x true))

/-- Station X's asks are cleared at the end of its run (R121). -/
def clearAsks (x : Station) (s : State) : State := s.setHv (s.hv.clearAsks x)

/-! ## The energise request (R122) -/

/-- Why an energise request is refused (R122). -/
inductive EnergiseRefusal where
  | notHolder
  | releasePending
  | inProgress
  | notSettled
deriving DecidableEq, Repr

/-- The cause for which an energise request is refused; none where it is taken (R122). -/
def energiseRefusal (x : Station) (s : State) : Option EnergiseRefusal :=
  if s.hv.holder ≠ some x then some .notHolder
  else if s.hv.releasePending then some .releasePending
  else if s.hv.energ.isSome then some .inProgress
  else if (s.trunk x).state ≠ .settled then some .notSettled
  else none

/-- The energisation record of a request that is taken (R122). -/
def energisationOf (l : Limits) (x : Station) (volts dwell : Nat) : Energisation :=
  { trunk := x, setpoint := setpointOf l.cap volts, clamped := decide (setpointOf l.cap volts ≠ volts), dwell := dwell,
    ramp := l.ramp, trip := l.trip, stage := .isolating, outcome := none }

/-- Engine EX asks the HV unit to energise trunk X (R122). -/
def energise (x : Station) (volts dwell : Nat) (s : State) : State × Option EnergiseRefusal :=
  match energiseRefusal x s with
  | some why => (s, some why)
  | none => (isolateChannel x (s.setHv { s.hv with energ := some (energisationOf s.hv.limits x volts dwell) }), none)

end Sys2Proof.Machine
end

