-- ==== Sys2Proof/Machine/Locator.lean ====
section
/-! DEFINITION. The locator: one procedure over a stack of candidate ranges, shared by the isolation phase and the insulation
locate (R100 to R103, R108). It records nothing itself: it tells its user which finished ranges had both halves clean. -/

namespace Sys2Proof.Machine

/-- The candidates of an entry's range. -/
def Entry.size (e : Entry) : Nat := e.last + 1 - e.first

/-- An entry due to be measured. -/
def Entry.due (first last : Nat) : Entry :=
  { first := first, last := last, state := .toMeasure, value := none, halfFailed := false }

/-- The last candidate of the lower half: the first ceil(c / 2) candidates (R102). -/
def Entry.mid (e : Entry) : Nat := e.first + (e.size + 1) / 2 - 1

/-- The lower half, to be measured (R102). -/
def Entry.lowerHalf (e : Entry) : Entry := .due e.first e.mid

/-- The upper half, to be measured (R102). -/
def Entry.upperHalf (e : Entry) : Entry := .due (e.mid + 1) e.last

/-- Half failed is set in the entry below a failing one (R101). -/
def markHalf : List Entry → List Entry
  | [] => []
  | e :: rest => { e with halfFailed := true } :: rest

/-- The range test of the top entry failed with a value: a single candidate awaits its confirm, a larger range is split
(R101). -/
def locatorFail (value : Nat) : List Entry → List Entry
  | [] => []
  | e :: rest =>
    if e.first = e.last then { e with state := .confirm, value := some value } :: markHalf rest
    else
      e.lowerHalf :: { e with state := .lower, value := some value, halfFailed := false } :: markHalf rest

/-- The entry above has been removed: the entries below finish their halves (R103). Answers the stack, and the ranges whose
halves both measured clean, in the order they finish. -/
def locatorUnwind : List Entry → List Entry × List Entry
  | [] => ([], [])
  | e :: rest =>
    match e.state with
    | .lower => (e.upperHalf :: { e with state := .upper } :: rest, [])
    | .upper =>
      let below := locatorUnwind rest
      if e.halfFailed then below else (below.1, e :: below.2)
    | .toMeasure | .confirm => (e :: rest, [])

/-- The top entry is removed (R101, R104). -/
def locatorRemove : List Entry → List Entry × List Entry
  | [] => ([], [])
  | _ :: rest => locatorUnwind rest

end Sys2Proof.Machine
end

