-- ==== Sys2Proof/Machine/Insulation.lean ====
section
/-! DEFINITION. Recording a defect, the end of an activity, and the insulation step: its configuration, the result of its
energisation, the locate at high voltage, its end and its interruption (R68, R88, R105, R139 to R149). -/

namespace Sys2Proof.Machine

/-! ## Recording a defect -/

/-- The counts of a run record after a defect is found (R63). -/
def RunRecord.counted (r : RunRecord) (short : Bool) : RunRecord :=
  { r with found := saturate r.found, shorts := if short then saturate r.shorts else r.shorts }

/-- A bank after a defect is handed to it; `before` is the found-defect count before the defect was counted (R149). -/
def Bank.append (b : Bank) (before : Nat) (d : Defect) : Bank :=
  if before = Config.countMax then b
  else if b.records.length < Config.bankSize then { b with records := b.records ++ [d] }
  else { b with unlisted := b.unlisted + 1 }

/-- A station after a defect is recorded in its run: counted, numbered by the count, handed to the run's bank (R147, R149). -/
def Bench.record1 (b : Bench) (r : RunRecord) (short : Bool) (d : Defect) : Bench :=
  let counted := r.counted short
  { b with record := some counted,
           banks := b.banks.set r.bank ((b.banks.get r.bank).append r.found { d with seq := counted.found }) }

/-- A defect is recorded: counted, handed to the bank, DEFECT raised (R88, R105, R142). -/
def recordDefect (x : Station) (short : Bool) (d : Defect) (s : State) : State :=
  match (s.bench x).record with
  | some r => raise x.port srcDefect (s.setBench x ((s.bench x).record1 r short d))
  | none => s

/-- The run record of a station is changed, where it has one. -/
def mapRecord (x : Station) (f : RunRecord → RunRecord) (s : State) : State :=
  s.setBench x { s.bench x with record := (s.bench x).record.map f }

/-! ## The end of an activity (R68) -/

/-- The queued step moves into the step slot and is taken up; an ask already set stands (R140, R144). -/
def takeUpQueued (x : Station) (q : StepRecord) (s : State) : State :=
  let s1 := s.setBench x { s.bench x with step := some q, queued := none, wait := .hv }
  if s.hv.stepAsk.get x then s1 else stepWaits x s1

/-- Trunk X has reported the empty configuration of an activity complete: STEP-DONE, and the queued step or READY (R68, R144). -/
def activityDone (x : Station) (s : State) : State :=
  let b := s.bench x
  match b.run with
  | .continuity =>
    raise x.port srcStepDone (s.setBench x { b with run := .ready, sweep := none, wait := .nothing })
  | .insulation =>
    match b.queued with
    | some q => takeUpQueued x q (raise x.port srcStepDone (s.setBench x { b with step := none }))
    | none => raise x.port srcStepDone (s.setBench x { b with run := .ready, step := none, wait := .nothing })
  | .noRun | .checking | .ready => s.setBench x { b with wait := .nothing }

/-- The engine hands trunk X the empty configuration: the outcome of the activity is fixed (R68). -/
def handEmpty (x : Station) (s : State) : State :=
  let r := arrive x .empty (s.setBench x { s.bench x with handed := .empty, wait := .allOpen })
  if r.2 then activityDone x r.1 else r.1

/-! ## The end of a step (R144) -/

/-- The step enters FINISH: the step end is reported to the HV unit, or in WAIT-HV the ask withdrawn, and the empty configuration
is handed (R144). -/
def finishStep (x : Station) (s : State) : State :=
  let b := s.bench x
  match b.step with
  | some st =>
    let s1 := s.setBench x { b with step := some { st with state := .finish }, locator := [] }
    handEmpty x (if st.state = .waitHv then s1.setHv (s1.hv.setStepAsk x false) else stepEnd x b.queued.isSome s1)
  | none => s

/-- The queued step is dropped, its ask withdrawn (R145). -/
def dropQueued (x : Station) (s : State) : State :=
  if (s.bench x).queued.isSome then
    (s.setBench x { s.bench x with queued := none }).setHv (s.hv.setStepAsk x false)
  else s

/-- What an interruption does to the step before its energisation is cut: the flag of the run record, the locate and the queued
step (R145). -/
def markInterrupted (x : Station) (s : State) : State :=
  let s1 := mapRecord x (fun r => { r with stepInterrupted := true }) (dropQueued x s)
  s1.setBench x { s1.bench x with locator := [], step := (s1.bench x).step.map (fun st => { st with interrupted := true }) }

/-! ## The locate at high voltage (R143) -/

/-- Candidate k of a step: its returned set in order. -/
def StepRecord.candidate (st : StepRecord) (k : Nat) : Driver := st.returned.getD k (.net 0)

/-- The candidates of a range. -/
def StepRecord.range (st : StepRecord) (e : Entry) : List Driver := (span e.first e.last).map st.candidate

/-- The range test of the top entry: every selected net on DRIVE, the range's candidates on RETURN, after the table reads. -/
def handLocate (x : Station) (s : State) : State :=
  if checking s then holdRead x .locate s
  else
    match (s.bench x).step, (s.bench x).locator with
    | some st, e :: _ =>
      handConfig x { drive := netsPoints s.store.words st.selected, ret := driversPoints s.store.words (st.range e) } s
    | _, _ => s

/-- An INS-LOW of the step (R142, R143). -/
def StepRecord.insLow (st : StepRecord) (b : SubjectB) (value : Nat) : Defect :=
  { seq := 0, kind := .insLow, a := none, b := b, selection := some st.selection, value := some value, range := none }

/-- An ARC of the step; its value is the setpoint in volts (R142). -/
def StepRecord.arc (st : StepRecord) (setpoint : Nat) : Defect :=
  { seq := 0, kind := .arc, a := none, b := .all, selection := some st.selection, value := some setpoint, range := none }

/-- The finished ranges whose halves both passed are recorded as INS-LOW (R143). -/
def recordRanges (x : Station) (st : StepRecord) : List Entry → State → State
  | [], s => s
  | e :: rest, s =>
    recordRanges x st rest
      (recordDefect x false (st.insLow (.range (st.candidate e.first) (st.candidate e.last)) (e.value.getD 0)) s)

/-- The locate goes on with a stack: done where it is empty, else the top entry is tested. -/
def locateNext (x : Station) (st : StepRecord) (r : List Entry × List Entry) (s : State) : State :=
  let s1 := recordRanges x st r.2 (s.setBench x { s.bench x with locator := r.1 })
  if r.1 = [] then finishStep x s1 else handLocate x s1

/-- The top entry has been settled: a range of one that failed is recorded at once and removed, without a confirm (R143). A candidate
that is a net is recorded with its first point, as the image of the run has it (R147, R175). -/
def locateGoOn (x : Station) (st : StepRecord) (stack : List Entry) (s : State) : State :=
  match stack with
  | e :: _ =>
    if e.state = .confirm then
      locateNext x st (locatorRemove stack)
        (recordDefect x false (st.insLow (.single ((st.candidate e.first).subject s.store.words)) (e.value.getD 0)) s)
    else locateNext x st (stack, []) s
  | [] => locateNext x st ([], []) s

/-- A SAMPLED result of a range test: CLEAN at or above the threshold, else a FAIL with R_ins (R143). -/
def locateResult (x : Station) (st : StepRecord) (rins : Nat) (s : State) : State :=
  if st.threshold ≤ rins then locateNext x st (locatorRemove (s.bench x).locator) s
  else locateGoOn x st (locatorFail rins (s.bench x).locator) s

/-! ## Results (R142) -/

/-- A SAMPLED result of the step's own energisation (R142, R143). -/
def stepReading (x : Station) (st : StepRecord) (rins : Nat) (s : State) : State :=
  if st.threshold ≤ rins then finishStep x s
  else if st.locate then
    locateGoOn x st (locatorFail rins [Entry.due 0 (st.returned.length - 1)])
      (s.setBench x { s.bench x with step := some { st with state := .locate } })
  else finishStep x (recordDefect x false (st.insLow .all rins) s)

/-- The step record after an energisation of it has ended (R135, R142). -/
def StepRecord.after (st : StepRecord) (r : EnergResult) : StepRecord :=
  { st with energisations := if r.outcome.isCut then st.energisations else st.energisations + 1,
            lastRins := match r.outcome with | .sampled _ _ rins => some rins | _ => st.lastRins }

/-- The same configuration is handed again: the step returns to CONFIGURE, a range test is repeated (R141, R143, log 33). -/
def repeatConfig (x : Station) (st : StepRecord) (s : State) : State :=
  handConfig x (s.bench x).handed
    (s.setBench x { s.bench x with step := some { st with state := if st.state = .energise then .configure else st.state } })

/-- The result of an energisation reaches engine EX (R142, R143, R145); an engine whose run has ended discards it. A FAULT interrupts the
step, also one that was interrupted before it, so that no queued step is kept through the fault (R126). -/
def stepResult (x : Station) (r : EnergResult) (s : State) : State :=
  let b := s.bench x
  match b.step with
  | some st0 =>
    if b.run = .insulation ∧ b.wait = .energisation then
      let st := st0.after r
      let s1 := s.setBench x { b with step := some st }
      match st.interrupted, r.outcome with
      | _, .fault => finishStep x (markInterrupted x s1)
      | true, .sampled _ _ _ | true, .arc _ | true, .cut _ => finishStep x s1
      | false, .sampled _ _ rins => if st.state = .locate then locateResult x st rins s1 else stepReading x st rins s1
      | false, .arc _ => finishStep x (recordDefect x false (st.arc r.setpoint) s1)
      | false, .cut _ => repeatConfig x st s1
    else s
  | none => s

/-- An energisation that has ended is handed to its engine, and a pending release follows (R125, R126). -/
def tellEngine (r : State × Ended) : State :=
  match r.2 with
  | some (x, res) => releaseIfDue (stepResult x res r.1)
  | none => r.1

/-! ## Interruption (R145) -/

/-- The step of station X is interrupted with a cause (R145). In FINISH only the queued step is dropped, and by an ABORT not even
that. -/
def interruptStep (x : Station) (cause : CutCause) (s : State) : State :=
  let b := s.bench x
  match b.step with
  | some st =>
    if st.state = .finish then (if cause = .abort then s else dropQueued x s)
    else if b.wait = .energisation then tellEngine (cutEnergisation x cause (markInterrupted x s))
    else finishStep x (markInterrupted x s)
  | none => s

/-! ## The trunk reports SETTLED (R141) -/

/-- The step record once an energisation of it has been taken: setpoint clamped is set where the HV unit set clamped (R122, R135). -/
def StepRecord.energised (st : StepRecord) (e : Energisation) : StepRecord := { st with clamped := st.clamped || e.clamped }

/-- The engine asks for the energisation of its settled trunk. A refusal for trunk not SETTLED repeats the configuration; any other
interrupts the step (R141, R143). -/
def askEnergise (x : Station) (st : StepRecord) (dwell : Nat) (s : State) : State :=
  let r := energise x st.voltage dwell (s.setBench x { s.bench x with step := some st, wait := .energisation })
  match r.2 with
  | none => r.1.setBench x { r.1.bench x with step := some (st.energised (energisationOf s.hv.limits x st.voltage dwell)) }
  | some .notSettled => repeatConfig x st r.1
  | some .notHolder | some .releasePending | some .inProgress => finishStep x (markInterrupted x r.1)

/-- Trunk X stands SETTLED on the configuration of a step in CONFIGURE or LOCATE (R141, R143). -/
def stepSettled (x : Station) (s : State) : State :=
  match (s.bench x).step with
  | some st =>
    match st.state with
    | .configure => askEnergise x { st with state := .energise } st.dwell s
    | .locate => askEnergise x st Config.locateDwell s
    | .waitHv | .energise | .finish => s
  | none => s

end Sys2Proof.Machine
end

