-- ==== Sys2Proof/Machine/Sweep.lean ====
section
/-! DEFINITION. The continuity sweep: the connection phase with anchor re-selection (R81 to R95), the isolation phase with the
locator (R96 to R111), the abort (R73), and what an engine does when its trunk, its channel or a table read answers. -/

namespace Sys2Proof.Machine

/-- The sweep record of a station is replaced. -/
def setSweep (x : Station) (w : Sweep) (s : State) : State := s.setBench x { s.bench x with sweep := some w }

/-! ## Ends of a sweep -/

/-- A sweep ends with a continuity status: what is held is discarded, and the empty configuration handed (R68, R73, R92, R93, R109). -/
def endSweep (x : Station) (c : Continuity) (s : State) : State :=
  let b := s.bench x
  handEmpty x
    (s.setBench x { b with sweep := b.sweep.map (fun w => { w with held := [], retest := false }), locator := [],
                           record := b.record.map (fun r => { r with continuity := c, abortPending := false }) })

/-- The defect limit of a sweep is reached (R92, R106). -/
def limitReached (x : Station) (w : Sweep) (s : State) : Bool :=
  match (s.bench x).record with
  | some r => decide (w.limit ≠ 0 ∧ w.limit ≤ r.found)
  | none => false

/-- Defects recorded in order, each followed by the limit; the answer says whether the limit ended the sweep (R90, R91, R92). -/
def recordAll (x : Station) (w : Sweep) (short : Bool) : List Defect → State → State × Bool
  | [], s => (s, false)
  | d :: rest, s =>
    let s1 := recordDefect x short d s
    if limitReached x w s1 then (endSweep x .cutShort s1, true) else recordAll x w short rest s1

/-! ## The isolation phase (chapter 6) -/

/-- The number of drivers D (R96). -/
def Sweep.drivers (w : Sweep) : Nat := w.nets + (w.span - w.members)

/-- Driver d of the sweep. -/
def Sweep.driverAt (w : Sweep) (d : Nat) : Driver := Sys2Proof.Machine.driverAt w.nets w.unused d

/-- The current driver as subject a (R105). -/
def Sweep.driverSubject (w : Sweep) : Subject := subjectOf (w.driverAt w.driver) w.driverFirst

/-- A driver or candidate that is a net: its points stand in the member list (R96). -/
def Driver.isNet : Driver → Bool
  | .net _ => true
  | .point _ => false

/-- The candidates of an entry: the range of a range test (R98), the one candidate of a confirm (R104). -/
def Sweep.candidatesOf (w : Sweep) (e : Entry) : List Driver :=
  if e.state = .confirm then [w.driverAt e.first] else (Sys2Proof.Machine.span e.first e.last).map w.driverAt

/-- The configuration of an entry names a net, whose member entries are read before it is handed (R98); a configuration of unused points
alone needs no table read. -/
def Sweep.namesNet (w : Sweep) (e : Entry) : Bool := (w.driverAt w.driver :: w.candidatesOf e).any Driver.isNet

/-- The configuration of the top entry is handed after its table reads, where it has any: a range test (R98) or a confirm (R104). -/
def handLocator (x : Station) (s : State) : State :=
  let m := s.store.words
  match (s.bench x).sweep, (s.bench x).locator with
  | some w, e :: _ =>
    let d := w.driverAt w.driver
    if checking s && w.namesNet e then holdRead x .locator s
    else if e.state = .confirm then
      let c := w.driverAt e.first
      handConfig x { drive := pointSet (firstPoint m d), ret := pointSet (firstPoint m c) }
        (setSweep x { w with driverFirst := firstPoint m d, pairA := firstPoint m d, pairB := firstPoint m c } s)
    else
      handConfig x { drive := driverPoints m d, ret := driversPoints m (w.candidatesOf e) }
        (setSweep x { w with driverFirst := firstPoint m d } s)
  | _, _ => s

/-- Driver d is tested against all its candidates; with no candidate left the phase ends DONE (R98, R109), and the sweep record keeps the
driver tested last, with its count of candidates, until the run is READY (log 44). -/
def startDriver (x : Station) (d : Nat) (s : State) : State :=
  match (s.bench x).sweep with
  | some w =>
    if w.drivers ≤ d + 1 then endSweep x .done s
    else
      handLocator x
        (s.setBench x { s.bench x with
          sweep := some { w with driver := d, candidates := w.drivers - 1 - d, groupDriver := 0 },
          locator := [Entry.due (d + 1) (w.drivers - 1)] })
  | none => s

/-- The isolation phase reads the sweep header and the unused points, and begins with driver 0 (R97). -/
def isolationStart (x : Station) (s : State) : State :=
  if checking s then holdRead x .isolationStart s
  else
    let m := s.store.words
    match (s.bench x).sweep with
    | some w =>
      startDriver x 0
        (setSweep x { w with span := hdrSpan m, members := hdrMembers m, short := hdrShort m,
                             unused := unusedPoints m (hdrSpan m) (hdrMembers m) } s)
    | none => s

/-- A LEAK-GROUP for a finished range whose halves were both clean (R103, R105). -/
def Sweep.leakGroup (w : Sweep) (e : Entry) : Defect :=
  { seq := 0, kind := .leakGroup, a := some w.driverSubject, b := .range (w.driverAt e.first) (w.driverAt e.last),
    selection := none, value := e.value.map groupOhms, range := some 3 }

/-- The locator goes on with a stack, after the ranges that finished clean: the next driver where it is empty, else the top entry
(R101, R103, R109). -/
def isolationNext (x : Station) (w : Sweep) (r : List Entry × List Entry) (s : State) : State :=
  let recorded := recordAll x w true (r.2.map w.leakGroup) (s.setBench x { s.bench x with sweep := some w, locator := r.1 })
  if recorded.2 then recorded.1
  else if r.1 = [] then startDriver x (w.driver + 1) recorded.1
  else handLocator x recorded.1

/-- The result of a range test, which the sweep record `w` has counted (R98, R101). -/
def onGroup (x : Station) (w : Sweep) (result : MeasResult) (s : State) : State :=
  match result with
  | .fail v => isolationNext x w (locatorFail v (s.bench x).locator, []) s
  | .clean _ | .pairValue _ _ | .openWire | .notTaken _ | .discarded =>
    isolationNext x w (locatorRemove (s.bench x).locator) s

/-- A SHORT for the candidate of a confirm (R104, R105). -/
def Sweep.shortDefect (w : Sweep) (e : Entry) (result : MeasResult) : Defect :=
  { seq := 0, kind := .short, a := some w.driverSubject, b := .single (subjectOf (w.driverAt e.first) w.pairB), selection := none,
    value := match result with | .pairValue v _ => some v | _ => none,
    range := match result with | .pairValue _ k => some k | _ => some 3 }

/-- The result of a confirm, which the sweep record `w` has counted: the SHORT is recorded, and its entry removed (R104). -/
def onConfirm (x : Station) (w : Sweep) (e : Entry) (result : MeasResult) (s : State) : State :=
  let recorded := recordAll x w true [w.shortDefect e result] (setSweep x w s)
  if recorded.2 then recorded.1 else isolationNext x w (locatorRemove (s.bench x).locator) recorded.1

/-! ## The connection phase (chapter 5) -/

/-- The connection phase ends (R93). Until the isolation phase has read S and M, READ STATUS shows D as N and no candidates (R97, R110,
log 41). -/
def connectionEnd (x : Station) (s : State) : State :=
  match (s.bench x).sweep with
  | some w =>
    match w.scope with
    | .connectionOnly => endSweep x .notDone s
    | .full =>
      isolationStart x
        (s.setBench x { s.bench x with
          sweep := some { w with phase := .isolation, driver := 0, candidates := 0, groupDriver := 0, groupSweep := 0, confirms := 0 },
          locator := [] })
  | none => s

/-- Member k of the current net. -/
def Sweep.member (w : Sweep) (m : List ImageCell) (k : Nat) : Nat := memberAt m (w.netFirst + k)

/-- The two points of the pair to measure: the anchor and the member, or m1 and m2 in the re-selection test (R85, R91). -/
def Sweep.pair (w : Sweep) (m : List ImageCell) : Nat × Nat :=
  if w.retest then (w.member m 1, w.member m 2) else (w.anchor, w.member m w.pos)

/-- The configuration of a pair is handed after its table reads (R83, R85). -/
def handPair (x : Station) (s : State) : State :=
  if checking s then holdRead x .pair s
  else
    match (s.bench x).sweep with
    | some w =>
      let p := w.pair s.store.words
      handConfig x { drive := pointSet p.1, ret := pointSet p.2 } (setSweep x { w with pairA := p.1, pairB := p.2 } s)
    | none => s

/-- The next net from i on that has a pair (R84). -/
def nextPaired (m : List ImageCell) (nets i : Nat) : Option Nat :=
  (List.range nets).find? (fun j => decide (i ≤ j ∧ 2 ≤ netCount m j))

/-- The sweep record on entering net j, whose record has been read (R84, R87). -/
def Sweep.enterNet (w : Sweep) (m : List ImageCell) (j : Nat) : Sweep :=
  { w with net := j, netCount := Sys2Proof.Machine.netCount m j, netFirst := Sys2Proof.Machine.netFirst m j,
           netThreshold := Sys2Proof.Machine.netThreshold m j w.threshold, pos := 1,
           anchor := memberAt m (Sys2Proof.Machine.netFirst m j), reselected := false, retest := false }

/-- The walk goes on at net i: nets of one member are passed over, and past the last net the phase ends (R84, R93). The sweep record
takes the net shown with its record, also while the engine is held at that read, when READ STATUS shows net i as the image holds it
(R94, log 41). -/
def beginNet (x : Station) (i : Nat) (s : State) : State :=
  match (s.bench x).sweep with
  | some w =>
    if w.nets ≤ i then connectionEnd x s
    else if checking s then holdRead x .net (setSweep x (w.enterNet s.store.words i) s)
    else
      match nextPaired s.store.words w.nets i with
      | some j => handPair x (setSweep x (w.enterNet s.store.words j) s)
      | none => connectionEnd x (setSweep x (w.enterNet s.store.words (w.nets - 1)) s)
  | none => s

/-- The sweep starts: its header is read, and the walk begins at net 0 (R83). -/
def beginSweep (x : Station) (s : State) : State :=
  if checking s then holdRead x .sweepStart s
  else
    let m := s.store.words
    match (s.bench x).sweep with
    | some w => beginNet x 0 (setSweep x { w with nets := hdrNets m, threshold := hdrThreshold m, start := hdrStart m } s)
    | none => s

/-- The sweep record created by START CONTINUITY (R82). While the engine is held at the read of the sweep header, READ STATUS shows net 0
with 0 members, anchor 0 and no member point (R94, log 41). -/
def Sweep.create (scope : Scope) (limit : Nat) : Sweep :=
  { scope := scope, limit := limit, phase := .connection, nets := 0, threshold := 0, start := 0, net := 0, netCount := 0, netFirst := 0,
    netThreshold := 0, pos := 1, anchor := 0, reselected := false, retest := false, held := [], pairs := 0, pairA := 0, pairB := 0,
    span := 0, members := 0, short := 0, unused := [], driver := 0, candidates := 0, driverFirst := 0, groupDriver := 0,
    groupSweep := 0, confirms := 0 }

/-- The walk goes on at member position `pos`, or with the next net. -/
def walkOn (x : Station) (w : Sweep) (pos : Nat) (s : State) : State :=
  if pos < w.netCount then handPair x (setSweep x { w with pos := pos } s) else beginNet x (w.net + 1) (setSweep x w s)

/-- Defects recorded in order, and the walk then goes on unless the limit has ended the sweep. -/
def recordThen (x : Station) (w : Sweep) (ds : List Defect) (pos : Nat) (s : State) : State :=
  let recorded := recordAll x w false ds (setSweep x w s)
  if recorded.2 then recorded.1 else walkOn x w pos recorded.1

/-- The judgement of a pair result (R88). -/
inductive PairOutcome where
  | pass
  | highR (value range : Nat)
  | openWire
deriving DecidableEq, Repr

/-- A pair result judged against the net's threshold (R88). -/
def pairOutcome (threshold : Nat) : MeasResult → PairOutcome
  | .pairValue v k => if v ≤ threshold then .pass else .highR v k
  | .openWire | .clean _ | .fail _ | .notTaken _ | .discarded => .openWire

/-- An OPEN between an anchor and a member of the current net (R88). -/
def Sweep.openDefect (w : Sweep) (h : HeldOpen) : Defect :=
  { seq := 0, kind := .openWire, a := some ⟨some w.net, h.anchor⟩, b := .single ⟨some w.net, h.point⟩, selection := none,
    value := none, range := some 3 }

/-- An OPEN recorded for the anchor alone (R91). -/
def Sweep.anchorOpen (w : Sweep) : Defect :=
  { seq := 0, kind := .openWire, a := some ⟨some w.net, w.anchor⟩, b := .absent, selection := none, value := none, range := some 3 }

/-- A HIGH-R between the anchor and the member just measured (R88). -/
def Sweep.highRDefect (w : Sweep) (value range : Nat) : Defect :=
  { seq := 0, kind := .highR, a := some ⟨some w.net, w.anchor⟩, b := .single ⟨some w.net, w.pairB⟩, selection := none,
    value := some value, range := some range }

/-- The defects of a result that is recorded at once. -/
def Sweep.outcomeDefects (w : Sweep) : PairOutcome → List Defect
  | .pass => []
  | .highR v k => [w.highRDefect v k]
  | .openWire => [w.openDefect ⟨w.anchor, w.pairB⟩]

/-- The re-selection test is settled (R91). A passed test replaces the anchor also where the OPEN it records reaches the defect limit
(log 48). -/
def onRetest (x : Station) (w : Sweep) (o : PairOutcome) (s : State) : State :=
  match o with
  | .pass =>
    recordThen x { w with held := [], retest := false, reselected := true, anchor := w.pairA } [w.anchorOpen] 3 s
  | .highR _ _ | .openWire =>
    recordThen x { w with held := [], retest := false } (w.held.map w.openDefect) 3 s

/-- A pair of the walk is settled (R88, R89, R90). -/
def onWalkPair (x : Station) (w : Sweep) (o : PairOutcome) (s : State) : State :=
  if w.pos = 1 ∧ 3 ≤ w.netCount ∧ o = .openWire then
    handPair x (setSweep x { w with held := [⟨w.anchor, w.pairB⟩], pos := 2 } s)
  else if w.held ≠ [] ∧ o = .openWire then
    handPair x (setSweep x { w with held := w.held ++ [⟨w.anchor, w.pairB⟩], retest := true } s)
  else recordThen x { w with held := [] } (w.held.map w.openDefect ++ w.outcomeDefects o) (w.pos + 1) s

/-- A pair result, which the sweep record `w` has counted, reaches the connection phase (R88 to R91). -/
def onPair (x : Station) (w : Sweep) (result : MeasResult) (s : State) : State :=
  let o := pairOutcome w.netThreshold result
  if w.retest then onRetest x w o s else onWalkPair x w o s

/-! ## Completions -/

/-- Abort pending is set. -/
def aborting (s : State) (x : Station) : Bool := ((s.bench x).record.map (·.abortPending)).getD false

/-- The sweep record with one more completed measurement counted: a pair of the connection phase or a test of R91 (R81), a range test
(R98) or a confirm (R104). -/
def Sweep.counted (w : Sweep) (stack : List Entry) : Sweep :=
  match w.phase, stack with
  | .connection, _ => { w with pairs := w.pairs + 1 }
  | .isolation, e :: _ =>
    if e.state = .confirm then { w with confirms := w.confirms + 1 }
    else { w with groupDriver := w.groupDriver + 1, groupSweep := w.groupSweep + 1 }
  | .isolation, [] => w

/-- A completed measurement settles what it was made for: a pair, a range test or a confirm (R85, R98, R104). -/
def settleMeasured (x : Station) (w : Sweep) (result : MeasResult) (s : State) : State :=
  match w.phase, (s.bench x).locator with
  | .connection, _ => onPair x w result s
  | .isolation, e :: _ => if e.state = .confirm then onConfirm x w e result s else onGroup x w result s
  | .isolation, [] => s

/-- The same configuration is handed again (R86, R99, log 33). -/
def repeatPair (x : Station) (s : State) : State := handConfig x (s.bench x).handed s

/-- Trunk X is handed the empty configuration by a forced end; no engine waits for its report (R72). -/
def clearTrunk (x : Station) (s : State) : State := (arrive x .empty s).1

/-- A result of channel MX is handed to engine EX (R85, R86, R98, R99, R104); an engine that waits for none discards it. A measurement that
completes is counted, also where an ABORT discards its result (R73, R81, R98, R104, log 42); one that was not taken is not (R86, R99). The
engine of a run that a failed check has ended discards the result of its group measurement and hands its trunk the empty configuration
(R58, R72, R112, log 45). -/
def onMeasured (x : Station) (result : MeasResult) (s : State) : State :=
  let b := s.bench x
  match b.sweep with
  | some w =>
    if b.run = .continuity ∧ b.wait = .channel then
      match result with
      | .notTaken _ => if aborting s x then endSweep x .cutShort s else repeatPair x s
      | .pairValue _ _ | .openWire | .clean _ | .fail _ | .discarded =>
        let w1 := w.counted b.locator
        if aborting s x then endSweep x .cutShort (setSweep x w1 s) else settleMeasured x w1 result s
    else s
  | none => if b.run = .noRun ∧ b.wait = .channel then clearTrunk x (s.setBench x { b with wait := .nothing }) else s

/-- The measurement that goes with the configuration that stands (R85, R98, R104). -/
def Sweep.measurement (w : Sweep) (win : Window) (stack : List Entry) : Measurement :=
  match w.phase, stack with
  | .isolation, e :: _ =>
    if e.state = .confirm then .pair (win.physical w.pairA) (win.physical w.pairB) w.start else .group w.short
  | .isolation, [] => .group w.short
  | .connection, _ => .pair (win.physical w.pairA) (win.physical w.pairB) w.start

/-- The engine asks for its measurement; refused, it hands the same configuration again (R85, R86, R98, R99). -/
def measure (x : Station) (w : Sweep) (s : State) : State :=
  let r := requestMeasurement x (w.measurement (s.window x) (s.bench x).locator)
    (s.setBench x { s.bench x with wait := .channel })
  match r.2 with
  | none => r.1
  | some _ => repeatPair x r.1

/-- Trunk X reports a completion to engine EX (R68, R73, R85, R98, R141). -/
def onTrunkDone (x : Station) (s : State) : State :=
  let b := s.bench x
  match b.wait with
  | .allOpen => activityDone x s
  | .trunk =>
    match b.run with
    | .continuity =>
      match b.sweep with
      | some w => if aborting s x then endSweep x .cutShort s else measure x w s
      | none => s
    | .insulation => stepSettled x s
    | .noRun | .checking | .ready => s
  | .nothing | .channel | .read _ | .hv | .energisation => s

/-- A report of trunk X, if there is one. -/
def tellTrunk (x : Station) (r : State × Option TrunkState) : State :=
  match r.2 with
  | some _ => onTrunkDone x r.1
  | none => r.1

/-- A result of channel MX, if there is one. -/
def tellChannel (x : Station) (r : State × Option MeasResult) : State :=
  match r.2 with
  | some v => onMeasured x v r.1
  | none => r.1

/-- The table read an engine was held at is answered: it goes on from there, or takes a pending abort (R41, R73, R83, R97, R139). -/
def resumeRead (x : Station) (s : State) : State :=
  match (s.bench x).wait with
  | .read r =>
    if aborting s x then endSweep x .cutShort s
    else
      match r with
      | .sweepStart => beginSweep x s
      | .net => beginNet x (((s.bench x).sweep.map (·.net)).getD 0) s
      | .pair => handPair x s
      | .isolationStart => isolationStart x s
      | .locator => handLocator x s
      | .step => handStep x s
      | .locate => handLocate x s
  | .nothing | .trunk | .channel | .hv | .energisation | .allOpen => s

end Sys2Proof.Machine
end

