-- ==== Sys2Proof/Machine/Runs.lean ====
section
/-! DEFINITION. The ends of a run: the counted path (R70 to R72), the source at a run end (R121), the forced end of a failed check
(R72) and the station reset (R78). -/

namespace Sys2Proof.Machine

/-! ## The counted run end (R71) -/

/-- The job a run end hands to the print queue (R71, R151). -/
def runJob (s : State) (x : Station) (r : RunRecord) (v : Verdict) : Job :=
  { station := x, bank := r.bank, serial := r.serial, verdict := v, found := r.found, crc := s.store.crc,
    code := hdrCode s.store.words, revision := hdrRevision s.store.words, cancelled := none }

/-- The bank of an ended run: queued for a ticket, or kept (R71). -/
def endBank (x : Station) (r : RunRecord) (v : Verdict) (ticket : Bool) (s : State) : State :=
  if ticket then queueJob (runJob s x r v) s else setBankState x r.bank .kept s

/-- A station with its run ended: the verdict counted, the summary written, the record and all work in hand dropped (R71, R75). -/
def Bench.ended (b : Bench) (r : RunRecord) (cause : RunEndCause) (v : Verdict) : Bench :=
  { b with run := .noRun, record := none, summary := some { serial := r.serial, bank := r.bank, verdict := v, cause := cause },
           counters := b.counters.count v, sweep := none, locator := [], step := none, queued := none, wait := .nothing }

/-- A run end that is counted (R71). A station reset gives no ticket and raises nothing on the station port (R78). -/
def endRun (x : Station) (r : RunRecord) (cause : RunEndCause) (v : Verdict) (s : State) : State :=
  let quiet := decide (cause = .stationReset)
  let s1 := endBank x r v (!quiet && needsTicket r.policy v) (s.setBench x ((s.bench x).ended r cause v))
  raise .ps (srcRunEndedOf x) (if quiet then s1 else raise x.port srcRunEnded s1)

/-- A run end of station X at the HV unit: its asks are cleared, its energisation cut, and the source it holds released (R121,
R133). The step it interrupts makes no step end of R119: the string count stands (log 49). `quiet` for a station reset, whose release
raises no HV-RELEASED. -/
def endHolding (x : Station) (quiet : Bool) (s : State) : State :=
  let s1 := tellEngine (cutEnergisation x .runEnd (clearAsks x s))
  if s1.hv.holder = some x then
    releaseHolder (s1.setHv { s1.hv with reserved := false, holderStep := false, holdTimer := none, quiet := s1.hv.quiet || quiet })
  else s1

/-- An aperture of a group measurement runs on channel MX. -/
def groupRuns (s : State) (x : Station) : Bool :=
  match (s.channel x).state, (s.channel x).inHand with
  | .measuring, some (.group _) => true
  | _, _ => false

/-- The work in hand of a run that a failed check ends (R72). A group measurement ends at its own aperture, and trunk X is handed the
empty configuration then (R58, R112, log 45); else the trunk is handed it at once, which cuts the aperture of a pair (R49, R58). -/
def endWork (x : Station) (group : Bool) (s : State) : State :=
  if group then s.setBench x { s.bench x with wait := .channel } else clearTrunk x s

/-- A failed reference check ends the open run of station X (R72). -/
def forcedEnd (x : Station) (s : State) : State :=
  let b := s.bench x
  match b.record with
  | some r0 =>
    let r := { r0 with refFault := true, abortPending := false }
    let s1 := endHolding x false (endRun x r .referenceCheck (verdictOf r) s)
    if b.run = .continuity ∨ b.run = .insulation then endWork x (groupRuns s x) s1 else s1
  | none => s

/-! ## The station reset (R78) -/

/-- The attention unit of a port after a station reset: pending set and serving stack are cleared, REFERENCE-ALARM stays while
alarm active is set (R78, R166, R172). -/
def Attention.stationReset (u : Attention) (active : Bool) : Attention :=
  { u with pending := if active then sourceBit srcAlarm else 0, stack := [] }

/-- The run of station X leaves the list of runs that joined the check (R67, R78). -/
def leaveCheck (x : Station) (s : State) : State :=
  s.setStore { s.store with joined := s.store.joined.filter (fun y => decide (y ≠ x)) }

/-- The open run of a station ends INCOMPLETE by a station reset, whatever its record holds; with no run open RUN-ENDED-X is raised on
port PS all the same, and a measurement in hand is waited for no more (R78). -/
def resetRun (x : Station) (s : State) : State :=
  match (s.bench x).record with
  | some r => endRun x r .stationReset .incomplete s
  | none => raise .ps (srcRunEndedOf x) (s.setBench x { s.bench x with wait := .nothing })

/-- A station reset of station X (R78): run, source, channel, trunk, and at last the attention unit of its port. -/
def stationReset (x : Station) (s : State) : State :=
  let s1 := endHolding x true (resetRun x (leaveCheck x s))
  let s2 := stationResetTrunk x (stationResetChannel x s1)
  s2.setUnit x.port ((s2.unit x.port).stationReset s2.store.active)

end Sys2Proof.Machine
end

