-- ==== Sys2Proof/Machine/Reports.lean ====
section
/-! DEFINITION. What the reading requests return: R21, R22, R33, R34, R60, R77, R80, R94, R110, R134, R146, R150, R160, R167, R174. -/

namespace Sys2Proof.Machine

/-- READ NOTICES (R167). -/
def noticeReport (s : State) (p : Port) : NoticeReport :=
  let u := s.unit p
  { pending := u.pending, levels := (List.range 16).map (sourceLevel u), stack := u.stack.reverse, base := u.base,
    attn := s.attn p, alarm := s.store.active }

/-- A window as READ MATRIX shows it (R21). -/
def windowReport (w : Window) : WindowReport := { base := w.base, limit := w.limit, lock := w.lock, enabled := w.enabled }

/-- READ MATRIX (R21). -/
def matrixReport (s : State) : MatrixReport :=
  let m := s.matrix
  { state := m.state, trunks := ⟨m.trunks.a.state, m.trunks.b.state⟩, windows := ⟨windowReport m.windows.a, windowReport m.windows.b⟩,
    settle := ⟨m.trunks.a.settleTime, m.trunks.b.settleTime⟩, presence := m.presence, selTable := m.selTable, hot := m.hot }

/-- The header summary stands while VALID, or CHECKING after a passed check (R34). -/
def headerSummary (v : Store) : Option HeaderSummary :=
  if v.state = .valid ∨ (v.state = .checking ∧ v.passed = true) then
    some { span := hdrSpan v.words, nets := hdrNets v.words, members := hdrMembers v.words,
           unused := hdrSpan v.words - hdrMembers v.words, code := hdrCode v.words, revision := hdrRevision v.words }
  else none

/-- REFERENCE STATUS (R34). -/
def referenceReport (v : Store) : ReferenceReport :=
  { state := v.state, check := if v.state = .checking then v.check.map (·.kind) else none, lastResult := v.lastResult, crc := v.crc,
    summary := headerSummary v, armed := v.armed, active := v.active }

/-- READ CHANNEL (R60). -/
def channelReport (c : Channel) : ChannelReport :=
  { state := c.state, range := c.range, isoPending := c.isoPending, lastCode := c.lastCode, lastRaw := c.lastRaw,
    lastResult := c.lastResult, groupOhms := c.lastResult.bind resultOhms, resultRange := c.lastResult.bind resultRange }

/-- The progress of the connection phase (R94). A net has no member at the position shown while its header is still unread, or after a
walk that ended on a net of one member: the member's point is then absent (log 41). -/
def connectionProgress (s : State) (w : Sweep) : ConnectionProgress :=
  { scope := w.scope, limit := w.limit, net := w.net, netCount := w.netCount, pos := w.pos,
    memberPoint := if w.pos < w.netCount then some (w.member s.store.words w.pos) else none, anchor := w.anchor, reselected := w.reselected, retest := w.retest,
    held := w.held.map (·.point), pairs := w.pairs }

/-- The entry whose range test or confirm is in hand (R110), also while its configuration still waits for a table read (log 47). -/
def underTest (b : Bench) : Option Entry := if b.wait = .nothing ∨ b.wait = .allOpen then none else b.locator.head?

/-- The progress of the isolation phase (R110). -/
def isolationProgress (b : Bench) (w : Sweep) : IsolationProgress :=
  { scope := w.scope, limit := w.limit, drivers := w.drivers, driver := w.driver, what := w.driverAt w.driver,
    candidates := w.candidates, stack := b.locator.reverse.map (fun e => (e, e.value.map groupOhms)), inHand := underTest b,
    groupDriver := w.groupDriver, groupSweep := w.groupSweep, confirms := w.confirms, pairs := w.pairs }

/-- A step slot as READ STATUS shows it (R146). -/
def stepReport (st : StepRecord) : StepReport :=
  { selection := st.selection, selectedNets := st.selected.length, candidates := st.returned.length, voltage := st.voltage,
    dwell := st.dwell, threshold := st.threshold, locate := st.locate, state := st.state, energisations := st.energisations,
    lastRins := st.lastRins, clamped := st.clamped }

/-- The queued step's own ask is set: the step slot's step does not stand in WAIT-HV itself (R144). -/
def queuedAsk (s : State) (x : Station) : Bool :=
  s.hv.stepAsk.get x && decide ((s.bench x).step.map (·.state) ≠ some .waitHv)

/-- The progress of insulation steps (R146). -/
def insulationProgress (s : State) (x : Station) : InsulationProgress :=
  let b := s.bench x
  { step := b.step.map stepReport, queued := b.queued.map (fun q => (stepReport q, queuedAsk s x)),
    stack := b.locator.reverse, underTest := underTest b }

/-- The progress of the activity (R80). -/
def progress (s : State) (x : Station) : Option Progress :=
  let b := s.bench x
  match b.run, b.sweep with
  | .continuity, some w =>
    match w.phase with
    | .connection => some (.connection (connectionProgress s w))
    | .isolation => some (.isolation (isolationProgress b w))
  | .insulation, _ => some (.insulation (insulationProgress s x))
  | _, _ => none

/-- READ STATUS (R80). -/
def statusReport (s : State) (x : Station) : StatusReport :=
  let b := s.bench x
  { run := b.run, record := b.record, banks := (b.banks.zero.state, b.banks.one.state), lastBank := b.lastBank,
    trunk := (s.trunk x).state, summary := if b.run = .noRun then b.summary else none, progress := progress s x, wait := b.wait }

/-- The hold timer as READ HV shows it: its time left lies in 0 to the time it started from, and no command of the table is a
clock tick, so the time gone is a free value (log 5). -/
def holdTimeLeft (s : State) : Option Nat := s.hv.holdTimer.map (fun t => t - Config.holdTimeGone s.free)

/-- The energisation as READ HV shows it (R134). -/
def energReport (e : Energisation) : EnergReport :=
  { trunk := e.trunk, setpoint := e.setpoint, clamped := e.clamped, dwell := e.dwell, stage := e.stage }

/-- READ HV (R134). -/
def hvReport (s : State) : HvReport :=
  let h := s.hv
  { holder := h.holder, releasePending := h.releasePending, reserved := h.reserved, waiting := h.waiting, string := h.string,
    stepAsk := h.stepAsk, reserveAsk := h.reserveAsk, holderStep := h.holderStep, holdTimer := holdTimeLeft s, source := h.source,
    sw := h.sw, energ := h.energ.map energReport, latch := h.latch, permission := h.permission, limits := h.limits, build := h.build,
    lidClosed := h.lidClosed, estop := h.estop, hot := s.matrix.hot, last := h.last }

/-- READ DEFECTS of a bank from a start index: at most 8 records (R150). -/
def defectsReport (b : Bank) (start : Nat) : DefectsReport :=
  { state := b.state, count := b.records.length, unlisted := b.unlisted, records := ((b.records.drop start).take 8).map Defect.bytes }

/-- READ PRINTER (R160). -/
def printerReport (s : State) : PrinterReport :=
  let q := s.printer
  { jobs := q.queue.map (fun j => (j.station, j.bank, j.serial, j.verdict)),
    headCancelled := (q.queue.head?.map (·.cancelled.isSome)).getD false, line := q.line, char := q.char, trailer := trailerBegun s,
    link := q.link, busy := q.busy, fault := q.fault, policies := ⟨s.benches.a.policy, s.benches.b.policy⟩ }

end Sys2Proof.Machine
end

