-- ==== Sys2Proof/Machine/Requests.lean ====
section
/-! DEFINITION. What the blocks do with each request of the catalogue, and their answers (sections 1.6 to 9.6 and 10.3). Each
function takes the state and answers the new state with a reply; no reply means that the request waits (R163). -/

namespace Sys2Proof.Machine

/-- The answer of a block: status, CLAMPED, MORE, payload (R163). -/
structure Reply where
  status : Status
  clamped : Bool
  more : Bool
  payload : Payload
deriving DecidableEq, Repr

/-- A status with no payload. -/
def Reply.plain (v : Status) : Reply := { status := v, clamped := false, more := false, payload := .empty }

/-- OK with a payload. -/
def Reply.data (d : Payload) : Reply := { status := .ok, clamped := false, more := false, payload := d }

/-- OK, with the CLAMPED flag where a value was changed. -/
def Reply.okClamped (clamped : Bool) : Reply := { status := .ok, clamped := clamped, more := false, payload := .empty }

/-- A state with the reply of a request: none while the request waits. -/
abbrev Served := State × Option Reply

/-- A refusal or an answer that changes nothing. -/
def same (v : Status) (s : State) : Served := (s, some (.plain v))

/-- An answer with a payload that changes nothing. -/
def answerData (d : Payload) (s : State) : Served := (s, some (.data d))

/-- A request that names a station: any other name is BAD-ARGUMENT. -/
def withStation (v : Byte) (s : State) (f : Station → Served) : Served :=
  match stationOf v with
  | some x => f x
  | none => same .badArgument s

/-! ## Notices (section 10.3) -/

/-- The pending set after source n is taken: cleared, but for REFERENCE-ALARM while alarm active is set (R169). -/
def takenPending (u : Attention) (n : Nat) (active : Bool) : Word16 :=
  if n = srcAlarm ∧ active = true then u.pending else u.pending &&& ~~~ sourceBit n

/-- TAKE NOTICE (R169). -/
def serveTakeNotice (p : Port) (s : State) : Served :=
  let u := s.unit p
  match pickSource u with
  | some n =>
    (s.setUnit p { u with pending := takenPending u n s.store.active, stack := sourceLevel u n :: u.stack },
      some (.data (.bytes [u.base + BitVec.ofNat 8 n, levelByte (sourceLevel u n)])))
  | none => answerData (.bytes [0xFF, 0xFF]) s

/-- END NOTICE (R170). -/
def serveEndNotice (p : Port) (s : State) : Served :=
  let u := s.unit p
  match u.stack with
  | l :: rest => (s.setUnit p { u with stack := rest }, some (.data (.bytes [levelByte l])))
  | [] => answerData (.bytes [0xFF]) s

/-- The pending set after WRITE PENDING: only enabled bits of defined sources change, and source 15 is not cleared while alarm
active is set (R171). That bit n of the mask and of the values stands for source n is the model's choice (log 53). -/
def writtenPending (p : Port) (old enable values : Word16) (active : Bool) : Word16 :=
  let mask := enable &&& definedSources p
  ((old &&& ~~~ mask) ||| (values &&& mask)) ||| (if active then old &&& sourceBit srcAlarm else 0)

/-- WRITE PENDING (R171). -/
def serveWritePending (p : Port) (enable values : Word16) (s : State) : Served :=
  let u := s.unit p
  (s.setUnit p { u with pending := writtenPending p u.pending enable values s.store.active }, some (.plain .ok))

/-- A source whose level can be set on a port: defined there, and not 14 or 15 (R167). -/
def changeableSource (p : Port) (n : Nat) : Bool := decide (n < 9) && (definedSources p).getLsbD n

/-- SET NOTICE LEVEL (R167). -/
def serveSetNoticeLevel (p : Port) (source level : Byte) (s : State) : Served :=
  let u := s.unit p
  match levelOf level with
  | some l =>
    if changeableSource p source.toNat then
      (s.setUnit p { u with levels := u.levels.setIfInBounds source.toNat l }, some (.plain .ok))
    else same .badArgument s
  | none => same .badArgument s

/-- SET NOTICE BASE (R167). -/
def serveSetNoticeBase (p : Port) (base : Byte) (s : State) : Served :=
  if base.toNat % 16 = 0 then (s.setUnit p { s.unit p with base := base }, some (.plain .ok)) else same .badArgument s

/-- CALL STATION (R171). -/
def serveCallStation (v : Byte) (s : State) : Served :=
  withStation v s (fun x => (raise x.port srcCall s, some (.plain .ok)))

/-! ## Windows and the matrix (chapter 1) -/

/-- Two windows are both enabled and share a card (R18). -/
def windowsOverlap (v w : Window) : Bool := v.enabled && w.enabled && decide (v.base ≤ w.limit ∧ w.base ≤ v.limit)

/-- Why SET WINDOW is refused for window X; none where it passes (R18). -/
def windowRefusal (x : Station) (w : Window) (s : State) : Option Status :=
  if runOpen s x then some .runOpen
  else if windowsOverlap w (s.window x.other) then some .overlap
  else if (s.window x).lock then some .locked
  else if (s.trunk x).state ≠ .idle then some .busy
  else none

/-- Window X takes a base and a limit; the selector table follows, and a window load is placed where an entry changed on a READY
matrix (R18, R19). -/
def applyWindow (x : Station) (w : Window) (s : State) : State :=
  let m := s.matrix
  let table := m.selTable.take x w.cards
  let s1 := s.setMatrix { m with windows := m.windows.set x w, selTable := table }
  if table ≠ m.selTable ∧ m.state = .ready then requestHousekeeping .window s1 else s1

/-- SET WINDOW (R18, R19). -/
def serveSetWindow (v base limit : Byte) (s : State) : Served :=
  withStation v s (fun x =>
    if 63 < base.toNat ∨ 63 < limit.toNat then same .badArgument s
    else
      let w := { s.window x with base := base.toNat, limit := limit.toNat }
      match windowRefusal x w s with
      | some why => same why s
      | none => (applyWindow x w s, some (.plain .ok)))

/-- LOCK WINDOW (R20). -/
def serveLockWindow (v : Byte) (s : State) : Served :=
  withStation v s (fun x =>
    (s.setMatrix { s.matrix with windows := s.matrix.windows.set x { s.window x with lock := true } }, some (.plain .ok)))

/-- SET SETTLE TIME (R15). -/
def serveSetSettleTime (v time : Byte) (s : State) : Served :=
  withStation v s (fun x =>
    let t := clampTo 1 20 time.toNat
    (s.setTrunk x { s.trunk x with settleTime := t }, some (.okClamped (decide (t ≠ time.toNat)))))

/-- READ POINTS (R22). A bad count or range is BAD-ARGUMENT also while the relay image is unknown (log 50). -/
def serveReadPoints (first : Word16) (count : Byte) (s : State) : Served :=
  if count = 0 ∨ 240 < count.toNat ∨ 2048 < first.toNat + count.toNat then same .badArgument s
  else
    match s.matrix.image with
    | some m => answerData (.points ((List.range count.toNat).map (fun i => m.relays.point (first.toNat + i)))) s
    | none => same .unreadable s

/-! ## The reference store (chapter 2) -/

/-- A run of either station is open. -/
def anyRunOpen (s : State) : Bool := runOpen s .a || runOpen s .b

/-- BEGIN LOAD (R29). -/
def serveBeginLoad (s : State) : Served :=
  let v := s.store
  match v.state with
  | .loading => same .ok s
  | .checking => same .busy s
  | .empty =>
    if anyRunOpen s then same .runOpen s
    else (s.setStore { v with words := [], state := .loading, passed := false }, some (.plain .ok))
  | .valid | .faulted =>
    if anyRunOpen s then same .runOpen s else (s.setStore { v with state := .loading, passed := false }, some (.plain .ok))

/-- WRITE IMAGE (R30); more than 120 words is BAD-ARGUMENT (log 12), and so is a start above 8208 with no words (log 39). -/
def serveWriteImage (start : Word16) (words : List Word16) (s : State) : Served :=
  if s.store.state ≠ .loading then same .notLoading s
  else if 120 < words.length ∨ Config.imageWords < start.toNat + words.length then same .badArgument s
  else (s.setStore { s.store with words := imageWriteAll s.store.words start.toNat words }, some (.plain .ok))

/-- The store begins a check (R31, R40, R43). -/
def startCheck (kind : CheckKind) (s : State) : State :=
  s.setStore { s.store with state := .checking, check := some (.start kind) }

/-- COMMIT IMAGE (R31). -/
def serveCommitImage (s : State) : Served :=
  if s.store.state = .loading then (startCheck .full s, some (.plain .accepted)) else same .notLoading s

/-- ABANDON LOAD (R32). -/
def serveAbandonLoad (s : State) : Served :=
  match s.store.state with
  | .loading => (s.setStore { s.store with state := .empty, passed := false }, some (.plain .ok))
  | .empty => same .ok s
  | .checking | .valid | .faulted => same .notLoading s

/-- ARM ALARM (R42). -/
def serveArmAlarm (s : State) : Served := (s.setStore { s.store with armed := true }, some (.plain .ok))

/-- READ IMAGE (R33): in CHECKING it waits for the check's end. -/
def serveReadImage (start : Word16) (count : Byte) (s : State) : Served :=
  if count = 0 ∨ 120 < count.toNat ∨ Config.imageWords < start.toNat + count.toNat then same .badArgument s
  else
    match s.store.state with
    | .empty => same .unreadable s
    | .checking => (s, none)
    | .loading | .valid | .faulted => answerData (.words (imageReadAll s.store.words start.toNat count.toNat)) s

/-- READ CHANNEL (R60). -/
def serveReadChannel (v : Byte) (s : State) : Served :=
  withStation v s (fun x => answerData (.channel (channelReport (s.channel x))) s)

/-! ## Runs (chapter 4) -/

/-- A bank that OPEN RUN may choose (R65). -/
def BankState.free? (v : BankState) : Bool := decide (v = .free ∨ v = .kept)

/-- The bank OPEN RUN chooses (R65). -/
def chooseBank (b : Bench) : Option BankNo :=
  if ((b.banks.get b.lastBank.other).state).free? then some b.lastBank.other
  else if ((b.banks.get b.lastBank).state).free? then some b.lastBank
  else none

/-- Why OPEN RUN is refused; else the bank it takes (R64). -/
def openRefusal (x : Station) (s : State) : Status ⊕ BankNo :=
  let n := hdrSpan s.store.words
  if runOpen s x then .inl .runOpen
  else if s.store.state ≠ .valid ∧ s.store.state ≠ .checking then .inl .noReference
  else if s.matrix.state ≠ .ready ∨ (s.trunk x).state ≠ .idle then .inl .busy
  else if (s.window x).size < n ∨ (s.window x).enabled = false then .inl .windowSmall
  else if spanCards (s.window x) n &&& ~~~ s.matrix.presence ≠ 0 then .inl .cardMissing
  else match chooseBank (s.bench x) with
    | some k => .inr k
    | none => .inl .printerBacklog

/-- The run record of a new run (R63, R66). -/
def RunRecord.create (b : Bench) (k : BankNo) : RunRecord :=
  { serial := b.nextSerial, bank := k, continuity := .notDone, found := 0, shorts := 0, stepInterrupted := false, refFault := false,
    policy := b.policy, abortPending := false }

/-- A station with a new run open (R66). -/
def Bench.opened (b : Bench) (k : BankNo) : Bench :=
  { b with run := .checking, record := some (.create b k), summary := none, lastBank := k, nextSerial := serialAfter b.nextSerial,
           banks := b.banks.set k { state := .recording, records := [], unlisted := 0 }, wait := .nothing }

/-- The run joins the check: in VALID a checksum check is started for it (R40, R66). -/
def joinCheck (x : Station) (s : State) : State :=
  let s1 := if s.store.state = .checking then s else startCheck .checksum s
  s1.setStore { s1.store with joined := s1.store.joined ++ [x] }

/-- OPEN RUN (R64 to R66). -/
def serveOpenRun (x : Station) (s : State) : Served :=
  match openRefusal x s with
  | .inl why => same why s
  | .inr k =>
    (joinCheck x (s.setBench x ((s.bench x).opened k)),
      some { status := .accepted, clamped := false, more := false, payload := .opened (s.bench x).nextSerial k })

/-- The payload of a CLOSE RUN that is taken (R69). -/
def closedPayload (s : State) (x : Station) (r : RunRecord) : Payload :=
  .closed r.serial r.bank (verdictOf r) r.found ((s.bench x).banks.get r.bank).unlisted (needsTicket r.policy (verdictOf r))

/-- CLOSE RUN (R69). -/
def serveCloseRun (x : Station) (s : State) : Served :=
  match (s.bench x).run, (s.bench x).record with
  | .noRun, _ => same .noRun s
  | .checking, _ | .continuity, _ | .insulation, _ => same .busy s
  | .ready, some r =>
    (endHolding x false (endRun x r .closeRun (verdictOf r) s), some (.data (closedPayload s x r)))
  | .ready, none => same .noRun s

/-- ABORT (R73, R74). -/
def serveAbort (x : Station) (s : State) : Served :=
  match (s.bench x).run with
  | .noRun | .ready => same .ok s
  | .checking => same .busy s
  | .continuity =>
    if (s.bench x).wait = .allOpen then same .accepted s
    else (mapRecord x (fun r => { r with abortPending := true }) s, some (.plain .accepted))
  | .insulation => (interruptStep x .abort s, some (.plain .accepted))

/-- SET SERIAL (R76). -/
def serveSetSerial (v : Byte) (value : BitVec 32) (s : State) : Served :=
  withStation v s (fun x =>
    let n := clampTo 1 999999 value.toNat
    (s.setBench x { s.bench x with nextSerial := n }, some (.okClamped (decide (n ≠ value.toNat)))))

/-- CLEAR COUNTERS (R77). -/
def serveClearCounters (v : Byte) (s : State) : Served :=
  withStation v s (fun x => (s.setBench x { s.bench x with counters := .zero }, some (.plain .ok)))

/-- READ COUNTERS (R77). -/
def serveReadCounters (v : Byte) (s : State) : Served :=
  withStation v s (fun x => answerData (.counters (s.bench x).nextSerial (s.bench x).counters) s)

/-- READ STATUS (R80). -/
def serveReadStatus (v : Byte) (s : State) : Served :=
  withStation v s (fun x => answerData (.status (statusReport s x)) s)

/-! ## Activities (chapters 5 and 8) -/

/-- A run started on a continuity sweep (R82). -/
def Bench.sweeping (b : Bench) (scope : Scope) (limit : Nat) : Bench :=
  { b with run := .continuity, record := b.record.map (fun r => { r with continuity := .notDone }),
           sweep := some (.create scope limit), locator := [] }

/-- START CONTINUITY (R82). -/
def serveStartContinuity (x : Station) (scope limit : Byte) (s : State) : Served :=
  match scopeOf scope with
  | some c =>
    if 128 < limit.toNat then same .badArgument s
    else if (s.bench x).run = .ready then
      (beginSweep x (s.setBench x ((s.bench x).sweeping c limit.toNat)), some (.plain .accepted))
    else same .busy s
  | none => same .badArgument s

/-- A class code lies in the selection (R137). -/
def Selection.selects (sel : Selection) (i : Nat) (class_ : Byte) : Bool :=
  match sel with
  | .net n => decide (i = n)
  | .classMask v k => decide ((class_ ^^^ v) &&& ~~~ k = 0)
  | .classPair v1 v2 => decide (class_ = v1 ∨ class_ = v2)

/-- The selected nets (R137). -/
def selectedNets (m : List ImageCell) (sel : Selection) : List Nat :=
  (List.range (hdrNets m)).filter (fun i => !netExcluded m i && sel.selects i (netClass m i))

/-- The returned set: the other nets that are not excluded, then the unused points (R137). -/
def returnedSet (m : List ImageCell) (sel : Selection) : List Driver :=
  ((List.range (hdrNets m)).filter (fun i => !netExcluded m i && !sel.selects i (netClass m i))).map .net
    ++ (unusedPoints m (hdrSpan m) (hdrMembers m)).map .point

/-- A voltage, dwell or threshold: the header's default for 0, else clamped (R136). -/
def defaulted (lo hi dflt v : Nat) : Nat := if v = 0 then dflt else clampTo lo hi v

/-- A value of START INSULATION was clamped (R136). -/
def wasClamped (lo hi v : Nat) : Bool := decide (v ≠ 0 ∧ clampTo lo hi v ≠ v)

/-- The step record of a request (R135 to R137). -/
def StepRecord.create (m : List ImageCell) (sel : Selection) (voltage dwell threshold : Nat) (locate : Bool) : StepRecord :=
  { selection := sel, selected := selectedNets m sel, returned := returnedSet m sel,
    voltage := defaulted 50 1500 (hdrVoltage m) voltage, dwell := defaulted 10 60000 (hdrDwell m) dwell,
    threshold := defaulted 1 60000 (hdrInsulation m) threshold, locate := locate, state := .waitHv, energisations := 0,
    lastRins := none, clamped := false, interrupted := false }

/-- Items 1 and 2 of R138, which need no table read. -/
def insulationBarred (b : Bench) : Option Status :=
  match b.record with
  | none => some .noRun
  | some r => if r.continuity ≠ .done ∨ r.shorts ≠ 0 then some .prerequisite else none

/-- A step accepted: started in READY, queued in INSULATION (R138, R140). -/
def acceptStep (x : Station) (st : StepRecord) (s : State) : State :=
  let b := s.bench x
  if b.run = .ready then stepWaits x (s.setBench x { b with run := .insulation, step := some st, wait := .hv })
  else s.setBench x { b with queued := some st }

/-- START INSULATION (R136 to R138). While the store is CHECKING items 3 and 4 wait with their reads. -/
def serveStartInsulation (x : Station) (kind : Byte) (selection voltage dwell threshold : Word16) (locate : Byte) (s : State) :
    Served :=
  match selectionOf kind selection with
  | none => same .badArgument s
  | some sel =>
    match insulationBarred (s.bench x) with
    | some why => same why s
    | none =>
      if checking s then (s, none)
      else
        let st := StepRecord.create s.store.words sel voltage.toNat dwell.toNat threshold.toNat (decide (locate ≠ 0))
        let b := s.bench x
        if st.selected = [] ∨ st.returned = [] then same .emptySelection s
        else if b.run = .checking ∨ b.run = .continuity ∨ (b.run = .insulation ∧ b.queued.isSome) then same .busy s
        else
          (acceptStep x st s,
            some { status := .accepted, more := false, payload := .stepTaken (decide (b.run = .insulation)),
                   clamped := wasClamped 50 1500 voltage.toNat || wasClamped 10 60000 dwell.toNat
                     || wasClamped 1 60000 threshold.toNat })

/-! ## The source (chapter 7) -/

/-- A permission that bars grants is written over one that allows them: the holder loses the source (R131). -/
def barHolder (s : State) : State :=
  match s.hv.holder with
  | some x =>
    releaseIfDue (interruptStep x .barred
      (s.setHv { s.hv with reserved := false, holdTimer := none, releasePending := true }))
  | none => s

/-- SET HV PERMISSION (R114, R131). A value outside the four is BAD-ARGUMENT also while the permission is locked (log 46). -/
def serveSetHvPermission (v : Byte) (s : State) : Served :=
  match permissionOf v with
  | none => same .badArgument s
  | some q =>
    if s.hv.permission.locked then same .locked s
    else
      let s1 := s.setHv { s.hv with permission := q }
      let s2 := if s.hv.permission.allows && !q.allows then barHolder s1
        else if !s.hv.permission.allows && q.allows then lookForGrant s1 else s1
      (s2, some (.plain .ok))

/-- The limits with one of them set, and its range (R115). -/
def Limits.put (l : Limits) (build : BuildMax) (name value : Nat) : Option (Limits × Nat) :=
  if name = 0 then some ({ l with cap := clampTo 50 (buildVolts build) value }, clampTo 50 (buildVolts build) value)
  else if name = 1 then some ({ l with ramp := clampTo 1 10 value }, clampTo 1 10 value)
  else if name = 2 then some ({ l with trip := clampTo 100 2000 value }, clampTo 100 2000 value)
  else if name = 3 then some ({ l with hold := clampTo 100 5000 value }, clampTo 100 5000 value)
  else if name = 4 then some ({ l with string := clampTo 1 64 value }, clampTo 1 64 value)
  else none

/-- SET HV LIMIT (R115). -/
def serveSetHvLimit (name : Byte) (value : Word16) (s : State) : Served :=
  match s.hv.limits.put s.hv.build name.toNat value.toNat with
  | some (l, v) => (s.setHv { s.hv with limits := l }, some (.okClamped (decide (v ≠ value.toNat))))
  | none => same .badArgument s

/-- CLEAR HV FAULT (R127). -/
def serveClearHvFault (s : State) : Served :=
  match s.hv.latch with
  | none => same .ok s
  | some x =>
    if s.hot x then same .busy s
    else (lookForGrant (s.setHv { s.hv with latch := none, source := .off }), some (.plain .ok))

/-- RESERVE HV (R118). -/
def serveReserveHv (x : Station) (s : State) : Served :=
  let h := s.hv
  if !h.permission.allows then same .hvBarred s
  else if h.estop || !h.lidClosed.get x then same .interlock s
  else if h.latch.isSome then same .hvFault s
  else if h.holder = some x then
    if h.releasePending then same .busy s
    else
      (s.setHv { h with reserved := true, holdTimer := if h.holderStep then h.holdTimer else some h.limits.hold },
        some (.plain .ok))
  else if h.holder = none then (grant x (s.setHv (h.setReserveAsk x true)), some (.plain .ok))
  else if h.reserveAsk.get x then same .accepted s
  else (s.setHv (h.setReserveAsk x true), some (.plain .accepted))

/-- RELEASE HV (R121). -/
def serveReleaseHv (x : Station) (s : State) : Served :=
  let h := s.hv
  if h.holder = some x then
    let s1 := s.setHv { h with reserved := false, holdTimer := none }
    (if !h.holderStep && !h.releasePending then releaseHolder s1 else s1, some (.plain .ok))
  else if h.asks x then (s.setHv (h.setReserveAsk x false), some (.plain .ok))
  else same .ok s

/-- READ HV (R134); the time left of a running hold timer takes a free value (log 5). -/
def serveReadHv (s : State) : Served :=
  (if s.hv.holdTimer.isSome then s.advanceFree else s, some (.data (.hv (hvReport s))))

/-! ## Tickets (chapter 9) -/

/-- SET TICKET POLICY (R151). -/
def serveSetTicketPolicy (v policy : Byte) (s : State) : Served :=
  withStation v s (fun x =>
    match policyOf policy with
    | some q => (s.setBench x { s.bench x with policy := q }, some (.plain .ok))
    | none => same .badArgument s)

/-- A request that names a station and a bank (R150, R158). -/
def withBank (v bank : Byte) (s : State) (f : Station → BankNo → Served) : Served :=
  withStation v s (fun x =>
    match bankOf bank with
    | some k => f x k
    | none => same .badArgument s)

/-- CANCEL TICKET (R158). -/
def serveCancelTicket (v bank : Byte) (s : State) : Served :=
  withBank v bank s (fun x k =>
    match ((s.bench x).banks.get k).state with
    | .queued | .printing => (cancelTicket x k s, some (.plain .ok))
    | .free | .recording | .kept => same .notQueued s)

/-- READ DEFECTS (R150). -/
def serveReadDefects (v bank start : Byte) (s : State) : Served :=
  withBank v bank s (fun x k =>
    let b := (s.bench x).banks.get k
    if 127 < start.toNat then same .badArgument s
    else if b.state = .free then same .unreadable s
    else
      (s, some { status := .ok, clamped := false, more := decide (start.toNat + 8 < b.records.length),
                 payload := .defects (defectsReport b start.toNat) }))

/-! ## The catalogue -/

/-- A request of a station port acts on the port's own station; from PS it is NOT-PERMITTED (section 10.2). -/
def ofStation (p : Port) (s : State) (f : Station → Served) : Served :=
  match p.station? with
  | some x => f x
  | none => same .notPermitted s

/-- A request handed to its block (section 10.2). STATION RESET and RESET DEVICE are taken by the port (R164). -/
def serve (p : Port) (r : Request) (s : State) : Served :=
  match r with
  | .takeNotice => serveTakeNotice p s
  | .endNotice => serveEndNotice p s
  | .writePending e v => serveWritePending p e v s
  | .setNoticeLevel n l => serveSetNoticeLevel p n l s
  | .setNoticeBase b => serveSetNoticeBase p b s
  | .readNotices => answerData (.notices (noticeReport s p)) s
  | .callStation x => serveCallStation x s
  | .resetDevice => same .ok s
  | .readCause => answerData (.cause s.cause) s
  | .setWindow x b l => serveSetWindow x b l s
  | .lockWindow x => serveLockWindow x s
  | .setSettleTime x t => serveSetSettleTime x t s
  | .readMatrix => answerData (.matrix (matrixReport s)) s
  | .readPoints f c => serveReadPoints f c s
  | .beginLoad => serveBeginLoad s
  | .writeImage a ws => serveWriteImage a ws s
  | .commitImage => serveCommitImage s
  | .abandonLoad => serveAbandonLoad s
  | .armAlarm => serveArmAlarm s
  | .readImage a c => serveReadImage a c s
  | .referenceStatus => answerData (.reference (referenceReport s.store)) s
  | .readChannel x => serveReadChannel x s
  | .openRun => ofStation p s (fun x => serveOpenRun x s)
  | .closeRun => ofStation p s (fun x => serveCloseRun x s)
  | .abort => ofStation p s (fun x => serveAbort x s)
  | .stationReset => same .ok s
  | .startContinuity c l => ofStation p s (fun x => serveStartContinuity x c l s)
  | .startInsulation k w v d t l => ofStation p s (fun x => serveStartInsulation x k w v d t l s)
  | .readStatus x => serveReadStatus x s
  | .setSerial x v => serveSetSerial x v s
  | .clearCounters x => serveClearCounters x s
  | .readCounters x => serveReadCounters x s
  | .setHvPermission v => serveSetHvPermission v s
  | .setHvLimit l v => serveSetHvLimit l v s
  | .clearHvFault => serveClearHvFault s
  | .reserveHv => ofStation p s (fun x => serveReserveHv x s)
  | .releaseHv => ofStation p s (fun x => serveReleaseHv x s)
  | .readHv => serveReadHv s
  | .setTicketPolicy x v => serveSetTicketPolicy x v s
  | .cancelTicket x b => serveCancelTicket x b s
  | .readDefects x b i => serveReadDefects x b i s
  | .readPrinter => answerData (.printer (printerReport s)) s

end Sys2Proof.Machine
end

