-- ==== Sys2Proof/Machine/Resets.lean ====
section
/-! DEFINITION. The power-on, line and supervisor resets, block by block, and the end of a reset (R6, R16, R43, R59, R79, R133, R159,
R164, R166, R173, R174). -/

namespace Sys2Proof.Machine

/-! ## Blocks -/

/-- The store after a line or supervisor reset: a kept image is checked in full, a load is lost (R43). -/
def Store.kept (v : Store) (armed : Bool) : Store :=
  let base := { v with armed := armed, active := false, joined := [] }
  match v.state with
  | .empty | .loading => { base with state := .empty, check := none, passed := false }
  | .checking | .valid | .faulted => { base with state := .checking, check := some (.start .full) }

/-- A station after a line or supervisor reset: run, banks and summary are gone, serial and counters stay (R79, R148, R151). -/
def Bench.discarded (b : Bench) (policy : TicketPolicy) : Bench :=
  { Bench.reset with nextSerial := b.nextSerial, counters := b.counters, policy := policy }

/-- A station at a line reset: its ticket policy becomes NON-PASS (R151). -/
def Bench.lineReset (b : Bench) : Bench := b.discarded .nonPass

/-- A station at a supervisor reset: its ticket policy is kept (R151). -/
def Bench.supervisorReset (b : Bench) : Bench := b.discarded b.policy

/-- The HV unit after a supervisor reset: permission, limits, build maximum and fault latch are kept (R133). -/
def Hv.supervisorReset (h : Hv) : Hv :=
  { Hv.reset h.build h.lidClosed h.estop with
    permission := h.permission, limits := h.limits, latch := h.latch, source := if h.latch.isSome then .faulted else .off }

/-- The code echo of the request in work, or of the response not yet fetched. -/
def PortState.heldEcho (v : PortState) : Option Byte :=
  match v.work, v.response with
  | some r, _ => some r.code
  | none, some a => some a.echo
  | none, none => none

/-- An ABANDONED response (R164). -/
def abandonedResponse (echo : Byte) : Response :=
  { status := .abandoned, echo := echo, clamped := false, more := false, payload := .empty }

/-- The frame of a period in progress is fixed, and is shifted out to the end of that period; it no longer stands for the response slot
(R162, log 8). -/
def Shift.cutLoose (f : Shift) : Shift := { f with fromSlot := false }

/-- A port at a line or supervisor reset (R164). -/
def PortState.abandon (v : PortState) : PortState :=
  { v with work := none, response := v.heldEcho.map abandonedResponse, dropped := false, shifting := v.shifting.map Shift.cutLoose }

/-- All three ports at a line or supervisor reset. -/
def abandonAll (ps : PerPort PortState) : PerPort PortState := ⟨ps.pa.abandon, ps.pb.abandon, ps.ps.abandon⟩

/-- The matrix at a supervisor reset: the slots are emptied, a clearing pass in progress goes on, an all-open release wait ends
with its trunks' wait for a new load (R4, R8, R16). -/
def Matrix.supervisorReset (m : Matrix) : Matrix :=
  { m with slots := ⟨none, none⟩, lastServed := .b,
           hk := if m.hk = some .clearing then some .clearing else none,
           hkWait := if m.hkWait = some .clearing then some .clearing else none }

/-! ## Resets -/

/-- PORN is asserted: every block takes its power-on values (R16, R43, R59, R79, R133, R159, R164, R174). The levels of the inputs
are taken when the reset ends. -/
def powerOn (build : BuildMax) (s : State) : State :=
  { s with
    porn := true, cause := .powerOn, ports := ⟨.reset, .reset, .reset⟩, attention := ⟨.reset, .reset, .reset⟩,
    matrix := .reset s.matrix.hot, store := .reset, channels := ⟨.reset, .reset⟩, benches := ⟨.reset, .reset⟩,
    hv := .reset build s.hv.lidClosed s.hv.estop, printer := .reset s.printer.busy s.printer.fault }

/-- LINERST is asserted: the image, counters and serials are kept (R43, R79, R164, R174). While PORN takes part the part has its
power-on values already, and the cause stays POWER-ON. -/
def lineReset (build : BuildMax) (s : State) : State :=
  if s.porn then { s with linerst := true, hv := .reset build s.hv.lidClosed s.hv.estop }
  else
    { s with
      linerst := true, cause := .line, ports := abandonAll s.ports, attention := ⟨.reset, .reset, .reset⟩,
      matrix := .reset s.matrix.hot, store := s.store.kept false, channels := ⟨.reset, .reset⟩,
      benches := ⟨s.benches.a.lineReset, s.benches.b.lineReset⟩, hv := .reset build s.hv.lidClosed s.hv.estop,
      printer := .reset s.printer.busy s.printer.fault }

/-- A supervisor reset of the whole part (R8, R16, R43, R59, R79, R133, R159, R164, R166, R173). -/
def supervisorReset (s : State) : State :=
  let s1 :=
    { s with
      cause := .supervisor, ports := abandonAll s.ports, attention := ⟨.reset, .reset, .reset⟩,
      matrix := s.matrix.supervisorReset, store := s.store.kept s.store.armed, channels := ⟨.reset, .reset⟩,
      benches := ⟨s.benches.a.supervisorReset, s.benches.b.supervisorReset⟩, hv := s.hv.supervisorReset,
      printer := .reset s.printer.busy s.printer.fault }
  let s2 := supervisorResetTrunk .b (supervisorResetTrunk .a s1)
  if s.matrix.state = .ready then requestHousekeeping .allOpen s2 else chainStart s2

/-- The levels the part finds when a reset ends (R2, R113, R154). -/
def takeInputs (i : Inputs) (s : State) : State :=
  { s with
    matrix := { s.matrix with hot := ⟨i.hotA, i.hotB⟩ },
    hv := { s.hv with lidClosed := ⟨i.lidA, i.lidB⟩, estop := i.estop },
    printer := .reset i.busy i.fault }

/-- A reset line is released. -/
def releaseLine (line : ResetLine) (s : State) : State :=
  match line with
  | .porn => { s with porn := false }
  | .linerst => { s with linerst := false }

/-- The reset line is asserted. -/
def lineAsserted (line : ResetLine) (s : State) : Bool :=
  match line with
  | .porn => s.porn
  | .linerst => s.linerst

/-- A reset line is released; with both released the part runs: inputs are taken, and the clearing pass starts on two cold monitors
(R2, R6, R161). -/
def endReset (line : ResetLine) (i : Inputs) (s : State) : State :=
  let s1 := releaseLine line s
  if s1.inReset then s1 else clearingPass (takeInputs i s1)

end Sys2Proof.Machine
end

