-- ==== Sys2Proof/Machine/Ports.lean ====
section
/-! DEFINITION. The request ports: the judgement of a frame, the slots, the delivery of responses, and the two resets that a port
takes whatever its slots hold (R161 to R164). -/

namespace Sys2Proof.Machine

/-- While PORN or LINERST is asserted no event is acted on (log 4). -/
def whenRunning (f : State → State) (s : State) : State := if s.inReset then s else f s

/-! ## Responses -/

/-- The response that carries a block's reply. -/
def Reply.response (r : Reply) (echo : Byte) : Response :=
  { status := r.status, echo := echo, clamped := r.clamped, more := r.more, payload := r.payload }

/-- A response enters the response slot, and the request slot is empty. -/
def respond (p : Port) (echo : Byte) (r : Reply) (s : State) : State :=
  s.setPort p { s.port p with work := none, response := some (r.response echo) }

/-- A slot of the port is not empty. -/
def PortState.occupied (v : PortState) : Bool := v.work.isSome || v.response.isSome

/-- A frame is discarded and DROPPED set (R161). -/
def dropFrame (p : Port) (s : State) : State := s.setPort p { s.port p with dropped := true }

/-! ## Chip-select periods (R162) -/

/-- A WAIT frame with a code echo. -/
def waitResponse (echo : Byte) : Response := { status := .wait, echo := echo, clamped := false, more := false, payload := .empty }

/-- The frame fixed when chip select falls (R162). -/
def PortState.fixFrame (v : PortState) : Shift :=
  match v.response, v.work with
  | some a, _ => { frame := { response := a, dropped := v.dropped }, fromSlot := true }
  | none, some r => { frame := { response := waitResponse r.code, dropped := v.dropped }, fromSlot := false }
  | none, none => { frame := { response := waitResponse 0, dropped := v.dropped }, fromSlot := false }

/-- The frame of the period in progress; fixed at this moment where no fall was given (log 8). -/
def PortState.frameOut (v : PortState) : Shift := v.shifting.getD v.fixFrame

/-- Chip select falls (R162). -/
def selectFalls (p : Port) (s : State) : State := s.setPort p { s.port p with shifting := some (s.port p).fixFrame }

/-- Chip select rises after a period that delivers nothing: both slots keep what they held (R162). -/
def PortState.endPeriod (v : PortState) : PortState := { v with shifting := none, lastFrame := some v.frameOut.frame }

/-- Chip select rises after a fetch: a response that was sent leaves the slot and clears DROPPED (R162). -/
def PortState.delivered (v : PortState) : PortState :=
  if v.frameOut.fromSlot then { v.endPeriod with response := none, dropped := false } else v.endPeriod

/-- Chip select rises at port p, and `f` is what the end of the period does. While PORN or LINERST is asserted the port takes no frame and
ignores a fetch: the period ends with its own frame shifted out and delivers nothing (R161, R162, log 4). -/
def atRise (p : Port) (f : State → State) (s : State) : State := if s.inReset then s.setPort p (s.port p).endPeriod else f s

/-- A fetch period ends (R162). -/
def fetchEnds (p : Port) (s : State) : State := s.setPort p (s.port p).delivered

/-! ## The judgement of a frame (R161) -/

/-- What items 2 to 4 of R161 make of a frame; a frame that passes carries its request, or none where its payload does not fit the
request's arguments (R163). -/
inductive Judgement where
  | badLength
  | unknown
  | notPermitted
  | good (r : Option Request)
deriving DecidableEq, Repr

/-- Items 2 to 4 of R161. -/
def judge (p : Port) (code : Byte) (lengthOk : Bool) (r : Option Request) : Judgement :=
  if lengthOk then
    match codeClass code with
    | some c => if c.holds p then .good r else .notPermitted
    | none => .unknown
  else .badLength

/-- A frame of bytes judged: its code byte, and the judgement. -/
def judgeBytes (p : Port) (bytes : List Byte) : Byte × Judgement :=
  match bytes with
  | code :: len :: payload =>
    (code, judge p code (decide (len.toNat ≤ 248 ∧ payload.length = len.toNat)) (parseRequest code payload))
  | [code] => (code, .badLength)
  | [] => (0, .badLength)

/-- A request of the catalogue judged, as its frame of R175 would be. -/
def judgeRequest (p : Port) (r : Request) : Byte × Judgement := (r.code, judge p r.code r.wf (some r))

/-- A request that passed is handed to its block: its reply enters the response slot, or it stays in the request slot (R161, R163). -/
def handOn (p : Port) (r : Request) (s : State) : State :=
  let served := serve p r s
  match served.2 with
  | some reply => respond p r.code reply served.1
  | none => served.1.setPort p { served.1.port p with work := some r }

/-- The response of a reset that its port takes whatever the slots hold; DROPPED is set where anything was lost (R164). -/
def resetResponse (p : Port) (echo : Byte) (v : Status) (lost : Bool) (s : State) : State :=
  s.setPort p { s.port p with work := none, response := some ((Reply.plain v).response echo), dropped := lost }

/-- Something is lost when a port takes its reset: a request in work, a response, or an earlier DROPPED (R164). -/
def PortState.losing (v : PortState) : Bool := v.occupied || v.dropped

/-- STATION RESET taken on the port of a station (R78, R164). -/
def takeStationReset (p : Port) (x : Station) (s : State) : State :=
  resetResponse p (Request.stationReset).code .ok (s.port p).losing (stationReset x s)

/-- RESET DEVICE taken on port PS (R164, R173). -/
def takeResetDevice (p : Port) (s : State) : State :=
  resetResponse p (Request.resetDevice).code .ok (s.port p).losing (supervisorReset s)

/-- The code of a request that its port takes whatever the slots hold (R161, R164). -/
def resetCode (code : Byte) : Bool := decide (code = (Request.resetDevice).code ∨ code = (Request.stationReset).code)

/-- A frame that passes the port's judgement with a payload that does not fit its request (R163). A reset is taken by R164 all the same:
what its port held is lost, its block refuses it BAD-ARGUMENT, and nothing is reset (log 11). -/
def takeMisfit (p : Port) (code : Byte) (s : State) : State :=
  if resetCode code then resetResponse p code .badArgument (s.port p).losing s
  else if (s.port p).occupied then dropFrame p s
  else respond p code (.plain .badArgument) s

/-- A frame judged good is taken: the two resets whatever the slots hold, any other request on empty slots (R161, R164). -/
def takeGood (p : Port) (code : Byte) (r : Option Request) (s : State) : State :=
  match r with
  | some .resetDevice => takeResetDevice p s
  | some .stationReset =>
    match p.station? with
    | some x => takeStationReset p x s
    | none => s
  | some q => if (s.port p).occupied then dropFrame p s else handOn p q s
  | none => takeMisfit p code s

/-- A refusal of the port itself, in the response slot at once, or the frame dropped (R161). -/
def portRefuses (p : Port) (code : Byte) (v : Status) (s : State) : State :=
  if (s.port p).occupied then dropFrame p s else respond p code (.plain v) s

/-- Chip select rises after a request frame (R161). -/
def takeFrame (p : Port) (f : Byte × Judgement) (s : State) : State :=
  let s1 := s.setPort p (s.port p).endPeriod
  match f.2 with
  | .badLength => portRefuses p f.1 .badLength s1
  | .unknown => portRefuses p f.1 .unknownRequest s1
  | .notPermitted => portRefuses p f.1 .notPermitted s1
  | .good r => takeGood p f.1 r s1

/-- Chip select rises: no bytes are ignored, a first byte 0x00 is a fetch, anything else a request frame (R161). -/
def periodEnds (p : Port) (bytes : List Byte) (s : State) : State :=
  match bytes with
  | [] => s.setPort p (s.port p).endPeriod
  | b :: _ => if b = 0 then fetchEnds p s else takeFrame p (judgeBytes p bytes) s

/-- A request of the catalogue arrives at a port. -/
def submit (p : Port) (r : Request) (s : State) : State := takeFrame p (judgeRequest p r) s

end Sys2Proof.Machine
end

