-- ==== Sys2Proof/Machine/Events.lean ====
section
/-! DEFINITION. The events of the part: the chain and its waits, the monitors, the checker's end, an aperture's end, the source's
readings and timers, lids and E-STOP. An event that cannot come in the state it finds changes nothing (log 2). -/

namespace Sys2Proof.Machine

/-! ## Chain and waits (R3 to R16) -/

/-- The requester of a completed load acts on it (R3, R5, R11). -/
def loadCompleted (q : Requester) (s : State) : State :=
  match q with
  | .trunk x => tellTrunk x (trunkLoadDone x s)
  | .housekeeping .clearing => s.setMatrix { s.matrix with hkWait := some .clearing }
  | .housekeeping .allOpen =>
    if s.matrix.hk = some .allOpen then s else s.setMatrix { s.matrix with hkWait := some .allOpen }
  | .housekeeping .window => s

/-- A chain load completes: the relay image takes its contents, the requester acts, and the arbiter may start the next (R3). -/
def chainLoadCompletes (s : State) : State :=
  match s.matrix.load with
  | some l => chainStart (loadCompleted l.requester (s.setMatrix { s.matrix with image := some l.contents, load := none }))
  | none => s

/-- The clearing pass ends: presence is read, the matrix is READY, a window load follows where a selector is set, and the trunks take
what waits (R6, R7, R9). -/
def matrixReady (pres : CardSet) (s : State) : State :=
  let s1 := s.setMatrix { s.matrix with presence := pres, state := .ready, hkWait := none }
  let s2 := if s1.matrix.selTable = .none then s1 else requestHousekeeping .window s1
  tellTrunk .b (takeWaiting .b (tellTrunk .a (takeWaiting .a s2)))

/-- The release wait after a housekeeping load ends (R5, R6, R16). -/
def housekeepingWaitEnds (pres : CardSet) (s : State) : State :=
  match s.matrix.hkWait with
  | some .clearing => matrixReady pres s
  | some .allOpen =>
    let s1 := s.setMatrix { s.matrix with hkWait := none }
    tellTrunk .b (allOpenDone .b (tellTrunk .a (allOpenDone .a s1)))
  | some .window | none => s

/-! ## Monitors (R2, R13, R49, R125, R126) -/

/-- A monitor reading is taken. -/
def setHot (x : Station) (v : Bool) (s : State) : State := s.setMatrix { s.matrix with hot := s.matrix.hot.set x v }

/-- A monitor rises (R13, R49): the guard, then the cut of an aperture with its NOT-TAKEN to the engine. -/
def monitorRises (x : Station) (s : State) : State :=
  if s.hot x then s
  else
    let s1 := cutAperture x (guardTrunk x (setHot x true s))
    if (s.channel x).state = .measuring then onMeasured x (.notTaken .cut) s1 else s1

/-- The HV unit sees the monitor of trunk X fall: a discharge ends (R125), or the source of a failed discharge is disconnected and its
holder released (R126). -/
def sourceCold (x : Station) (s : State) : State :=
  match s.hv.energ with
  | some e =>
    match e.stage with
    | .discharging => if e.trunk = x then tellEngine (endDischarge e (e.settle (.cut .trunk)) s) else s
    | .isolating | .connecting | .ramping | .dwelling | .sampling => s
  | none =>
    if s.hv.source = .faulted ∧ s.hv.sw = .to x then
      releaseHolder (leaveIsolation x (s.setHv { s.hv with sw := .off, path := false }))
    else s

/-- The trunk controller sees its monitor fall (R13). -/
def trunkCold (x : Station) (s : State) : State := tellTrunk x (unguardTrunk x s)

/-- The source stands on trunk X: discharging it, or FAULTED with the switch TO-X. -/
def sourceOn (s : State) (x : Station) : Bool :=
  decide (s.hv.sw = .to x ∧ (s.hv.source = .discharging ∨ s.hv.source = .faulted))

/-- Trunk controller and HV unit see one fall; where both have work their order is a free value (log 6). -/
def bothCold (x : Station) (s : State) : State :=
  if (s.trunk x).state = .guarded ∧ sourceOn s x = true then
    if Config.hvFirst s.free then trunkCold x (sourceCold x s.advanceFree) else sourceCold x (trunkCold x s.advanceFree)
  else trunkCold x (sourceCold x s)

/-- A monitor falls: trunk controller and HV unit, then the clearing pass and the arbiter (R2, R5, R6, R13, R125). -/
def monitorFalls (x : Station) (s : State) : State :=
  if s.hot x then chainStart (clearingPass (bothCold x (setHot x false s))) else s

/-! ## The checker (R35 to R41) -/

/-- The checker reads its next word (R35). -/
def checkerReads (s : State) : State :=
  match s.store.check with
  | some k => s.setStore { s.store with check := some (k.read s.store.words) }
  | none => s

/-- The store after a completed check (R37 to R39, R42). -/
def Store.judged (v : Store) (k : Check) : Store :=
  let r := k.result v.words
  { v with state := if r.fault.isNone then .valid else .faulted, check := none, lastResult := some r, crc := r.computed.or v.crc,
           passed := r.fault.isNone, active := v.active || (r.fault.isSome && v.armed), joined := [] }

/-- A request that waited for the check is answered (R33, R138, R163). -/
def answerWaiting (p : Port) (s : State) : State :=
  match (s.port p).work with
  | some r => handOn p r s
  | none => s

/-- READ IMAGE requests that waited are answered (R33). -/
def answerRead (p : Port) (s : State) : State :=
  match (s.port p).work with
  | some (.readImage _ _) => answerWaiting p s
  | _ => s

/-- READ IMAGE of all three ports. -/
def answerReads (s : State) : State := answerRead .ps (answerRead .pb (answerRead .pa s))

/-- A joined run becomes READY and raises RUN-READY (R67). -/
def runReady (s : State) (x : Station) : State :=
  raise x.port srcRunReady (s.setBench x { s.bench x with run := .ready })

/-- What a passed check lets go on at station X: its channel's compensation, its engine, and a START INSULATION that waits (R41,
R51, R138). -/
def resumeStation (x : Station) (s : State) : State :=
  answerWaiting x.port (resumeRead x (tellChannel x (compensate x s)))

/-- The engine is held at a table read. -/
def EngineWait.isRead : EngineWait → Bool
  | .read _ => true
  | .nothing | .trunk | .channel | .hv | .energisation | .allOpen => false

/-- Station X has something that waits for the check. -/
def awaitsCheck (s : State) (x : Station) : Bool :=
  (s.bench x).wait.isRead || decide ((s.channel x).inHand.isSome ∧ (s.channel x).state ≠ .measuring) || (s.port x.port).work.isSome

/-- The effects of a passed check (R38, R67). -/
def checkPasses (joined : List Station) (kind : CheckKind) (s : State) : State :=
  let s1 := joined.foldl runReady (answerReads s)
  let s2 := if kind = .full then raise .ps srcLoadChecked s1 else s1
  eachStation (awaitsCheck s2 .a && awaitsCheck s2 .b) resumeStation s2

/-- What a failed check ends at station X: a compensation, its run, and a START INSULATION that waits (R58, R72, R138). -/
def failStation (x : Station) (s : State) : State := answerWaiting x.port (forcedEnd x (discardCompensation x s))

/-- The asks of a station whose run is ended are withdrawn before either run's source is given up (R121, log 25). -/
def withdrawAsks (x : Station) (s : State) : State := if runOpen s x then clearAsks x s else s

/-- The effects of a failed check (R39, R42, R72). -/
def checkFails (s : State) : State :=
  let s1 := raise .ps srcReferenceFault (answerReads s)
  let s2 := if s1.store.active then raiseAll (fun _ => srcAlarm) s1 else s1
  eachStation (runOpen s2 .a && runOpen s2 .b) failStation (withdrawAsks .b (withdrawAsks .a s2))

/-- A check that has read its last word ends (R38, R39). -/
def checkEnds (s : State) : State :=
  match s.store.check with
  | some k =>
    if s.store.state = .checking ∧ k.complete s.store.words = true then
      let s1 := s.setStore (s.store.judged k)
      if s1.store.state = .valid then checkPasses s.store.joined k.kind s1 else checkFails s1
    else s
  | none => s

/-! ## The source (R122 to R126) -/

/-- The energisation in a stage. -/
def atStage (s : State) (g : Stage) : Option Energisation := s.hv.energ.filter (fun e => decide (e.stage = g))

/-- The energisation goes on to a stage with a source state. -/
def enterStage (e : Energisation) (g : Stage) (v : SourceState) (s : State) : State :=
  s.setHv { s.hv with source := v, energ := some { e with stage := g } }

/-- The transfer switch has closed: RAMPING, with the output on and the discharge path driven off (R122, R123, log 18). -/
def switchCloses (s : State) : State :=
  match atStage s .connecting with
  | some e => enterStage e .ramping .ramping (s.setHv { s.hv with path := false })
  | none => s

/-- HVV reads the setpoint or more: DWELLING (R123). -/
def setpointReached (hvv : Nat) (s : State) : State :=
  match atStage s .ramping with
  | some e => if e.setpoint ≤ hvv then enterStage e .dwelling .dwelling s else s
  | none => s

/-- The dwell expires: SAMPLING (R123). -/
def dwellEnds (s : State) : State :=
  match atStage s .dwelling with
  | some e => enterStage e .sampling .sampling s
  | none => s

/-- The reading of the averages, rounded down to whole volts and nanoamperes (R123, R132). -/
def reading (milliVolts picoAmps : Nat) : EnergOutcome :=
  .sampled (milliVolts / 1000) (picoAmps / 1000) (insulationResistance (milliVolts / 1000) (picoAmps / 1000))

/-- SAMPLING ends: the reading is stored and the source enters DISCHARGING (R123, R125). -/
def sampleEnds (milliVolts picoAmps : Nat) (s : State) : State :=
  match atStage s .sampling with
  | some e => tellEngine (enterDischarge e (reading milliVolts picoAmps) s)
  | none => s

/-- The supervision ends the energisation with an ARC (R124). -/
def arcs (e : Energisation) (cause : ArcCause) (s : State) : State := tellEngine (enterDischarge e (.arc cause) s)

/-- HVI reads at or above the trip current in RAMPING or DWELLING (R124). -/
def tripCurrent (hvi : Nat) (s : State) : State :=
  match (atStage s .ramping).or (atStage s .dwelling) with
  | some e => if tripReached e hvi then arcs e .tripCurrent s else s
  | none => s

/-- HVV reads below 80 % of the setpoint in DWELLING (R124). -/
def sags (hvv : Nat) (s : State) : State :=
  match atStage s .dwelling with
  | some e => if sagReached e hvv then arcs e .sag s else s
  | none => s

/-- The ramp timeout falls in RAMPING (R124). -/
def rampTimesOut (s : State) : State :=
  match atStage s .ramping with
  | some e => arcs e .rampTimeout s
  | none => s

/-- A discharge has failed: the latch, FAULTED, HV-FAULT, the result FAULT, and the release pending (R126). -/
def dischargeFails (e : Energisation) (s : State) : State :=
  let s1 := s.setHv { s.hv with latch := some e.trunk, source := .faulted, energ := none, last := some (e.result .fault),
                                reserved := false, holdTimer := none, releasePending := true }
  tellEngine (raise .ps srcHvFault s1, some (e.trunk, e.result .fault))

/-- 2,000 ms of discharge are over with the trunk still hot (R126). -/
def dischargeTimesOut (s : State) : State :=
  match atStage s .discharging with
  | some e => if s.hot e.trunk then dischargeFails e s else s
  | none => s

/-- The hold timer expires: the holder is released (R120). The expiry is that of the timer that runs, also where it stands in the queue
behind a RESERVE HV that has started the timer afresh (log 52). -/
def holdExpires (s : State) : State := if s.hv.holdTimer.isSome then releaseHolder s else s

/-! ## Lids and E-STOP (R129, R130) -/

/-- A lid's state is taken. -/
def setLid (x : Station) (closed : Bool) (s : State) : State :=
  s.setHv { s.hv with lidClosed := s.hv.lidClosed.set x closed }

/-- The holder is to lose the source: no reservation, no hold timer, the release pending (R129, R130). -/
def loseSource (s : State) : State :=
  s.setHv { s.hv with reserved := false, holdTimer := none, releasePending := s.hv.holder.isSome }

/-- INTERLOCK for a lid that opens with the output on (R129). -/
def lidInterlock (x : Station) (s : State) : State := raise .ps srcInterlock (raise x.port srcInterlock s)

/-- LID-X opens while X holds (R129). -/
def holderLidOpens (x : Station) (s : State) : State :=
  releaseIfDue (interruptStep x .lid (loseSource (if s.hv.source.outputOn then lidInterlock x s else s)))

/-- LID-X opens (R129). -/
def lidOpens (x : Station) (s : State) : State :=
  if s.hv.lidClosed.get x then
    let s1 := setLid x false s
    if s.hv.holder = some x then holderLidOpens x s1 else s1
  else s

/-- LID-X closes: the arbiter looks for a station to grant (R117). -/
def lidCloses (x : Station) (s : State) : State :=
  if s.hv.lidClosed.get x then s else lookForGrant (setLid x true s)

/-- Both stations have a step in progress. -/
def bothStepping (s : State) : Bool := (s.bench .a).step.isSome && (s.bench .b).step.isSome

/-- E-STOP becomes active (R130). -/
def estopRises (s : State) : State :=
  if s.hv.estop then s
  else
    let s1 := raiseAll (fun _ => srcInterlock) (s.setHv { s.hv with estop := true })
    let s2 := loseSource (clearAsks .b (clearAsks .a s1))
    releaseIfDue (eachStation (bothStepping s2) (fun x => interruptStep x .estop) s2)

/-- E-STOP clears: the arbiter looks for a station to grant (R117). -/
def estopFalls (s : State) : State := if s.hv.estop then lookForGrant (s.setHv { s.hv with estop := false }) else s

end Sys2Proof.Machine
end

