-- ==== Sys2Proof/Machine/HvCommands.lean ====
section
/-! DEFINITION. The meanings of the commands of the high-voltage source (chapter 7). Each is one
definition of `exec`; while PORN or LINERST is asserted a request only ends its period, and no event acts (R161, log 4). -/

namespace Sys2Proof.Machine

/-- TRANSFER_SWITCH_CLOSED: the transfer switch has closed (R122). -/
def execTransferSwitchClosed (s : State) : Host.Outcome State Fault Refusal :=
  .next (whenRunning switchCloses s)

/-- HV_SETPOINT_REACHED: HVV reads `hvv` volts in RAMPING (R123). -/
def execHvSetpointReached (hvv : Nat) (s : State) : Host.Outcome State Fault Refusal :=
  .next (whenRunning (setpointReached hvv) s)

/-- DWELL_EXPIRY: the dwell expires (R123). -/
def execDwellExpiry (s : State) : Host.Outcome State Fault Refusal :=
  .next (whenRunning dwellEnds s)

/-- SAMPLE_END: the 2 ms of averaging end (R123, R132). -/
def execSampleEnd (milliVolts picoAmps : Nat) (s : State) : Host.Outcome State Fault Refusal :=
  .next (whenRunning (sampleEnds milliVolts picoAmps) s)

/-- HV_TRIP_CURRENT: HVI reads `hvi` nA (R124). -/
def execHvTripCurrent (hvi : Nat) (s : State) : Host.Outcome State Fault Refusal :=
  .next (whenRunning (tripCurrent hvi) s)

/-- HV_SAG: HVV reads `hvv` volts in DWELLING (R124). -/
def execHvSag (hvv : Nat) (s : State) : Host.Outcome State Fault Refusal :=
  .next (whenRunning (sags hvv) s)

/-- RAMP_TIMEOUT: the ramp timeout falls (R124). -/
def execRampTimeout (s : State) : Host.Outcome State Fault Refusal :=
  .next (whenRunning rampTimesOut s)

/-- DISCHARGE_TIMEOUT: 2,000 ms of discharge are over (R126). -/
def execDischargeTimeout (s : State) : Host.Outcome State Fault Refusal :=
  .next (whenRunning dischargeTimesOut s)

/-- SET_HV_PERMISSION from a port (R114, R131). -/
def execSetHvPermission (port : Port) (permission : Byte) (s : State) :
    Host.Outcome State Fault Refusal :=
  .next (atRise port (submit port (.setHvPermission permission)) s)

/-- SET_HV_LIMIT from a port (R115). -/
def execSetHvLimit (port : Port) (limit : Byte) (value : Word16) (s : State) :
    Host.Outcome State Fault Refusal :=
  .next (atRise port (submit port (.setHvLimit limit value)) s)

/-- CLEAR_HV_FAULT from a port (R127). -/
def execClearHvFault (port : Port) (s : State) :
    Host.Outcome State Fault Refusal :=
  .next (atRise port (submit port .clearHvFault) s)

/-- RESERVE_HV from a port (R118). -/
def execReserveHv (port : Port) (s : State) :
    Host.Outcome State Fault Refusal :=
  .next (atRise port (submit port .reserveHv) s)

/-- RELEASE_HV from a port (R121). -/
def execReleaseHv (port : Port) (s : State) :
    Host.Outcome State Fault Refusal :=
  .next (atRise port (submit port .releaseHv) s)

/-- READ_HV from a port (R134). -/
def execReadHv (port : Port) (s : State) :
    Host.Outcome State Fault Refusal :=
  .next (atRise port (submit port .readHv) s)

/-- HOLD_TIMER_EXPIRY: the hold timer expires (R120). -/
def execHoldTimerExpiry (s : State) : Host.Outcome State Fault Refusal :=
  .next (whenRunning holdExpires s)

/-- LID_OPEN: a lid opens (R129). -/
def execLidOpen (lid : Station) (s : State) : Host.Outcome State Fault Refusal :=
  .next (whenRunning (lidOpens lid) s)

/-- LID_CLOSE: a lid closes (R117). -/
def execLidClose (lid : Station) (s : State) : Host.Outcome State Fault Refusal :=
  .next (whenRunning (lidCloses lid) s)

/-- ESTOP_ACTIVE: E-STOP becomes active (R130). -/
def execEstopActive (s : State) : Host.Outcome State Fault Refusal :=
  .next (whenRunning estopRises s)

/-- ESTOP_CLEAR: E-STOP clears (R117). -/
def execEstopClear (s : State) : Host.Outcome State Fault Refusal :=
  .next (whenRunning estopFalls s)

end Sys2Proof.Machine
end

