-- ==== Sys2Proof/Machine/MatrixCommands.lean ====
section
/-! DEFINITION. The meanings of the commands of windows, the relay chain, the trunks and the monitors (chapter 1). Each is one
definition of `exec`; while PORN or LINERST is asserted a request only ends its period, and no event acts (R161, log 4). -/

namespace Sys2Proof.Machine

/-- SET_WINDOW from a port (R18, R19). -/
def execSetWindow (port : Port) (station base limit : Byte) (s : State) :
    Host.Outcome State Fault Refusal :=
  .next (atRise port (submit port (.setWindow station base limit)) s)

/-- LOCK_WINDOW from a port (R20). -/
def execLockWindow (port : Port) (station : Byte) (s : State) :
    Host.Outcome State Fault Refusal :=
  .next (atRise port (submit port (.lockWindow station)) s)

/-- SET_SETTLE_TIME from a port (R15). -/
def execSetSettleTime (port : Port) (trunk time : Byte) (s : State) :
    Host.Outcome State Fault Refusal :=
  .next (atRise port (submit port (.setSettleTime trunk time)) s)

/-- READ_MATRIX from a port (R21). -/
def execReadMatrix (port : Port) (s : State) :
    Host.Outcome State Fault Refusal :=
  .next (atRise port (submit port .readMatrix) s)

/-- READ_POINTS from a port (R22). -/
def execReadPoints (port : Port) (first : Word16) (count : Byte) (s : State) :
    Host.Outcome State Fault Refusal :=
  .next (atRise port (submit port (.readPoints first count)) s)

/-- CHAIN_LOAD_COMPLETE: a chain load completes (R3). -/
def execChainLoadComplete (s : State) : Host.Outcome State Fault Refusal :=
  .next (whenRunning chainLoadCompletes s)

/-- RELEASE_WAIT_EXPIRY: a trunk's release wait ends (R11). -/
def execReleaseWaitExpiry (trunk : Station) (s : State) : Host.Outcome State Fault Refusal :=
  .next (whenRunning (fun t => tellTrunk trunk (releaseWaitEnds trunk t)) s)

/-- HOUSEKEEPING_RELEASE_WAIT_EXPIRY: the release wait after a housekeeping load ends (R5, R6, R7). -/
def execHousekeepingReleaseWaitExpiry (pres : CardSet) (s : State) : Host.Outcome State Fault Refusal :=
  .next (whenRunning (housekeepingWaitEnds pres) s)

/-- SETTLE_TIME_EXPIRY: a trunk's settle time expires (R11). -/
def execSettleTimeExpiry (trunk : Station) (s : State) : Host.Outcome State Fault Refusal :=
  .next (whenRunning (fun t => tellTrunk trunk (settleTimeEnds trunk t)) s)

/-- MONITOR_RISE: a monitor rises to 30 V or more (R2, R13, R49). -/
def execMonitorRise (trunk : Station) (s : State) : Host.Outcome State Fault Refusal :=
  .next (whenRunning (monitorRises trunk) s)

/-- MONITOR_FALL: a monitor falls below 30 V (R2, R13, R125). -/
def execMonitorFall (trunk : Station) (s : State) : Host.Outcome State Fault Refusal :=
  .next (whenRunning (monitorFalls trunk) s)

end Sys2Proof.Machine
end

