-- ==== Sys2Proof/Machine/PortCommands.lean ====
section
/-! DEFINITION. The meanings of the commands of the frames of a port, the notices, and the resets (chapter 10). Each is one
definition of `exec`; while PORN or LINERST is asserted only the resets and the edges of chip select act (R161, R162, log 4). -/

namespace Sys2Proof.Machine

/-- POWER_ON_RESET: PORN is asserted (R6, R174). -/
def execPowerOnReset (build : BuildMax) (s : State) : Host.Outcome State Fault Refusal :=
  .next (if s.porn then s else powerOn build s)

/-- LINE_RESET: LINERST is asserted (R43, R174). -/
def execLineReset (build : BuildMax) (s : State) : Host.Outcome State Fault Refusal :=
  .next (if s.linerst then s else lineReset build s)

/-- REQUEST_FRAME: chip select rises after `bytes` were clocked in (R161). -/
def execRequestFrame (port : Port) (bytes : List Byte) (s : State) : Host.Outcome State Fault Refusal :=
  .next (atRise port (periodEnds port bytes) s)

/-- FETCH: chip select rises after a fetch period (R162). -/
def execFetch (port : Port) (s : State) : Host.Outcome State Fault Refusal :=
  .next (atRise port (fetchEnds port) s)

/-- TAKE_NOTICE from a port (R169). -/
def execTakeNotice (port : Port) (s : State) :
    Host.Outcome State Fault Refusal :=
  .next (atRise port (submit port .takeNotice) s)

/-- END_NOTICE from a port (R170). -/
def execEndNotice (port : Port) (s : State) :
    Host.Outcome State Fault Refusal :=
  .next (atRise port (submit port .endNotice) s)

/-- WRITE_PENDING from a port (R171). -/
def execWritePending (port : Port) (enable values : Word16) (s : State) :
    Host.Outcome State Fault Refusal :=
  .next (atRise port (submit port (.writePending enable values)) s)

/-- SET_NOTICE_LEVEL from a port (R167). -/
def execSetNoticeLevel (port : Port) (source level : Byte) (s : State) :
    Host.Outcome State Fault Refusal :=
  .next (atRise port (submit port (.setNoticeLevel source level)) s)

/-- SET_NOTICE_BASE from a port (R167). -/
def execSetNoticeBase (port : Port) (base : Byte) (s : State) :
    Host.Outcome State Fault Refusal :=
  .next (atRise port (submit port (.setNoticeBase base)) s)

/-- READ_NOTICES from a port (R167). -/
def execReadNotices (port : Port) (s : State) :
    Host.Outcome State Fault Refusal :=
  .next (atRise port (submit port .readNotices) s)

/-- CALL_STATION from a port (R171). -/
def execCallStation (port : Port) (station : Byte) (s : State) :
    Host.Outcome State Fault Refusal :=
  .next (atRise port (submit port (.callStation station)) s)

/-- RESET_DEVICE from a port (R164, R173). -/
def execResetDevice (port : Port) (s : State) :
    Host.Outcome State Fault Refusal :=
  .next (atRise port (submit port .resetDevice) s)

/-- READ_CAUSE from a port (R174). -/
def execReadCause (port : Port) (s : State) :
    Host.Outcome State Fault Refusal :=
  .next (atRise port (submit port .readCause) s)

/-- CHIP_SELECT_FALL: chip select falls, and the frame of this period is fixed, also inside a reset (R162). -/
def execChipSelectFall (port : Port) (s : State) : Host.Outcome State Fault Refusal :=
  .next (selectFalls port s)

/-- RESET_END: PORN or LINERST is released, and the part finds the levels of its inputs (R2, R43, R113). -/
def execResetEnd (line : ResetLine) (inputs : Inputs) (s : State) : Host.Outcome State Fault Refusal :=
  .next (if lineAsserted line s then endReset line inputs s else s)

end Sys2Proof.Machine
end

