-- ==== Sys2Proof/Machine/ReferenceCommands.lean ====
section
/-! DEFINITION. The meanings of the commands of the reference store and its checker (chapter 2). Each is one
definition of `exec`; while PORN or LINERST is asserted a request only ends its period, and no event acts (R161, log 4). -/

namespace Sys2Proof.Machine

/-- BEGIN_LOAD from a port (R29). -/
def execBeginLoad (port : Port) (s : State) :
    Host.Outcome State Fault Refusal :=
  .next (atRise port (submit port .beginLoad) s)

/-- WRITE_IMAGE from a port (R30). -/
def execWriteImage (port : Port) (start : Word16) (words : List Word16) (s : State) :
    Host.Outcome State Fault Refusal :=
  .next (atRise port (submit port (.writeImage start words)) s)

/-- COMMIT_IMAGE from a port (R31). -/
def execCommitImage (port : Port) (s : State) :
    Host.Outcome State Fault Refusal :=
  .next (atRise port (submit port .commitImage) s)

/-- ABANDON_LOAD from a port (R32). -/
def execAbandonLoad (port : Port) (s : State) :
    Host.Outcome State Fault Refusal :=
  .next (atRise port (submit port .abandonLoad) s)

/-- ARM_ALARM from a port (R42). -/
def execArmAlarm (port : Port) (s : State) :
    Host.Outcome State Fault Refusal :=
  .next (atRise port (submit port .armAlarm) s)

/-- READ_IMAGE from a port (R33). -/
def execReadImage (port : Port) (start : Word16) (count : Byte) (s : State) :
    Host.Outcome State Fault Refusal :=
  .next (atRise port (submit port (.readImage start count)) s)

/-- REFERENCE_STATUS from a port (R34). -/
def execReferenceStatus (port : Port) (s : State) :
    Host.Outcome State Fault Refusal :=
  .next (atRise port (submit port .referenceStatus) s)

/-- CHECKER_WORD_READ: the checker reads its next word (R35). -/
def execCheckerWordRead (s : State) : Host.Outcome State Fault Refusal :=
  .next (whenRunning checkerReads s)

/-- CHECK_END: a completed check ends (R38, R39). -/
def execCheckEnd (s : State) : Host.Outcome State Fault Refusal :=
  .next (whenRunning checkEnds s)

end Sys2Proof.Machine
end

