-- ==== Sys2Proof/Machine/RunCommands.lean ====
section
/-! DEFINITION. The meanings of the commands of channels, runs, sweeps and insulation steps (chapters 3 to 6 and 8). Each is one
definition of `exec`; while PORN or LINERST is asserted a request only ends its period, and no event acts (R161, log 4). -/

namespace Sys2Proof.Machine

/-- READ_CHANNEL from a port (R60). -/
def execReadChannel (port : Port) (channel : Byte) (s : State) :
    Host.Outcome State Fault Refusal :=
  .next (atRise port (submit port (.readChannel channel)) s)

/-- APERTURE_END: an aperture ends with a code (R46). -/
def execApertureEnd (channel : Station) (code : Word16) (s : State) : Host.Outcome State Fault Refusal :=
  .next (whenRunning (fun t => tellChannel channel (endAperture channel code t)) s)

/-- OPEN_RUN from a port (R64 to R66). -/
def execOpenRun (port : Port) (s : State) :
    Host.Outcome State Fault Refusal :=
  .next (atRise port (submit port .openRun) s)

/-- CLOSE_RUN from a port (R69 to R71). -/
def execCloseRun (port : Port) (s : State) :
    Host.Outcome State Fault Refusal :=
  .next (atRise port (submit port .closeRun) s)

/-- ABORT from a port (R73, R74). -/
def execAbort (port : Port) (s : State) :
    Host.Outcome State Fault Refusal :=
  .next (atRise port (submit port .abort) s)

/-- STATION_RESET from a port (R78, R164). -/
def execStationReset (port : Port) (s : State) :
    Host.Outcome State Fault Refusal :=
  .next (atRise port (submit port .stationReset) s)

/-- SET_SERIAL from a port (R76). -/
def execSetSerial (port : Port) (station : Byte) (value : BitVec 32) (s : State) :
    Host.Outcome State Fault Refusal :=
  .next (atRise port (submit port (.setSerial station value)) s)

/-- CLEAR_COUNTERS from a port (R77). -/
def execClearCounters (port : Port) (station : Byte) (s : State) :
    Host.Outcome State Fault Refusal :=
  .next (atRise port (submit port (.clearCounters station)) s)

/-- READ_COUNTERS from a port (R77). -/
def execReadCounters (port : Port) (station : Byte) (s : State) :
    Host.Outcome State Fault Refusal :=
  .next (atRise port (submit port (.readCounters station)) s)

/-- READ_STATUS from a port (R80, R94, R110, R146). -/
def execReadStatus (port : Port) (station : Byte) (s : State) :
    Host.Outcome State Fault Refusal :=
  .next (atRise port (submit port (.readStatus station)) s)

/-- START_CONTINUITY from a port (R82). -/
def execStartContinuity (port : Port) (scope limit : Byte) (s : State) :
    Host.Outcome State Fault Refusal :=
  .next (atRise port (submit port (.startContinuity scope limit)) s)

/-- START_INSULATION from a port (R136 to R138). -/
def execStartInsulation (port : Port) (kind : Byte) (selection voltage dwell threshold : Word16) (locate : Byte) (s : State) :
    Host.Outcome State Fault Refusal :=
  .next (atRise port (submit port (.startInsulation kind selection voltage dwell threshold locate)) s)

end Sys2Proof.Machine
end

