-- ==== Sys2Proof/Machine/TicketCommands.lean ====
section
/-! DEFINITION. The meanings of the commands of banks, tickets and the printer link (chapter 9). Each is one
definition of `exec`; while PORN or LINERST is asserted a request only ends its period, and no event acts (R161, log 4). -/

namespace Sys2Proof.Machine

/-- SET_TICKET_POLICY from a port (R151). -/
def execSetTicketPolicy (port : Port) (station policy : Byte) (s : State) :
    Host.Outcome State Fault Refusal :=
  .next (atRise port (submit port (.setTicketPolicy station policy)) s)

/-- CANCEL_TICKET from a port (R158). -/
def execCancelTicket (port : Port) (station bank : Byte) (s : State) :
    Host.Outcome State Fault Refusal :=
  .next (atRise port (submit port (.cancelTicket station bank)) s)

/-- READ_DEFECTS from a port (R150). -/
def execReadDefects (port : Port) (station bank start : Byte) (s : State) :
    Host.Outcome State Fault Refusal :=
  .next (atRise port (submit port (.readDefects station bank start)) s)

/-- READ_PRINTER from a port (R160). -/
def execReadPrinter (port : Port) (s : State) :
    Host.Outcome State Fault Refusal :=
  .next (atRise port (submit port .readPrinter) s)

/-- BUSY_FALL: BUSY falls (R154, R155). -/
def execBusyFall (s : State) : Host.Outcome State Fault Refusal :=
  .next (whenRunning (fun t => if t.printer.busy then busyFalls t else t) s)

/-- BUSY_RISE: BUSY rises (R154). -/
def execBusyRise (s : State) : Host.Outcome State Fault Refusal :=
  .next (whenRunning (fun t => if t.printer.busy then t else busyRises t) s)

/-- ACKNOWLEDGE_TIMER_EXPIRY: the acknowledge timer expires (R155). -/
def execAcknowledgeTimerExpiry (s : State) : Host.Outcome State Fault Refusal :=
  .next (whenRunning acknowledgeExpires s)

/-- FAULT_RISE: FAULT rises (R156). -/
def execFaultRise (s : State) : Host.Outcome State Fault Refusal :=
  .next (whenRunning (fun t => if t.printer.fault then t else faultRises t) s)

/-- FAULT_FALL: FAULT falls (R156). -/
def execFaultFall (s : State) : Host.Outcome State Fault Refusal :=
  .next (whenRunning (fun t => if t.printer.fault then faultFalls t else t) s)

end Sys2Proof.Machine
end

