-- ==== Sys2Proof/Machine/Dispatch.lean ====
section
/-! DEFINITION. The dispatch: one arm for each command of the table, one direct call of its meaning. -/

namespace Sys2Proof.Machine

def exec (i : Instr) (s : State) : Host.Outcome State Fault Refusal :=
  match i with
  | .powerOnReset build => Sys2Proof.Machine.execPowerOnReset build s
  | .lineReset build => Sys2Proof.Machine.execLineReset build s
  | .requestFrame port bytes => Sys2Proof.Machine.execRequestFrame port bytes s
  | .fetch port => Sys2Proof.Machine.execFetch port s
  | .takeNotice port => Sys2Proof.Machine.execTakeNotice port s
  | .endNotice port => Sys2Proof.Machine.execEndNotice port s
  | .writePending port enable values => Sys2Proof.Machine.execWritePending port enable values s
  | .setNoticeLevel port source level => Sys2Proof.Machine.execSetNoticeLevel port source level s
  | .setNoticeBase port base => Sys2Proof.Machine.execSetNoticeBase port base s
  | .readNotices port => Sys2Proof.Machine.execReadNotices port s
  | .callStation port station => Sys2Proof.Machine.execCallStation port station s
  | .resetDevice port => Sys2Proof.Machine.execResetDevice port s
  | .readCause port => Sys2Proof.Machine.execReadCause port s
  | .setWindow port station base limit => Sys2Proof.Machine.execSetWindow port station base limit s
  | .lockWindow port station => Sys2Proof.Machine.execLockWindow port station s
  | .setSettleTime port trunk time => Sys2Proof.Machine.execSetSettleTime port trunk time s
  | .readMatrix port => Sys2Proof.Machine.execReadMatrix port s
  | .readPoints port first count => Sys2Proof.Machine.execReadPoints port first count s
  | .chainLoadComplete => Sys2Proof.Machine.execChainLoadComplete s
  | .releaseWaitExpiry trunk => Sys2Proof.Machine.execReleaseWaitExpiry trunk s
  | .housekeepingReleaseWaitExpiry pres => Sys2Proof.Machine.execHousekeepingReleaseWaitExpiry pres s
  | .settleTimeExpiry trunk => Sys2Proof.Machine.execSettleTimeExpiry trunk s
  | .monitorRise trunk => Sys2Proof.Machine.execMonitorRise trunk s
  | .monitorFall trunk => Sys2Proof.Machine.execMonitorFall trunk s
  | .beginLoad port => Sys2Proof.Machine.execBeginLoad port s
  | .writeImage port start words => Sys2Proof.Machine.execWriteImage port start words s
  | .commitImage port => Sys2Proof.Machine.execCommitImage port s
  | .abandonLoad port => Sys2Proof.Machine.execAbandonLoad port s
  | .armAlarm port => Sys2Proof.Machine.execArmAlarm port s
  | .readImage port start count => Sys2Proof.Machine.execReadImage port start count s
  | .referenceStatus port => Sys2Proof.Machine.execReferenceStatus port s
  | .checkerWordRead => Sys2Proof.Machine.execCheckerWordRead s
  | .checkEnd => Sys2Proof.Machine.execCheckEnd s
  | .readChannel port channel => Sys2Proof.Machine.execReadChannel port channel s
  | .apertureEnd channel code => Sys2Proof.Machine.execApertureEnd channel code s
  | .openRun port => Sys2Proof.Machine.execOpenRun port s
  | .closeRun port => Sys2Proof.Machine.execCloseRun port s
  | .abort port => Sys2Proof.Machine.execAbort port s
  | .stationReset port => Sys2Proof.Machine.execStationReset port s
  | .setSerial port station value => Sys2Proof.Machine.execSetSerial port station value s
  | .clearCounters port station => Sys2Proof.Machine.execClearCounters port station s
  | .readCounters port station => Sys2Proof.Machine.execReadCounters port station s
  | .readStatus port station => Sys2Proof.Machine.execReadStatus port station s
  | .startContinuity port scope limit => Sys2Proof.Machine.execStartContinuity port scope limit s
  | .startInsulation port kind selection voltage dwell threshold locate => Sys2Proof.Machine.execStartInsulation port kind selection voltage dwell threshold locate s
  | .transferSwitchClosed => Sys2Proof.Machine.execTransferSwitchClosed s
  | .hvSetpointReached hvv => Sys2Proof.Machine.execHvSetpointReached hvv s
  | .dwellExpiry => Sys2Proof.Machine.execDwellExpiry s
  | .sampleEnd milliVolts picoAmps => Sys2Proof.Machine.execSampleEnd milliVolts picoAmps s
  | .hvTripCurrent hvi => Sys2Proof.Machine.execHvTripCurrent hvi s
  | .hvSag hvv => Sys2Proof.Machine.execHvSag hvv s
  | .rampTimeout => Sys2Proof.Machine.execRampTimeout s
  | .dischargeTimeout => Sys2Proof.Machine.execDischargeTimeout s
  | .setHvPermission port permission => Sys2Proof.Machine.execSetHvPermission port permission s
  | .setHvLimit port limit value => Sys2Proof.Machine.execSetHvLimit port limit value s
  | .clearHvFault port => Sys2Proof.Machine.execClearHvFault port s
  | .reserveHv port => Sys2Proof.Machine.execReserveHv port s
  | .releaseHv port => Sys2Proof.Machine.execReleaseHv port s
  | .readHv port => Sys2Proof.Machine.execReadHv port s
  | .holdTimerExpiry => Sys2Proof.Machine.execHoldTimerExpiry s
  | .lidOpen lid => Sys2Proof.Machine.execLidOpen lid s
  | .lidClose lid => Sys2Proof.Machine.execLidClose lid s
  | .estopActive => Sys2Proof.Machine.execEstopActive s
  | .estopClear => Sys2Proof.Machine.execEstopClear s
  | .setTicketPolicy port station policy => Sys2Proof.Machine.execSetTicketPolicy port station policy s
  | .cancelTicket port station bank => Sys2Proof.Machine.execCancelTicket port station bank s
  | .readDefects port station bank start => Sys2Proof.Machine.execReadDefects port station bank start s
  | .readPrinter port => Sys2Proof.Machine.execReadPrinter port s
  | .busyFall => Sys2Proof.Machine.execBusyFall s
  | .busyRise => Sys2Proof.Machine.execBusyRise s
  | .acknowledgeTimerExpiry => Sys2Proof.Machine.execAcknowledgeTimerExpiry s
  | .faultRise => Sys2Proof.Machine.execFaultRise s
  | .faultFall => Sys2Proof.Machine.execFaultFall s
  | .chipSelectFall port => Sys2Proof.Machine.execChipSelectFall port s
  | .resetEnd line inputs => Sys2Proof.Machine.execResetEnd line inputs s

end Sys2Proof.Machine
end

