-- ==== Sys2Proof/Safety.lean ====
section
/-! DEFINITION. What counts as a safe state: the invariants of the part, and the terms the statements use. -/

namespace Sys2Proof.Machine

/-! ## Terms -/

/-- The part runs: neither PORN nor LINERST is asserted. -/
abbrev Running (s : State) : Prop := s.inReset = false

/-- Port p can take a request: the part runs and both slots are empty (R161). -/
abbrev Ready (s : State) (p : Port) : Prop := s.inReset = false ∧ (s.port p).work = none ∧ (s.port p).response = none

/-- The state with a response in the response slot of port p, as a request frame that is answered at once leaves it: the request
slot is empty, DROPPED stands, and the period has ended (R161 to R163). -/
def answered (p : Port) (echo : Byte) (status : Status) (clamped more : Bool) (payload : Payload) (t : State) : State :=
  t.setPort p { work := none, dropped := (t.port p).dropped, shifting := none, lastFrame := some (t.port p).frameOut.frame,
                response := some { status := status, echo := echo, clamped := clamped, more := more, payload := payload } }

/-- A plain answer: no flags, no payload. -/
def plainly (p : Port) (echo : Byte) (status : Status) (t : State) : State := answered p echo status false false .empty t

/-- A request left in the request slot of port p to wait for its block (R163). -/
def leftWaiting (p : Port) (r : Request) (t : State) : State :=
  t.setPort p { t.port p with work := some r, shifting := none, lastFrame := some (t.port p).frameOut.frame }

/-- The byte of a station name. -/
def stationByte : Station → Byte
  | .a => 0
  | .b => 1

/-- The byte of a bank name. -/
def bankByte : BankNo → Byte
  | .zero => 0
  | .one => 1

/-- The state with the chip-select period of port p ended and nothing else changed, as a discarded frame leaves it (R161, R162). -/
def periodOver (p : Port) (dropped : Bool) (s : State) : State :=
  s.setPort p { s.port p with dropped := dropped, shifting := none, lastFrame := some (s.port p).frameOut.frame }

/-- A source number that has a name on a port (R165). -/
def sourceNamed (p : Port) (n : Nat) : Bool :=
  decide (n < (if p = .ps then 6 else 9)) || decide (n = 14) || decide (n = 15)

/-- Source n is pending on port p, where its level lets a raising become pending (R166). -/
def Notified (s t : State) (p : Port) (n : Nat) : Prop :=
  sourceLevel (s.unit p) n ≠ .off → (t.unit p).pending.getLsbD n = true

/-! ## Terms of the chain -/

/-- Physical point p lies on a card of the window (R17). -/
abbrev OnCards (w : Window) (p : Nat) : Prop := 32 * w.base ≤ p ∧ p < 32 * (w.limit + 1)

/-- Between s and t trunk X asks for a load with these positions for its cards. On a free chain where nothing else waits that may start it
starts at once, with its contents fixed and the trunk last served; behind a load in progress it waits in its slot (R3, R4). -/
abbrev LoadRequested (s t : State) (x : Station) (r : Relays) : Prop :=
  (s.matrix.load = none → (∀ k, s.matrix.hk = some k → s.matrix.mayStart k = false) → s.matrix.slots.get x.other = none →
    t.matrix.load = some (s.matrix.trunkLoad x r) ∧ t.matrix.slots.get x = none ∧ t.matrix.lastServed = x) ∧
  ∀ l, s.matrix.load = some l →
    t.matrix.load = some l ∧ t.matrix.slots.get x = some r ∧ t.matrix.lastServed = s.matrix.lastServed

/-- Between s and t trunk X takes up configuration c, with this one waiting behind it: it is GUARDED while hot; else it asks for the
opening image and is OPENING, or for the target and is CLOSING, or it needs no load and is SETTLING (R10). -/
abbrev TakesUp (s t : State) (x : Station) (c : Configuration) (behind : Option Configuration) : Prop :=
  ∀ g, g = targetOf (s.window x) c → ∀ now, now = trunkRelays s x → ∀ k, k = { s.trunk x with
      config := some c, waiting := behind, target := g, part := .load, settleTimer := none } →
    (s.hot x = true → t.trunk x = { k with state := .guarded }) ∧
    (s.hot x = false →
      (now.opensSome g = true → t.trunk x = { k with state := .opening } ∧ LoadRequested s t x (now.opened g)) ∧
      (now.opensSome g = false → now.closesSome g = true →
        t.trunk x = { k with state := .closing } ∧ LoadRequested s t x g) ∧
      (now.opensSome g = false → now.closesSome g = false → c ≠ .empty →
        t.trunk x = { k with state := .settling, settleTimer := some (s.trunk x).settleTime }))

/-- The empty configuration is complete at once on trunk X: the trunk is cold and every relay of its cards is open (R10). -/
abbrev DoneAtOnce (s : State) (x : Station) (c : Configuration) : Prop :=
  c = .empty ∧ s.hot x = false ∧ (trunkRelays s x).opensSome (targetOf (s.window x) c) = false ∧
  (trunkRelays s x).closesSome (targetOf (s.window x) c) = false

/-- Between s and t a housekeeping request of this kind is placed: on a free chain it starts at once, with these contents, where it may
start, and else waits in its slot, as it does behind a load in progress (R4, R5). -/
abbrev HousekeepingPlaced (s t : State) (k : Housekeeping) (contents : RelayImage) : Prop :=
  (s.matrix.load = none → t.matrix.mayStart k = true →
    t.matrix.load = some { requester := .housekeeping k, contents := contents } ∧ t.matrix.hk = none) ∧
  (s.matrix.load = none → t.matrix.mayStart k = false → s.matrix.slots = ⟨none, none⟩ →
    t.matrix.load = none ∧ t.matrix.hk = some k) ∧
  ∀ l, s.matrix.load = some l → t.matrix.load = some l ∧ t.matrix.hk = some k

/-- The chain serves what waits, from matrix m with the chain free, and t holds what it has become: a housekeeping request that may start
comes first; else the only trunk that waits, and of two the one not last served; one that may not start stays in its slot (R4, R5). -/
abbrev ChainServes (m : Matrix) (t : Matrix) : Prop :=
  (∀ k, m.hk = some k → m.mayStart k = true →
    t.load = some (m.housekeepingLoad k) ∧ t.hk = none ∧ t.slots = m.slots ∧ t.lastServed = m.lastServed) ∧
  ((∀ k, m.hk = some k → m.mayStart k = false) →
    t.hk = m.hk ∧
    (m.slots = ⟨none, none⟩ → t.load = none ∧ t.slots = m.slots ∧ t.lastServed = m.lastServed) ∧
    ∀ y r, m.slots.get y = some r → m.slots.get y.other = none ∨ m.lastServed ≠ y →
      t.load = some (m.trunkLoad y r) ∧ t.slots = m.slots.set y none ∧ t.lastServed = y)

/-! ## Terms of the resets -/

/-- What a power-on and a line reset leave alike: attention units, HV unit, runs and banks, matrix, windows and trunks, channels and print
queue (R4, R6, R15 to R17, R44, R79, R113, R115, R151, R166). -/
abbrev ResetValues (t : State) (b : BuildMax) : Prop :=
  (∀ p, (t.unit p).pending = 0 ∧ (t.unit p).levels.toList = List.replicate 9 .off ∧ (t.unit p).stack = [] ∧ (t.unit p).base = 0) ∧
  t.hv.limits = { cap := if b = .v1000 then 1000 else 1500, ramp := 2, trip := 1000, hold := 1000, string := 8 } ∧
  t.hv.permission = .barred ∧ t.hv.build = b ∧ t.hv.holder = none ∧ t.hv.releasePending = false ∧ t.hv.reserved = false ∧
  t.hv.stepAsk = ⟨false, false⟩ ∧ t.hv.reserveAsk = ⟨false, false⟩ ∧ t.hv.line = [] ∧ t.hv.string = 0 ∧ t.hv.holdTimer = none ∧
  t.hv.holderStep = false ∧ t.hv.source = .off ∧ t.hv.energ = none ∧ t.hv.sw = .off ∧ t.hv.latch = none ∧ t.hv.last = none ∧
  (∀ x, (t.bench x).run = .noRun ∧ (t.bench x).record = none ∧ (t.bench x).summary = none ∧ (t.bench x).lastBank = .one ∧
    (t.bench x).policy = .nonPass ∧ (t.bench x).sweep = none ∧ (t.bench x).step = none ∧ (t.bench x).queued = none ∧
    ∀ k, (t.bench x).banks.get k = { state := .free, records := [], unlisted := 0 }) ∧
  t.matrix.state = .unknown ∧ t.matrix.image = none ∧ t.matrix.selTable = { a := 0, b := 0 } ∧ t.matrix.presence = 0 ∧
  t.matrix.load = none ∧ t.matrix.slots = ⟨none, none⟩ ∧ t.matrix.hk = none ∧ t.matrix.lastServed = .b ∧
  (∀ x, t.window x = { base := 63, limit := 0, lock := false } ∧ (t.trunk x).state = .idle ∧ (t.trunk x).config = none ∧
    (t.trunk x).waiting = none ∧ (t.trunk x).settleTimer = none ∧ (t.trunk x).settleTime = 3) ∧
  (∀ x, (t.channel x).state = .idle ∧ (t.channel x).inHand = none ∧ (t.channel x).isoPending = false ∧
    (t.channel x).lastResult = none) ∧
  t.printer.queue = []

/-! ## Terms of the runs -/

/-- Some relay of trunk X's cards is closed, so that the empty configuration needs a load (R10). -/
abbrev Closed (s : State) (x : Station) : Prop := (trunkRelays s x).opensSome .allOpen = true

/-- A station after defects are recorded one after another in its run (R88, R105, R142, R149). -/
def Bench.recorded (b : Bench) (short : Bool) : List Defect → Bench
  | [] => b
  | d :: rest =>
    match b.record with
    | some r => (b.record1 r short d).recorded short rest
    | none => b

/-- Between s and t exactly these defects are recorded in the run of station X: run record and banks follow, and DEFECT is raised. With
no defect, run record and banks are unchanged. -/
abbrev Recorded (s t : State) (x : Station) (short : Bool) (ds : List Defect) : Prop :=
  (t.bench x).record = ((s.bench x).recorded short ds).record ∧ (t.bench x).banks = ((s.bench x).recorded short ds).banks ∧
  (ds ≠ [] → Notified s t x.port srcDefect)

/-- The sweep of a station has ended with a continuity status: what was held is gone, and the engine waits for the empty configuration
(R68, R73, R92, R109). -/
abbrev SweepEnded (b : Bench) (r : RunRecord) (c : Continuity) : Prop :=
  b.run = .continuity ∧ b.record = some { r with continuity := c, abortPending := false } ∧ b.locator = [] ∧ b.handed = .empty ∧
  b.wait = .allOpen ∧ b.sweep.map (fun w => (w.held, w.retest)) = some ([], false)

/-- From sweep record w to v this many more pair measurements, range tests and confirms are counted (R81, R97, R98, R104). -/
abbrev MeasurementsCounted (w v : Sweep) (pairs groups confirms : Nat) : Prop :=
  v.pairs = w.pairs + pairs ∧ v.groupDriver = w.groupDriver + groups ∧ v.groupSweep = w.groupSweep + groups ∧
  v.confirms = w.confirms + confirms

/-- The sweep of station X waits for its channel, whose aperture runs with no isolation pending. -/
abbrev SweepWaits (s : State) (x : Station) (w : Sweep) (r : RunRecord) : Prop :=
  s.inReset = false ∧ (s.bench x).run = .continuity ∧ (s.bench x).wait = .channel ∧ (s.bench x).sweep = some w ∧
  (s.bench x).record = some r ∧ (s.channel x).state = .measuring ∧ (s.channel x).isoPending = false

/-- The result that the end of an aperture with a code hands to the engine at once; none where a pair measurement steps down or its
offsets wait behind a check (R50 to R53). -/
def apertureResult (s : State) (x : Station) (code : Word16) : Option MeasResult :=
  match (s.channel x).inHand with
  | some (.pair p q _) =>
    if 60000 ≤ code.toNat ∧ (s.channel x).range < 3 then none
    else if 65520 ≤ code.toNat then some .openWire
    else if s.store.state = .checking then none
    else
      some (.pairValue
        (rawResistance code.toNat (s.channel x).range - offsetOf s.store.words p - offsetOf s.store.words q) (s.channel x).range)
  | some (.group t) => some (groupResult code.toNat t)
  | none => none

/-- The aperture of channel MX that ends with a code ends its measurement with a result: the channel is IDLE with code, raw value and
result stored and its current off, and the result is handed to the engine (R45, R46, R52, R53, R61). -/
abbrev MeasureEnds (s : State) (x : Station) (code : Word16) (raw : Nat) (v : MeasResult) : Prop :=
  ∃ t, exec (.apertureEnd x code) s = .next t ∧
    t.channel x = { s.channel x with state := .idle, lastCode := some code, lastRaw := some raw, inHand := none, lastResult := some v } ∧
    (t.channel x).current = none ∧ t = onMeasured x v (s.setChannel x (t.channel x))

/-- What the engine of station X waits for once driver d is to be tested against candidates from `first` on: its trunk, or behind a
check the member entries of the nets that the configuration names (R41, R98). -/
def locatorWait (s : State) (w : Sweep) (d first : Nat) : EngineWait :=
  if s.store.state = .checking ∧ (d < w.nets ∨ first < w.nets) then .read .locator else .trunk

/-- A configuration handed to trunk X is the one in work or waits; the empty one may be complete already. -/
abbrev TrunkHas (t : State) (x : Station) (c : Configuration) : Prop :=
  c = .empty ∨ (t.trunk x).config = some c ∨ (t.trunk x).waiting = some c

/-- Between s and t the engine of station X, where no table read holds it, has handed its trunk the configuration that tests driver d
against candidates first to last: every point of the driver on DRIVE, every point of each candidate on RETURN; the driver's first point
is kept (R98). -/
abbrev RangeHanded (s t : State) (x : Station) (w : Sweep) (d first last : Nat) : Prop :=
  locatorWait s w d first = .trunk →
    ∀ c : Configuration,
      c = { drive := driverPoints s.store.words (driverAt w.nets w.unused d),
            ret := driversPoints s.store.words
              ((List.range (last + 1 - first)).map (fun i => driverAt w.nets w.unused (first + i))) } →
      (t.bench x).handed = c ∧ TrunkHas t x c ∧
      (t.bench x).sweep.map (·.driverFirst) = some (firstPoint s.store.words (driverAt w.nets w.unused d))

/-- Between s and t the engine of station X, where no table read holds it, has handed its trunk the configuration of a confirm of
candidate k: the driver's first point on DRIVE, the candidate's on RETURN, and these two the points of the measurement to come (R104). -/
abbrev ConfirmHanded (s t : State) (x : Station) (w : Sweep) (k : Nat) : Prop :=
  locatorWait s w w.driver k = .trunk →
    ∀ p, p = firstPoint s.store.words (driverAt w.nets w.unused w.driver) →
    ∀ q, q = firstPoint s.store.words (driverAt w.nets w.unused k) →
    ∀ c : Configuration, c = { drive := pointSet p, ret := pointSet q } →
      (t.bench x).handed = c ∧ TrunkHas t x c ∧
      (t.bench x).sweep.map (fun u => (u.driverFirst, u.pairA, u.pairB)) = some (p, p, q)

/-- Driver or candidate d of a sweep as the subject of a defect: a net with the point given, or an unused point (R96, R105). -/
def Sweep.subject (w : Sweep) (d point : Nat) : Subject :=
  if d < w.nets then { net := some d, point := point } else { net := none, point := w.unused.getD (d - w.nets) 0 }

/-- Between s and t the lower half of an entry is done with: its upper half is tested next (R103). -/
abbrev UpperNext (s t : State) (x : Station) (w : Sweep) (f : Entry) (rest : List Entry) : Prop :=
  (t.bench x).locator =
    { first := f.first + (f.last + 2 - f.first) / 2, last := f.last, state := .toMeasure, value := none, halfFailed := false } ::
      { f with state := .upper } :: rest ∧
  (t.bench x).wait = locatorWait s w w.driver (f.first + (f.last + 2 - f.first) / 2) ∧
  RangeHanded s t x w w.driver (f.first + (f.last + 2 - f.first) / 2) f.last

/-- Between s and t driver d of a sweep is done, with these defects recorded: driver d + 1 is tested against all its candidates, or with
no candidate left the phase ends DONE (R97, R98, R109). -/
abbrev DriverDone (s t : State) (x : Station) (w : Sweep) (ds : List Defect) : Prop :=
  (w.driver + 2 < w.nets + (w.span - w.members) →
    Recorded s t x true ds ∧
    (t.bench x).locator =
      [{ first := w.driver + 2, last := w.nets + (w.span - w.members) - 1, state := .toMeasure, value := none, halfFailed := false }] ∧
    (t.bench x).sweep.map (fun v => (v.driver, v.candidates, v.groupDriver)) =
      some (w.driver + 1, w.nets + (w.span - w.members) - 2 - w.driver, 0) ∧
    (t.bench x).wait = locatorWait s w (w.driver + 1) (w.driver + 2) ∧
    RangeHanded s t x w (w.driver + 1) (w.driver + 2) (w.nets + (w.span - w.members) - 1)) ∧
  (w.nets + (w.span - w.members) ≤ w.driver + 2 → Closed s x →
    (∀ r, ((s.bench x).recorded true ds).record = some r → SweepEnded (t.bench x) r .done) ∧
    (t.bench x).banks = ((s.bench x).recorded true ds).banks ∧ (ds ≠ [] → Notified s t x.port srcDefect))

/-- Between s and t the connection phase of a sweep has ended, with these defects recorded last. A sweep of scope CONNECTION-ONLY ends with
its continuity NOT-DONE (R93). One of scope FULL goes on in the isolation phase: span, member count, short threshold and unused points are
read, the counts begin at 0, and driver 0 is tested against all its candidates (R93, R97, R98); with one driver the phase is DONE at once
(R97, R109). -/
abbrev PhaseEnds (s t : State) (x : Station) (w : Sweep) (ds : List Defect) : Prop :=
  (w.scope = .connectionOnly → Closed s x →
    (∀ r, ((s.bench x).recorded false ds).record = some r → SweepEnded (t.bench x) r .notDone) ∧
    (t.bench x).banks = ((s.bench x).recorded false ds).banks ∧ (ds ≠ [] → Notified s t x.port srcDefect)) ∧
  (w.scope = .full →
    ∀ span, span = hdrSpan s.store.words → ∀ members, members = hdrMembers s.store.words → ∀ n, n = w.nets + (span - members) →
    ∀ v, v = { w with unused := unusedPoints s.store.words span members } →
    (2 ≤ n →
      Recorded s t x false ds ∧ (ds = [] → t.attention = s.attention) ∧ (t.bench x).run = .continuity ∧
      (t.bench x).sweep.map (fun u => (u.phase, u.span, u.members, u.short, u.unused)) =
        some (.isolation, span, members, hdrShort s.store.words, v.unused) ∧
      (t.bench x).sweep.map (fun u => (u.driver, u.candidates, u.groupDriver, u.groupSweep, u.confirms, u.pairs, u.held)) =
        some (0, n - 1, 0, 0, 0, w.pairs + 1, []) ∧
      (t.bench x).locator = [{ first := 1, last := n - 1, state := .toMeasure, value := none, halfFailed := false }] ∧
      (t.bench x).wait = .trunk ∧ RangeHanded s t x v 0 1 (n - 1)) ∧
    (n ≤ 1 → Closed s x →
      (∀ r, ((s.bench x).recorded false ds).record = some r → SweepEnded (t.bench x) r .done) ∧
      (t.bench x).banks = ((s.bench x).recorded false ds).banks ∧ (ds ≠ [] → Notified s t x.port srcDefect)))

/-- Between s and t the confirm of the top entry has ended: its SHORT is recorded with this value and range, and the entry removed (R104,
R105). -/
abbrev Confirmed (s t : State) (x : Station) (w : Sweep) (top : Entry) (rest : List Entry) (value : Option Nat) (range : Nat) : Prop :=
  ∀ d : Defect,
    d = { seq := 0, kind := .short, a := some (w.subject w.driver w.driverFirst), b := .single (w.subject top.first w.pairB),
          selection := none, value := value, range := some range } →
    (rest = [] → DriverDone s t x w [d]) ∧
    ∀ f, rest.head? = some f → f.state = .lower → f.first < f.last →
      UpperNext s t x w f rest.tail ∧ Recorded s t x true [d] ∧ (t.bench x).sweep.map (·.confirms) = some (w.confirms + 1)

/-- Between s and t the run of station X with this record is closed: the answer carries its results, the verdict is counted, the summary
written, the record dropped, the bank queued for a ticket or kept, the station asks no more, and RUN-ENDED is raised (R69, R71, R75). -/
abbrev RunCloses (s t : State) (x : Station) (r : RunRecord) : Prop :=
  t.store = s.store ∧ (t.port x.port).work = none ∧
  (t.port x.port).response =
    some { status := .ok, echo := 0x31, clamped := false, more := false,
           payload := .closed r.serial r.bank (verdictOf r) r.found ((s.bench x).banks.get r.bank).unlisted
             (needsTicket r.policy (verdictOf r)) } ∧
  (t.bench x).run = .noRun ∧ (t.bench x).record = none ∧
  (t.bench x).summary = some { serial := r.serial, bank := r.bank, verdict := verdictOf r, cause := .closeRun } ∧
  (t.bench x).counters = (s.bench x).counters.count (verdictOf r) ∧
  t.hv.asks x = false ∧ Notified s t x.port srcRunEnded ∧ Notified s t .ps (srcRunEndedOf x) ∧
  (needsTicket r.policy (verdictOf r) = false → t.printer = s.printer ∧ ((t.bench x).banks.get r.bank).state = .kept) ∧
  (needsTicket r.policy (verdictOf r) = true →
    ((t.bench x).banks.get r.bank).state = (if s.printer.queue = [] then .printing else .queued) ∧
    t.printer.queue = s.printer.queue ++
      [{ station := x, bank := r.bank, serial := r.serial, verdict := verdictOf r, found := r.found, crc := s.store.crc,
         code := hdrCode s.store.words, revision := hdrRevision s.store.words, cancelled := none }])

/-- The engine of station X has handed its trunk a configuration and waits for it (R85). -/
abbrev Handed (t : State) (x : Station) (c : Configuration) : Prop :=
  (t.bench x).wait = .trunk ∧ (t.bench x).handed = c ∧ TrunkHas t x c

/-- The value of a pair result (R51, R52). -/
def pairOhms : MeasResult → Option Nat
  | .pairValue v _ => some v
  | _ => none

/-- The walk of a sweep has come to a pair: these OPENs are held, the re-selection test is in hand or not, the member position and the
anchor stand so, one more pair is counted, and the pair's configuration is handed (R85, R89 to R91). -/
abbrev WalksTo (t : State) (x : Station) (w : Sweep) (held : List HeldOpen) (retest : Bool) (pos anchor p q : Nat) : Prop :=
  (t.bench x).sweep.map (fun v => (v.held, v.retest, v.pos, v.anchor, v.pairs)) = some (held, retest, pos, anchor, w.pairs + 1) ∧
  Handed t x { drive := pointSet p, ret := pointSet q }

/-- An OPEN between an anchor and a member of the current net (R88). -/
def Sweep.openOf (w : Sweep) (anchor point : Nat) : Defect :=
  { seq := 0, kind := .openWire, a := some { net := some w.net, point := anchor }, b := .single { net := some w.net, point := point },
    selection := none, value := none, range := some 3 }

/-- Between s and t the step of station X enters CONFIGURE: its configuration is handed, or waits behind a check (R139 to R141). -/
abbrev Configures (s t : State) (x : Station) (st : StepRecord) : Prop :=
  (t.bench x).step = some { st with state := .configure } ∧ (s.store.state = .checking → (t.bench x).wait = .read .step) ∧
  (s.store.state ≠ .checking → Handed t x (stepConfig s.store.words st))

/-- The station that the arbiter grants when it looks: the first in line that meets the conditions of a grant (R116, R117). -/
def Hv.next (h : Hv) : Option Station := h.line.find? (fun x => h.grantable x)

/-- Between s and t the source is granted to station X by the asks it had in s (R116, R120); a step that asked leaves WAIT-HV (R140). -/
abbrev Granted (s t : State) (x : Station) : Prop :=
  t.hv.holder = some x ∧ t.hv.asks x = false ∧ t.hv.string = 0 ∧ t.hv.holderStep = s.hv.stepAsk.get x ∧
  t.hv.reserved = (s.hv.reserveAsk.get x || !s.hv.stepAsk.get x) ∧
  t.hv.holdTimer = (if s.hv.stepAsk.get x then none else some s.hv.limits.hold) ∧ Notified s t x.port srcHvGranted ∧
  (s.hv.stepAsk.get x = true → ∀ st, (s.bench x).step = some st → st.state = .waitHv → Configures s t x st)

/-- An energisation of station X's step discharges on its SETTLED hot trunk, and the step waits for its result. -/
abbrev StepDischarges (s : State) (x : Station) (e : Energisation) (st : StepRecord) : Prop :=
  s.inReset = false ∧ s.hot x = true ∧ s.matrix.state = .ready ∧ s.hv.energ = some e ∧ e.trunk = x ∧ e.stage = .discharging ∧
  (s.trunk x).state = .settled ∧ Closed s x ∧ (s.bench x).run = .insulation ∧ (s.bench x).wait = .energisation ∧
  (s.bench x).step = some st

/-- The step of station X has entered FINISH with these fields: the engine waits for the empty configuration (R144). -/
abbrev StepFinishes (t : State) (x : Station) (st : StepRecord) : Prop :=
  (t.bench x).step = some { st with state := .finish } ∧ (t.bench x).locator = [] ∧ (t.bench x).wait = .allOpen ∧
  (t.bench x).handed = .empty ∧ (t.trunk x).config = some .empty

/-- The step record after a result that counts (R135, R142). -/
def StepRecord.counted (st : StepRecord) (rins : Option Nat) : StepRecord :=
  { st with energisations := st.energisations + 1, lastRins := rins.or st.lastRins }

/-- A candidate of a step as subject b of a defect: a net with its first point, or an unused point with the net absent (R147). -/
def candidateSubject (m : List ImageCell) : Driver → Subject
  | .net i => { net := some i, point := memberAt m (netFirst m i) }
  | .point p => { net := none, point := p }

/-- Between s and t the step of station X, with this record, goes on to the range test of its candidates first to last: the range's
configuration is handed, or waits behind a check (R41, R143). -/
abbrev RangeTested (s t : State) (x : Station) (st : StepRecord) (first last : Nat) : Prop :=
  (t.bench x).step = some st ∧ (s.store.state = .checking → (t.bench x).wait = .read .locate) ∧
  (s.store.state ≠ .checking →
    Handed t x
      { drive := netsPoints s.store.words st.selected,
        ret := driversPoints s.store.words ((List.range (last + 1 - first)).map (fun i => st.returned.getD (first + i) (.net 0))) })

/-- Between s and t the lower half of a range of the step is done with: its upper half is tested next (R103, R143). -/
abbrev UpperTested (s t : State) (x : Station) (st : StepRecord) (g : Entry) (rest : List Entry) : Prop :=
  RangeTested s t x st (g.first + (g.last + 2 - g.first) / 2) g.last ∧
  (t.bench x).locator =
    { first := g.first + (g.last + 2 - g.first) / 2, last := g.last, state := .toMeasure, value := none, halfFailed := false } ::
      { g with state := .upper } :: rest

/-- What a finished range of a step records: an INS-LOW of the range where neither of its halves failed (R103, R143). -/
def StepRecord.rangeDefects (st : StepRecord) (g : Entry) : List Defect :=
  if g.halfFailed then []
  else
    [{ seq := 0, kind := .insLow, a := none,
       b := .range (st.returned.getD g.first (.net 0)) (st.returned.getD g.last (.net 0)), selection := some st.selection,
       value := some (g.value.getD 0), range := none }]

/-- Between s and t the top entry of a step's locate is removed, with these defects recorded for it and `rest` below it: the step ends,
or the upper half of the entry below is tested, or the range below is finished and the locate goes on with the one below that (R103,
R143). -/
abbrev LocateGoesOn (s t : State) (x : Station) (st : StepRecord) (rest : List Entry) (ds : List Defect) : Prop :=
  (rest = [] → StepFinishes t x st ∧ Recorded s t x false ds) ∧
  ∀ g, rest.head? = some g →
    (g.state = .lower → g.first < g.last → UpperTested s t x st g rest.tail ∧ Recorded s t x false ds) ∧
    (g.state = .upper →
      (rest.tail = [] → StepFinishes t x st ∧ Recorded s t x false (ds ++ st.rangeDefects g)) ∧
      ∀ h, rest.tail.head? = some h → h.state = .lower → h.first < h.last →
        UpperTested s t x st h rest.tail.tail ∧ Recorded s t x false (ds ++ st.rangeDefects g))

/-! ## Invariants -/

/-- A request in work is one of the two that can wait: READ IMAGE and START INSULATION (R163). -/
def WorkWaits (s : State) : Prop :=
  ∀ p r, (s.port p).work = some r → r.code = 0x25 ∨ r.code = 0x35

/-- The image is in canonical form: word numbers rise and lie below 8208, no listed word is 0. -/
def Memory.wf (s : State) : Bool := imageWf s.store.words

/-- No point has both relays closed (R3). -/
def Relays.Apart (r : Relays) : Prop := r.drive &&& r.ret = 0

/-- No point has both relays closed in the relay image, in the load in progress, in a waiting request, or in a trunk's target (R3). -/
def RelaysApart (s : State) : Prop :=
  (∀ m, s.matrix.image = some m → m.relays.Apart) ∧ (∀ l, s.matrix.load = some l → l.contents.relays.Apart) ∧
  (∀ x r, s.matrix.slots.get x = some r → r.Apart) ∧ ∀ x, (s.trunk x).target.Apart

/-- With the chain free no trunk's request waits (R4). -/
def ChainServed (s : State) : Prop := s.matrix.load = none → s.matrix.slots.a = none ∧ s.matrix.slots.b = none

/-- A serving stack, its top first, holds strictly increasing levels from the bottom, none of them OFF (R169). -/
def StackRises (l : List Level) : Prop := l.Pairwise (fun hi lo => levelRank lo < levelRank hi) ∧ ∀ v ∈ l, v ≠ .off

/-- Every port's serving stack rises (R169). -/
def StacksRise (s : State) : Prop := ∀ p, StackRises (s.unit p).stack

/-- While alarm active is set REFERENCE-ALARM stands pending in all three units (R42, R172). -/
def AlarmStands (s : State) : Prop := s.store.active = true → ∀ p, (s.unit p).pending.getLsbD 15 = true

/-- The closed counter is the sum of the four verdict counters, modulo 2^32 (R75). -/
def Counters.Sum (c : Counters) : Prop := c.closed = c.pass + c.fail + c.incomplete + c.invalid

/-- The counter relation of R75 holds for both stations. -/
def CountersSum (s : State) : Prop := ∀ x, (s.bench x).counters.Sum

/-- The five limits lie in their ranges, and the string count in 0 to 64 (R113, R115). -/
def LimitsInRange (s : State) : Prop :=
  (50 ≤ s.hv.limits.cap ∧ s.hv.limits.cap ≤ buildVolts s.hv.build) ∧ (1 ≤ s.hv.limits.ramp ∧ s.hv.limits.ramp ≤ 10) ∧
  (100 ≤ s.hv.limits.trip ∧ s.hv.limits.trip ≤ 2000) ∧ (100 ≤ s.hv.limits.hold ∧ s.hv.limits.hold ≤ 5000) ∧
  (1 ≤ s.hv.limits.string ∧ s.hv.limits.string ≤ 64) ∧ s.hv.string ≤ 64

/-- An open run's bank lists at most 128 records, and its record count plus its unlisted count is the run's found-defect count
(R149). -/
def BankMatches (b : Bench) : Prop :=
  ∀ r, b.record = some r →
    (b.banks.get r.bank).records.length ≤ 128 ∧ r.found ≤ 65535 ∧
    (b.banks.get r.bank).records.length + (b.banks.get r.bank).unlisted = r.found

/-- The relation of R149 holds for both stations. -/
def BanksMatch (s : State) : Prop := ∀ x, BankMatches (s.bench x)

/-- Each station's next serial lies in 1 to 999,999 (R76). -/
def SerialsInRange (s : State) : Prop := ∀ x, 1 ≤ (s.bench x).nextSerial ∧ (s.bench x).nextSerial ≤ 999999

/-- Each trunk's settle time lies in 1 to 20 ms (R15). -/
def SettleTimesInRange (s : State) : Prop := ∀ x, 1 ≤ (s.trunk x).settleTime ∧ (s.trunk x).settleTime ≤ 20

/-! ## The safety of the source (R116, R122, R123) -/

/-- The conditions under which station X may hold a source that can be on (R116, R123). -/
def MayBeOn (h : Hv) (x : Station) : Prop :=
  h.permission.allows = true ∧ h.estop = false ∧ h.lidClosed.get x = true ∧ h.latch = none

/-- The source output is on only while the holder's lid is closed, E-STOP clear, the permission allows, the fault latch is clear and
the transfer switch is TO-holder (R123). -/
def OutputSafe (s : State) : Prop :=
  s.hv.source.outputOn = true → ∃ x, s.hv.holder = some x ∧ s.hv.sw = .to x ∧ MayBeOn s.hv x

/-- The stage and the source state that go together, with the switch (R122, R123, R125). -/
def StageFits (h : Hv) (e : Energisation) : Prop :=
  match e.stage with
  | .isolating => h.source = .off ∧ h.sw = .off
  | .connecting => h.source = .off ∧ h.sw = .to e.trunk
  | .ramping => h.source = .ramping ∧ h.sw = .to e.trunk
  | .dwelling => h.source = .dwelling ∧ h.sw = .to e.trunk
  | .sampling => h.source = .sampling ∧ h.sw = .to e.trunk
  | .discharging => h.source = .discharging ∧ h.sw = .to e.trunk

/-- A step that has left WAIT-HV and not entered FINISH. -/
def StepState.active : StepState → Bool
  | .configure | .energise | .locate => true
  | .waitHv | .finish => false

/-- The engine of station X has an insulation step that works with the source. -/
def StepActive (b : Bench) : Prop := b.run = .insulation ∧ ∃ st, b.step = some st ∧ st.state.active = true

/-- The invariant of the source: what an energisation, a holding and an active step require of one another (R113 to R131, R140 to
R145). -/
structure SourceSafe (s : State) : Prop where
  /-- an energisation stands on the holder's trunk, and its stage fits the source state and the switch -/
  energ : ∀ e, s.hv.energ = some e → s.hv.holder = some e.trunk ∧ StageFits s.hv e
  /-- with no energisation the source is OFF with the switch OFF, or FAULTED -/
  quiet : s.hv.energ = none → (s.hv.source = .off ∧ s.hv.sw = .off) ∨ s.hv.source = .faulted
  /-- the fault latch is set exactly while the source is FAULTED (R126, R127) -/
  latched : s.hv.latch.isSome = true ↔ s.hv.source = .faulted
  /-- the switch is TO-X only while X is the holder (R122) -/
  switch : ∀ x, s.hv.sw = .to x → s.hv.holder = some x
  /-- a release is pending only while the switch does not stand OFF (R119) -/
  pending : s.hv.releasePending = true → s.hv.sw ≠ .off
  /-- a holder whose release is not pending meets the conditions of its grant -/
  holding : ∀ x, s.hv.holder = some x → s.hv.releasePending = false → MayBeOn s.hv x
  /-- an energisation belongs to an active step that waits for it, or it is discharging for a holder about to be released -/
  working : ∀ e, s.hv.energ = some e →
    ((e.stage = .discharging ∨ s.hv.releasePending = false) ∧ StepActive (s.bench e.trunk) ∧
      (s.bench e.trunk).wait = .energisation) ∨
    (e.stage = .discharging ∧ s.hv.releasePending = true ∧ (s.bench e.trunk).wait ≠ .energisation)
  /-- an engine that waits for an energisation has an active step and an energisation -/
  waiting : ∀ x, (s.bench x).wait = .energisation → StepActive (s.bench x) ∧ s.hv.energ.isSome = true
  /-- an active step belongs to the holder, with its holder step in progress; under a pending release it is interrupted -/
  stepping : ∀ x, StepActive (s.bench x) →
    s.hv.holder = some x ∧ s.hv.holderStep = true ∧
    (s.hv.releasePending = true →
      (s.bench x).wait = .energisation ∧ ∀ st, (s.bench x).step = some st → st.interrupted = true) ∧
    ((s.bench x).wait = .energisation ∨ s.hv.energ = none)
  /-- a queued step stands in WAIT-HV and is not interrupted (R135) -/
  queued : ∀ x st, (s.bench x).queued = some st → st.state = .waitHv ∧ st.interrupted = false
  /-- an open run has its record (R62, R63) -/
  recorded : ∀ x, (s.bench x).run ≠ .noRun → (s.bench x).record.isSome = true
  /-- an engine that waits for an energisation has its trunk SETTLED with nothing waiting behind it -/
  settled : ∀ x, (s.bench x).wait = .energisation → (s.trunk x).state = .settled ∧ (s.trunk x).waiting = none
  /-- a trunk that waits for the supervisor all-open load shows OPENING or GUARDED (R16) -/
  reset : ∀ x, (s.trunk x).part = .deviceAllOpen → (s.trunk x).state = .opening ∨ (s.trunk x).state = .guarded
  /-- the hold timer runs only with no holder step in progress (R120) -/
  timer : s.hv.holdTimer.isSome = true → s.hv.holderStep = false
  /-- while a reset line is asserted nobody holds the source (R133) -/
  held : s.inReset = true → s.hv.holder = none

/-! ## The arbiter's asks (R116, R117) and the print queue (R151) -/

/-- The asks stand in order: the stations in line are the asking ones, each once; while the holder is NONE no asking station meets the
conditions of a grant; and while a reset line is asserted nobody asks (R116, R117, R133). -/
structure AsksSettled (s : State) : Prop where
  once : s.hv.line.Nodup
  line : ∀ x, x ∈ s.hv.line ↔ s.hv.asks x = true
  granted : s.hv.holder = none → ∀ x, s.hv.asks x = true → s.hv.grantable x = false
  held : s.inReset = true → s.hv.line = []

/-- The bank states that go with a place in the print queue. -/
def BankState.onQueue (v : BankState) : Prop := v = .queued ∨ v = .printing

/-- The print queue names no bank twice, the head's bank is PRINTING, the others' QUEUED, and no other bank is either; an open run's
bank is RECORDING (R148, R151). -/
structure QueueOrdered (s : State) : Prop where
  distinct : (s.printer.queue.map (fun j => (j.station, j.bank))).Nodup
  head : ∀ j, s.printer.queue.head? = some j → (jobBank s j).state = .printing
  behind : ∀ j, j ∈ s.printer.queue.tail → (jobBank s j).state = .queued
  only : ∀ x k, ((s.bench x).banks.get k).state.onQueue → ∃ j ∈ s.printer.queue, j.station = x ∧ j.bank = k
  recording : ∀ x r, (s.bench x).record = some r → ((s.bench x).banks.get r.bank).state = .recording
  held : s.inReset = true → s.printer.queue = []

end Sys2Proof.Machine
end

