-- ==== Sys2Proof/Certificates/Slice0/Obligations.lean ====
section
/-! DEFINITION. The statements for the provers. -/

open Sys2Proof Sys2Proof.Machine

/-! ## The whole part -/

/-- A step takes the command at the front of the queue and runs it on the state with the queue's rest. That an empty queue idles is the
model's choice (log 1). -/
def Obligations.StepTakesFront : Prop :=
  (∀ (s : State) (i : Instr) (rest : List Instr), s.pending = i :: rest → step s = exec i { s with pending := rest }) ∧
  ∀ s : State, s.pending = [] → step s = .next s

/-- Every command on every state has a next state, and no command touches the queue. That nothing stops the part is the model's reading
(log 38), and the queue of waiting commands is its choice (log 1). -/
def Obligations.CommandsKeepQueue : Prop :=
  ∀ (i : Instr) (s : State), ∃ t, exec i s = .next t ∧ t.pending = s.pending

/-- Every step keeps the image in its canonical form (section 2.1; log 14). -/
def Obligations.ImageStaysCanonical : Prop :=
  ∀ s t : State, Memory.wf s = true → step s = .next t → Memory.wf t = true

/-- Every step keeps the two relays of every point apart, in the image, in the load, in the slots and in the targets (R3), and a free
chain leaves no trunk's request waiting (R4). -/
def Obligations.ChainStaysSafe : Prop :=
  ∀ s t : State, step s = .next t → (RelaysApart s → RelaysApart t) ∧ (ChainServed s → ChainServed t)

/-- Every step keeps the serving stacks strictly increasing, of at most four entries (R169), and REFERENCE-ALARM pending in all three
units while alarm active is set (R172). -/
def Obligations.NoticesStayOrdered : Prop :=
  ∀ s t : State, step s = .next t →
    (StacksRise s → StacksRise t ∧ ∀ p, (t.unit p).stack.length ≤ 4) ∧ (AlarmStands s → AlarmStands t)

/-- Every step keeps the HV limits, the string count, the next serials and the settle times in their ranges (R15, R76, R113, R115); the
closed counter equal to the sum of the four others (R75); a run's found-defect count equal to its bank's record count plus unlisted
count (R149); and it leaves only READ IMAGE and START INSULATION waiting in a request slot (R163). -/
def Obligations.CountsStayInRange : Prop :=
  ∀ s t : State, step s = .next t →
    (LimitsInRange s → LimitsInRange t) ∧ (SerialsInRange s → SerialsInRange t) ∧
    (SettleTimesInRange s → SettleTimesInRange t) ∧ (CountersSum s → CountersSum t) ∧ (BanksMatch s → BanksMatch t) ∧
    (WorkWaits s → WorkWaits t)

/-- Every step keeps the invariant of the source, and with it the output is on only while the holder's lid is closed, E-STOP clear, the
permission allows, the fault latch is clear and the transfer switch is TO-holder (R123). -/
def Obligations.SourceStaysSafe : Prop :=
  ∀ s t : State, SourceSafe s → step s = .next t → SourceSafe t ∧ OutputSafe t

/-- Every step keeps the asks in order, so that while the holder is NONE no asking station meets the conditions of a grant (R117), and
the print queue in order: no bank twice, the head PRINTING, the rest QUEUED, and so at most four jobs (R151). -/
def Obligations.QueuesStayOrdered : Prop :=
  ∀ s t : State, step s = .next t →
    (AsksSettled s → AsksSettled t) ∧ (QueueOrdered s → QueueOrdered t ∧ t.printer.queue.length ≤ 4)

/-- Every invariant holds right after reset; the reset state is the part after a power-on with every input low (log 3). -/
def Obligations.ResetMeetsInvariants : Prop :=
  Memory.wf State.reset = true ∧ RelaysApart State.reset ∧ ChainServed State.reset ∧ StacksRise State.reset ∧
  AlarmStands State.reset ∧ CountersSum State.reset ∧ BanksMatch State.reset ∧ LimitsInRange State.reset ∧
  SerialsInRange State.reset ∧ SettleTimesInRange State.reset ∧ WorkWaits State.reset ∧ SourceSafe State.reset ∧
  AsksSettled State.reset ∧ QueueOrdered State.reset

/-! ## Ports and frames -/

/-- A request row of the table does what its frame of R175 does. -/
def Obligations.RequestRowIsFrame : Prop :=
  ∀ (i : Instr) (p : Port) (r : Request) (s : State), i.request? = some (p, r) → i.wf = true →
    exec i s = exec (.requestFrame p r.frame) s

/-- The port's judgement of a request frame: dropped where a slot is not empty, else BAD-LENGTH, UNKNOWN-REQUEST, NOT-PERMITTED, and
BAD-ARGUMENT for a payload that does not fit (R161, R163). A frame of STATION RESET or RESET DEVICE is judged on an occupied port too, and
dropped where it fails; that one with a payload is BAD-ARGUMENT there with what the port held lost and nothing reset is the model's
reading (R161, R164, log 11). -/
def Obligations.FramesJudged : Prop :=
  ∀ (s : State) (p : Port) (c len : Byte) (payload : List Byte), s.inReset = false → c ≠ 0 →
    ((s.port p).occupied = true → c ≠ 0x08 → c ≠ 0x33 →
      exec (.requestFrame p (c :: len :: payload)) s = .next (periodOver p true s)) ∧
    ((s.port p).occupied = true →
      exec (.requestFrame p [c]) s = .next (periodOver p true s) ∧
      (c = 0x08 ∨ c = 0x33 → ∀ k, codeClass c = some k →
        (¬ (len.toNat ≤ 248 ∧ payload.length = len.toNat) ∨ k.holds p = false →
          exec (.requestFrame p (c :: len :: payload)) s = .next (periodOver p true s)) ∧
        (len.toNat ≤ 248 → payload.length = len.toNat → k.holds p = true → payload ≠ [] →
          exec (.requestFrame p (c :: len :: payload)) s =
            .next (s.setPort p { work := none, dropped := true, shifting := none, lastFrame := some (s.port p).frameOut.frame,
                                 response := some { status := .badArgument, echo := c, clamped := false, more := false,
                                                    payload := .empty } })))) ∧
    ((s.port p).occupied = false →
      exec (.requestFrame p [c]) s = .next (plainly p c .badLength s) ∧
      (¬ (len.toNat ≤ 248 ∧ payload.length = len.toNat) →
        exec (.requestFrame p (c :: len :: payload)) s = .next (plainly p c .badLength s)) ∧
      (len.toNat ≤ 248 ∧ payload.length = len.toNat →
        (codeClass c = none →
          exec (.requestFrame p (c :: len :: payload)) s = .next (plainly p c .unknownRequest s)) ∧
        (∀ k, codeClass c = some k → k.holds p = false →
          exec (.requestFrame p (c :: len :: payload)) s = .next (plainly p c .notPermitted s)) ∧
        ∀ k, codeClass c = some k → k.holds p = true → parseRequest c payload = none →
          exec (.requestFrame p (c :: len :: payload)) s = .next (plainly p c .badArgument s)))

/-- The frame is fixed when chip select falls, also while a reset line is asserted: the response, else WAIT with the code of the request in
work, else WAIT with code 0. A fetch that sent a response empties the slot and clears DROPPED; any other period delivers nothing, and
while a reset line is asserted no period does: it ends with its own frame shifted out, and both slots keep what they held (R161, R162).
That a line or supervisor reset leaves the frame of a period in progress as it was fixed, parted from the slot, is the model's reading
(log 8). A frame's bytes are its status
code, the code echo, the flags byte with DROPPED in bit 0, CLAMPED in bit 1 and MORE in bit 2, the payload length and the payload
(R175); a payload that stands as named content has no bytes here (log 7). -/
def Obligations.PeriodsDeliver : Prop :=
  ∀ (s : State) (p : Port),
    (∀ a, (s.port p).response = some a →
      exec (.chipSelectFall p) s =
        .next (s.setPort p { s.port p with
          shifting := some { frame := { response := a, dropped := (s.port p).dropped }, fromSlot := true } })) ∧
    (∀ r, (s.port p).response = none → (s.port p).work = some r →
      exec (.chipSelectFall p) s =
        .next (s.setPort p { s.port p with
          shifting := some { frame := { response := waitResponse r.code, dropped := (s.port p).dropped }, fromSlot := false } })) ∧
    ((s.port p).response = none → (s.port p).work = none →
      exec (.chipSelectFall p) s =
        .next (s.setPort p { s.port p with
          shifting := some { frame := { response := waitResponse 0, dropped := (s.port p).dropped }, fromSlot := false } })) ∧
    (∀ f, (s.port p).shifting = some f →
      (s.inReset = false →
        exec (.fetch p) s =
          .next (s.setPort p { s.port p with
            shifting := none, lastFrame := some f.frame, response := if f.fromSlot then none else (s.port p).response,
            dropped := if f.fromSlot then false else (s.port p).dropped })) ∧
      (s.inReset = true →
        exec (.fetch p) s = .next (s.setPort p { s.port p with shifting := none, lastFrame := some f.frame }) ∧
        ∀ bytes, exec (.requestFrame p bytes) s =
          .next (s.setPort p { s.port p with shifting := none, lastFrame := some f.frame }))) ∧
    (∀ (b : BuildMax) (f : Shift), s.inReset = false → (s.port p).shifting = some f →
      ∃ t, exec (.lineReset b) s = .next t ∧ (t.port p).shifting = some { f with fromSlot := false }) ∧
    (∀ f : Shift, s.inReset = false → p ≠ .ps → (s.port p).shifting = some f →
      ∃ t, exec (.resetDevice .ps) s = .next t ∧ (t.port p).shifting = some { f with fromSlot := false }) ∧
    exec (.requestFrame p []) s = .next (periodOver p (s.port p).dropped s) ∧
    (∀ rest, exec (.requestFrame p (0 :: rest)) s = exec (.fetch p) s) ∧
    (∀ f : Frame,
      (∀ bs, f.response.payload.bytes? = some bs →
        f.bytes? = some ([f.response.status.byte, f.response.echo, f.flags, BitVec.ofNat 8 bs.length] ++ bs)) ∧
      f.flags.getLsbD 0 = f.dropped ∧ f.flags.getLsbD 1 = f.response.clamped ∧ f.flags.getLsbD 2 = f.response.more ∧
      f.flags.toNat < 8) ∧
    [Status.ok, .accepted, .wait, .abandoned, .badLength, .unknownRequest, .notPermitted, .badArgument, .unreadable, .busy, .runOpen,
        .noRun, .noReference, .notLoading, .locked, .overlap, .windowSmall, .cardMissing, .printerBacklog, .prerequisite,
        .emptySelection, .hvBarred, .interlock, .hvFault, .notQueued].map Status.byte =
      [0x00, 0x01, 0x02, 0x03, 0x10, 0x11, 0x12, 0x13, 0x14, 0x20, 0x21, 0x22, 0x23, 0x24, 0x25, 0x26, 0x27, 0x28, 0x29, 0x2A, 0x2B,
        0x2C, 0x2D, 0x2E, 0x2F]

/-! ## Notices -/

/-- TAKE NOTICE picks the eligible source of the highest level, and among equal levels the lowest number; it clears its pending flag,
but for REFERENCE-ALARM while alarm active is set, pushes its level, and answers base plus source number and the level byte; with
nothing eligible it answers 0xFF and 0xFF (R169). -/
def Obligations.TakeNoticePicks : Prop :=
  ∀ (s : State) (p : Port), Ready s p →
    (∀ n, eligible (s.unit p) n = true ↔
      (s.unit p).pending.getLsbD n = true ∧
        ((s.unit p).stack.head?.map levelRank).getD 0 < levelRank (sourceLevel (s.unit p) n)) ∧
    (∀ n, n < 16 → eligible (s.unit p) n = true →
      (∀ m, m < 16 → eligible (s.unit p) m = true →
        levelRank (sourceLevel (s.unit p) m) ≤ levelRank (sourceLevel (s.unit p) n) ∧
        (levelRank (sourceLevel (s.unit p) m) = levelRank (sourceLevel (s.unit p) n) → n ≤ m)) →
      exec (.takeNotice p) s =
        .next (answered p 0x01 .ok false false
          (.bytes [(s.unit p).base + BitVec.ofNat 8 n, levelByte (sourceLevel (s.unit p) n)])
          (s.setUnit p { s.unit p with
            pending := if n = 15 ∧ s.store.active = true then (s.unit p).pending else (s.unit p).pending &&& ~~~(1#16 <<< n),
            stack := sourceLevel (s.unit p) n :: (s.unit p).stack }))) ∧
    ((∀ n, n < 16 → eligible (s.unit p) n = false) →
      exec (.takeNotice p) s = .next (answered p 0x01 .ok false false (.bytes [0xFF, 0xFF]) s))

/-- END NOTICE removes the top of the serving stack and answers its level, or 0xFF on an empty stack with nothing changed; ATTN is then
judged against the new top (R170). -/
def Obligations.EndNoticePops : Prop :=
  ∀ (s : State) (p : Port), Ready s p →
    (∀ l rest, (s.unit p).stack = l :: rest →
      ∃ t, exec (.endNotice p) s = .next t ∧
        t = answered p 0x02 .ok false false (.bytes [levelByte l]) (s.setUnit p { s.unit p with stack := rest }) ∧
        (t.attn p = true ↔
          s.store.active = true ∨
            ∃ n, n < 16 ∧ (s.unit p).pending.getLsbD n = true ∧
              (rest.head?.map levelRank).getD 0 < levelRank (sourceLevel (s.unit p) n))) ∧
    ((s.unit p).stack = [] → exec (.endNotice p) s = .next (answered p 0x02 .ok false false (.bytes [0xFF]) s))

/-- WRITE PENDING gives each enabled, named source the value's bit, whatever its level, but does not clear source 15 while alarm active
is set; CALL STATION raises CALL on the named station's port, is refused any other name, and is taken from port PS alone (R171). That bit
n of the mask and of the values stands for source n is the model's choice (log 53). -/
def Obligations.PendingWritten : Prop :=
  (∀ (s : State) (p : Port) (enable values : Word16), Ready s p →
    ∃ w : Word16,
      exec (.writePending p enable values) s = .next (plainly p 0x03 .ok (s.setUnit p { s.unit p with pending := w })) ∧
      ∀ n, n < 16 →
        w.getLsbD n =
          if enable.getLsbD n && sourceNamed p n then
            values.getLsbD n || (decide (n = 15) && s.store.active && (s.unit p).pending.getLsbD n)
          else (s.unit p).pending.getLsbD n) ∧
  (∀ (s : State) (x : Station), Ready s .ps →
    exec (.callStation .ps (stationByte x)) s =
      .next (plainly .ps 0x07 .ok
        (if sourceLevel (s.unit x.port) 8 = .off then s
         else s.setUnit x.port { s.unit x.port with pending := (s.unit x.port).pending ||| 1#16 <<< 8 }))) ∧
  (∀ (s : State) (v : Byte), Ready s .ps → v ≠ 0 → v ≠ 1 →
    exec (.callStation .ps v) s = .next (plainly .ps 0x07 .badArgument s)) ∧
  ∀ (s : State) (p : Port) (v : Byte), Ready s p → p ≠ .ps →
    exec (.callStation p v) s = .next (plainly p 0x07 .notPermitted s)

/-- SET NOTICE LEVEL sets the level of a named source below 9 of the issuing port and refuses everything else; SET NOTICE BASE takes
multiples of 16; READ NOTICES shows the unit and changes nothing (R167; the payload as named content, the model's choice, log 7). That a
source number with no name on the port is shown OFF is the model's reading (log 26). -/
def Obligations.NoticeSettings : Prop :=
  ∀ (s : State) (p : Port), Ready s p →
    (∀ (n l : Byte) (v : Level), levelOf l = some v → n.toNat < (if p = .ps then 6 else 9) →
      exec (.setNoticeLevel p n l) s =
        .next (plainly p 0x04 .ok (s.setUnit p { s.unit p with levels := (s.unit p).levels.setIfInBounds n.toNat v }))) ∧
    (∀ n l : Byte, levelOf l = none ∨ ¬ n.toNat < (if p = .ps then 6 else 9) →
      exec (.setNoticeLevel p n l) s = .next (plainly p 0x04 .badArgument s)) ∧
    (∀ b : Byte, b.toNat % 16 = 0 →
      exec (.setNoticeBase p b) s = .next (plainly p 0x05 .ok (s.setUnit p { s.unit p with base := b }))) ∧
    (∀ b : Byte, b.toNat % 16 ≠ 0 → exec (.setNoticeBase p b) s = .next (plainly p 0x05 .badArgument s)) ∧
    exec (.readNotices p) s =
      .next (answered p 0x06 .ok false false
        (.notices { pending := (s.unit p).pending, levels := (List.range 16).map (sourceLevel (s.unit p)),
                    stack := (s.unit p).stack.reverse, base := (s.unit p).base, attn := s.attn p, alarm := s.store.active }) s)

/-! ## The point matrix -/

/-- SET SETTLE TIME clamps into 1 to 20 ms with the CLAMPED flag, is refused a trunk name other than A or B, and is taken in any state;
a running settle time keeps its length and the new one counts at the next entry to SETTLING; a power-on or line reset sets 3 ms, a
supervisor or station reset keeps it (R15). -/
def Obligations.SettleTimeSet : Prop :=
  (∀ (s : State) (x : Station) (v : Byte), Ready s .ps →
    exec (.setSettleTime .ps (stationByte x) v) s =
      .next (answered .ps 0x12 .ok (decide (v.toNat < 1 ∨ 20 < v.toNat)) false .empty
        (s.setTrunk x { s.trunk x with settleTime := max 1 (min 20 v.toNat) }))) ∧
  (∀ (s : State) (a v : Byte), Ready s .ps → a ≠ 0 → a ≠ 1 →
    exec (.setSettleTime .ps a v) s = .next (plainly .ps 0x12 .badArgument s)) ∧
  (∀ (s : State) (p : Port) (a v : Byte), Ready s p → p ≠ .ps →
    exec (.setSettleTime p a v) s = .next (plainly p 0x12 .notPermitted s)) ∧
  (∀ t : Trunk, t.settle.state = .settling ∧ t.settle.settleTimer = some t.settleTime) ∧
  (∀ (s : State) (b : BuildMax), s.porn = false →
    ∃ t, exec (.powerOnReset b) s = .next t ∧ ∀ x, (t.trunk x).settleTime = 3) ∧
  (∀ (s : State) (b : BuildMax), s.inReset = false →
    ∃ t, exec (.lineReset b) s = .next t ∧ ∀ x, (t.trunk x).settleTime = 3) ∧
  (∀ s : State, ∃ t, exec (.resetDevice .ps) s = .next t ∧ ∀ x, (t.trunk x).settleTime = (s.trunk x).settleTime) ∧
  ∀ (s : State) (y : Station),
    ∃ t, exec (.stationReset y.port) s = .next t ∧ ∀ x, (t.trunk x).settleTime = (s.trunk x).settleTime

/-- LOCK WINDOW sets the lock whatever the window holds; a locked window keeps base, limit and lock through every command but a power-on
or line reset, which set it to base 63, limit 0, unlocked; SET WINDOW on it is refused LOCKED where no earlier test refuses; a
supervisor or station reset changes no window (R20). -/
def Obligations.LockedWindowStays : Prop :=
  (∀ (s : State) (x : Station), Ready s .ps →
    exec (.lockWindow .ps (stationByte x)) s =
      .next (plainly .ps 0x11 .ok
        (s.setMatrix { s.matrix with windows := s.matrix.windows.set x { s.window x with lock := true } }))) ∧
  (∀ (i : Instr) (s t : State) (x : Station), (s.window x).lock = true → exec i s = .next t → (∀ b, i ≠ .powerOnReset b) →
    (∀ b, i ≠ .lineReset b) → t.window x = s.window x) ∧
  (∀ (s : State) (x : Station) (base limit : Byte), Ready s .ps → (s.window x).lock = true → base.toNat ≤ 63 →
    limit.toNat ≤ 63 → runOpen s x = false →
    windowsOverlap { base := base.toNat, limit := limit.toNat, lock := true } (s.window x.other) = false →
    exec (.setWindow .ps (stationByte x) base limit) s = .next (plainly .ps 0x10 .locked s)) ∧
  (∀ (s : State) (b : BuildMax), s.inReset = false →
    (∃ t, exec (.powerOnReset b) s = .next t ∧ ∀ x, t.window x = { base := 63, limit := 0, lock := false }) ∧
    ∃ t, exec (.lineReset b) s = .next t ∧ ∀ x, t.window x = { base := 63, limit := 0, lock := false }) ∧
  ∀ (s : State) (y : Station),
    (∃ t, exec (.resetDevice .ps) s = .next t ∧ t.matrix.windows = s.matrix.windows) ∧
    ∃ t, exec (.stationReset y.port) s = .next t ∧ t.matrix.windows = s.matrix.windows

/-- SET WINDOW is refused BAD-ARGUMENT, RUN-OPEN, OVERLAP, LOCKED or BUSY in that order; taken, it sets the window and the selector
table, and on a READY matrix whose table changed a window load is requested, which writes the new table and leaves the relays as the
image has them; it starts at once on a free chain where the trunks that a changing card leaves or joins are cold (R3, R5, R18, R19). -/
def Obligations.WindowSet : Prop :=
  ∀ (s : State) (x : Station) (base limit : Byte) (w : Window), Ready s .ps →
    w = { s.window x with base := base.toNat, limit := limit.toNat } →
    (63 < base.toNat ∨ 63 < limit.toNat →
      exec (.setWindow .ps (stationByte x) base limit) s = .next (plainly .ps 0x10 .badArgument s)) ∧
    (base.toNat ≤ 63 → limit.toNat ≤ 63 →
      (runOpen s x = true → exec (.setWindow .ps (stationByte x) base limit) s = .next (plainly .ps 0x10 .runOpen s)) ∧
      (runOpen s x = false →
        (base.toNat ≤ limit.toNat ∧ (s.window x.other).base ≤ (s.window x.other).limit ∧
            base.toNat ≤ (s.window x.other).limit ∧ (s.window x.other).base ≤ limit.toNat →
          exec (.setWindow .ps (stationByte x) base limit) s = .next (plainly .ps 0x10 .overlap s)) ∧
        (¬ (base.toNat ≤ limit.toNat ∧ (s.window x.other).base ≤ (s.window x.other).limit ∧
            base.toNat ≤ (s.window x.other).limit ∧ (s.window x.other).base ≤ limit.toNat) →
          ((s.window x).lock = true →
            exec (.setWindow .ps (stationByte x) base limit) s = .next (plainly .ps 0x10 .locked s)) ∧
          ((s.window x).lock = false → (s.trunk x).state ≠ .idle →
            exec (.setWindow .ps (stationByte x) base limit) s = .next (plainly .ps 0x10 .busy s)) ∧
          ((s.window x).lock = false → (s.trunk x).state = .idle →
            (s.matrix.selTable.take x w.cards = s.matrix.selTable ∨ s.matrix.state ≠ .ready →
              exec (.setWindow .ps (stationByte x) base limit) s =
                .next (plainly .ps 0x10 .ok
                  (s.setMatrix { s.matrix with windows := s.matrix.windows.set x w,
                                               selTable := s.matrix.selTable.take x w.cards }))) ∧
            ∃ t, exec (.setWindow .ps (stationByte x) base limit) s = .next t ∧ t.window x = w ∧
              t.window x.other = s.window x.other ∧ t.matrix.state = s.matrix.state ∧ t.matrix.image = s.matrix.image ∧
              (∀ c, c < 64 → (s.matrix.selTable.a &&& s.matrix.selTable.b = 0) →
                t.matrix.selTable.card c =
                  if base.toNat ≤ c ∧ c ≤ limit.toNat then .to x
                  else if s.matrix.selTable.card c = .to x then .none else s.matrix.selTable.card c) ∧
              (s.matrix.selTable.take x w.cards ≠ s.matrix.selTable → s.matrix.state = .ready →
                s.matrix.hk ≠ some .clearing →
                (t.matrix.hk = some .window ∨ ∃ l, t.matrix.load = some l ∧ l.requester = .housekeeping .window) ∧
                ∀ i, s.matrix.image = some i →
                  HousekeepingPlaced s t .window { relays := i.relays, sel := s.matrix.selTable.take x w.cards })))))

/-- A trunk's load writes its positions on the cards of its own window, the relay image elsewhere, and the selector table (R3); the
opening image keeps closed only what is closed and is to stay so (R10); a clearing load opens every relay and sets every selector NONE,
an all-open load opens every relay, and a window load leaves the relays (R5). A chain load completes: the relay image takes the contents
written (R3), and the chain serves what waits: a housekeeping request whose trunks are cold first, else the only trunk that waits, and of
two the one not last served (R4, R5). A clearing load is followed by the housekeeping release wait (R5, R6), a trunk's opening load by
its release wait, and its closing load by the settle time then set; after the release wait a trunk whose target closes a relay requests
the closing load and is CLOSING, one that only opened relays for a configuration with points is SETTLING, and one with the empty
configuration is IDLE (R11), or takes up at once, with nothing reported, the configuration that waits behind it (R12). Where that ends an
activity, STEP-DONE is raised and the run is READY (R68), or the queued step takes the slot: it enters CONFIGURE on a source still held,
stands in WAIT-HV with its ask set where the other station holds, and keeps an ask set before (R140, R144). Two clauses are the model's
reading: an earlier load of a trunk whose newer request waits moves nothing of the trunk (log 20), and a trunk that let its own load run
out, after a fall of its monitor or a station reset, takes up what it holds at its end (R13, R16, logs 20 and 22). -/
def Obligations.TrunkLoadsMoveOn : Prop :=
  (∀ (s : State) (x : Station), ∀ i, s.matrix.image = some i → ∀ (r target : Relays) (p : Nat), p < 2048 →
    (s.matrix.trunkLoad x r).requester = .trunk x ∧ (s.matrix.trunkLoad x r).contents.sel = s.matrix.selTable ∧
    (s.matrix.trunkLoad x r).contents.relays.drive.getLsbD p =
      (if OnCards (s.window x) p then r.drive.getLsbD p else i.relays.drive.getLsbD p) ∧
    (s.matrix.trunkLoad x r).contents.relays.ret.getLsbD p =
      (if OnCards (s.window x) p then r.ret.getLsbD p else i.relays.ret.getLsbD p) ∧
    (trunkRelays s x).drive.getLsbD p = (decide (OnCards (s.window x) p) && i.relays.drive.getLsbD p) ∧
    (trunkRelays s x).ret.getLsbD p = (decide (OnCards (s.window x) p) && i.relays.ret.getLsbD p) ∧
    (r.opened target).drive.getLsbD p = (r.drive.getLsbD p && target.drive.getLsbD p) ∧
    (r.opened target).ret.getLsbD p = (r.ret.getLsbD p && target.ret.getLsbD p) ∧
    s.matrix.housekeepingLoad .clearing =
      { requester := .housekeeping .clearing, contents := { relays := { drive := 0, ret := 0 }, sel := { a := 0, b := 0 } } } ∧
    s.matrix.housekeepingLoad .allOpen =
      { requester := .housekeeping .allOpen, contents := { relays := { drive := 0, ret := 0 }, sel := s.matrix.selTable } } ∧
    s.matrix.housekeepingLoad .window =
      { requester := .housekeeping .window, contents := { relays := i.relays, sel := s.matrix.selTable } } ∧
    s.matrix.mayStart .clearing = true ∧ (s.matrix.mayStart .allOpen = true ↔ s.hot .a = false ∧ s.hot .b = false) ∧
    (s.matrix.mayStart .window = true ↔
      (i.sel.a ≠ s.matrix.selTable.a → s.hot .a = false) ∧ (i.sel.b ≠ s.matrix.selTable.b → s.hot .b = false))) ∧
  (∀ (s : State) (l : ChainLoad), s.inReset = false → s.matrix.load = some l →
    (∀ x, l.requester = .trunk x →
      (s.trunk x).state ≠ .opening ∨ (s.trunk x).part ≠ .earlierLoad ∨ (s.matrix.slots.get x).isSome = true) →
    ∃ t, exec .chainLoadComplete s = .next t ∧ t.benches = s.benches ∧ t.hv = s.hv ∧
      ChainServes { s.matrix with image := some l.contents, load := none } t.matrix ∧
      ∀ x, l.requester = .trunk x → (s.matrix.slots.get x).isSome = true ∨ (s.trunk x).state = .guarded → t.trunk x = s.trunk x) ∧
  (∀ (s : State) (x : Station), s.inReset = false → ∀ l, s.matrix.load = some l → l.requester = .trunk x →
    (s.trunk x).state = .opening → (s.trunk x).part = .earlierLoad → s.matrix.slots.get x = none →
    ∀ c, (s.trunk x).config = some c → ∀ u, u = s.setMatrix { s.matrix with image := some l.contents, load := none } →
      ¬ DoneAtOnce u x c →
      ∃ t, exec .chainLoadComplete s = .next t ∧ TakesUp u t x c (s.trunk x).waiting ∧ t.benches = s.benches ∧ t.hv = s.hv) ∧
  (∀ (s : State) (l : ChainLoad), s.inReset = false → s.matrix.load = some l →
    (∃ t, exec .chainLoadComplete s = .next t ∧ t.matrix.image = some l.contents ∧ t.matrix.state = s.matrix.state ∧
      t.matrix.selTable = s.matrix.selTable ∧ t.matrix.presence = s.matrix.presence ∧ t.matrix.windows = s.matrix.windows ∧
      t.matrix.hot = s.matrix.hot ∧ t.store = s.store ∧ t.ports = s.ports ∧ t.printer = s.printer) ∧
    (s.matrix.slots.a = none → s.matrix.slots.b = none → s.matrix.hk = none →
      (l.requester = .housekeeping .clearing →
        exec .chainLoadComplete s =
          .next (s.setMatrix { s.matrix with image := some l.contents, load := none, hkWait := some .clearing })) ∧
      (l.requester = .housekeeping .window →
        exec .chainLoadComplete s = .next (s.setMatrix { s.matrix with image := some l.contents, load := none })) ∧
      (∀ x, l.requester = .trunk x → (s.trunk x).state = .opening → (s.trunk x).part = .load →
        exec .chainLoadComplete s =
          .next ((s.setMatrix { s.matrix with image := some l.contents, load := none }).setTrunk x
            { s.trunk x with part := .releaseWait })) ∧
      ∀ x, l.requester = .trunk x → (s.trunk x).state = .closing →
        exec .chainLoadComplete s =
          .next ((s.setMatrix { s.matrix with image := some l.contents, load := none }).setTrunk x
            { s.trunk x with state := .settling, part := .load, settleTimer := some (s.trunk x).settleTime }))) ∧
  ∀ (s : State) (x : Station), s.inReset = false → (s.trunk x).state = .opening → (s.trunk x).part = .releaseWait →
    ((trunkRelays s x).closesSome (s.trunk x).target = true →
      ∃ t, exec (.releaseWaitExpiry x) s = .next t ∧ (t.trunk x).state = .closing ∧ (t.trunk x).config = (s.trunk x).config ∧
        (t.matrix.slots.get x = some (s.trunk x).target ∨ ∃ l, t.matrix.load = some l ∧ l.requester = .trunk x) ∧
        LoadRequested s t x (s.trunk x).target ∧
        t.matrix.image = s.matrix.image ∧ t.hv = s.hv ∧ t.benches = s.benches) ∧
    ((trunkRelays s x).closesSome (s.trunk x).target = false → (s.trunk x).config ≠ some .empty →
      exec (.releaseWaitExpiry x) s =
        .next (s.setTrunk x { s.trunk x with
          state := .settling, part := .load, settleTimer := some (s.trunk x).settleTime })) ∧
    (∀ c, (s.trunk x).waiting = some c → (trunkRelays s x).closesSome (s.trunk x).target = false →
      (s.trunk x).config = some .empty → ¬ DoneAtOnce s x c →
      ∃ t, exec (.releaseWaitExpiry x) s = .next t ∧ TakesUp s t x c none ∧ t.benches = s.benches ∧ t.hv = s.hv ∧
        t.channels = s.channels ∧ t.matrix.image = s.matrix.image ∧ t.attention = s.attention) ∧
    ((trunkRelays s x).closesSome (s.trunk x).target = false → (s.trunk x).config = some .empty → (s.trunk x).waiting = none →
      ∀ i, i = { s.trunk x with state := .idle, config := none, target := .allOpen, part := .load, settleTimer := none } →
        ((s.bench x).wait ≠ .trunk → (s.bench x).wait ≠ .allOpen → exec (.releaseWaitExpiry x) s = .next (s.setTrunk x i)) ∧
        ((s.bench x).wait = .allOpen → (s.bench x).run = .continuity →
          exec (.releaseWaitExpiry x) s =
            .next (raise x.port srcStepDone ((s.setTrunk x i).setBench x
              { s.bench x with run := .ready, sweep := none, wait := .nothing }))) ∧
        ((s.bench x).wait = .allOpen → (s.bench x).run = .insulation → (s.bench x).queued = none →
          exec (.releaseWaitExpiry x) s =
            .next (raise x.port srcStepDone ((s.setTrunk x i).setBench x
              { s.bench x with run := .ready, step := none, wait := .nothing }))) ∧
        ∀ q, (s.bench x).queued = some q → (s.bench x).wait = .allOpen → (s.bench x).run = .insulation →
          (s.hv.stepAsk.get x = true →
            exec (.releaseWaitExpiry x) s =
              .next (raise x.port srcStepDone ((s.setTrunk x i).setBench x
                { s.bench x with step := some q, queued := none, wait := .hv }))) ∧
          (s.hv.stepAsk.get x = false → s.hv.holder = some x.other →
            exec (.releaseWaitExpiry x) s =
              .next ((raise x.port srcStepDone ((s.setTrunk x i).setBench x
                { s.bench x with step := some q, queued := none, wait := .hv })).setHv
                { s.hv with stepAsk := s.hv.stepAsk.set x true,
                            line := if s.hv.line.contains x then s.hv.line else s.hv.line ++ [x] })) ∧
          (s.hv.stepAsk.get x = false → s.hv.holder = some x → s.hv.releasePending = false → q.state = .waitHv →
            ∃ t, exec (.releaseWaitExpiry x) s = .next t ∧ Configures s t x q ∧ (t.bench x).queued = none ∧
              (t.bench x).run = .insulation ∧ t.hv = { s.hv with holderStep := true, holdTimer := none } ∧
              Notified s t x.port srcStepDone))

/-- At the end of the settle time the configuration is complete in SETTLED (R11), and a continuity sweep that waits for it starts its
measurement on an idle channel with a cold trunk: a group measurement with the short threshold of the sweep header on range 3 for a range
test, else a pair measurement of the two physical points from the start range (R17, R47, R85, R98, R104). Where a newer configuration
waits it is superseded instead: no completion is reported, no measurement starts, and the trunk takes the waiting one up at once as R10
gives (R10, R12). -/
def Obligations.SettledTrunkMeasures : Prop :=
  (∀ (s : State) (x : Station), s.inReset = false → (s.trunk x).state = .settling → ∀ c, (s.trunk x).waiting = some c →
    (¬ DoneAtOnce s x c →
      ∃ t, exec (.settleTimeExpiry x) s = .next t ∧ TakesUp s t x c none ∧ t.trunk x.other = s.trunk x.other ∧
        t.benches = s.benches ∧ t.channels = s.channels ∧ t.hv = s.hv ∧ t.matrix.image = s.matrix.image ∧
        t.attention = s.attention) ∧
    (DoneAtOnce s x c → (s.bench x).wait ≠ .trunk → (s.bench x).wait ≠ .allOpen →
      exec (.settleTimeExpiry x) s =
        .next (s.setTrunk x { s.trunk x with
          state := .idle, config := none, waiting := none, target := .allOpen, part := .load, settleTimer := none }))) ∧
  ∀ (s : State) (x : Station), s.inReset = false → (s.trunk x).state = .settling → (s.trunk x).waiting = none →
    ((s.bench x).wait ≠ .trunk → (s.bench x).wait ≠ .allOpen →
      exec (.settleTimeExpiry x) s = .next (s.setTrunk x { s.trunk x with state := .settled, settleTimer := none })) ∧
    ∀ (w : Sweep) (r : RunRecord), (s.bench x).wait = .trunk → (s.bench x).run = .continuity → (s.bench x).sweep = some w →
      (s.bench x).record = some r → r.abortPending = false → (s.channel x).state = .idle →
      (s.channel x).isoPending = false → s.hot x = false →
      ∀ group : Bool, group = decide (w.phase = .isolation ∧ (s.bench x).locator.head?.map (·.state) ≠ some .confirm) →
      exec (.settleTimeExpiry x) s =
        .next (((s.setTrunk x { s.trunk x with state := .settled, settleTimer := none }).setBench x
          { s.bench x with wait := .channel }).setChannel x
          { s.channel x with
            state := .measuring, range := if group then 3 else w.start,
            inHand := some (if group then .group w.short
              else .pair (32 * (s.window x).base + w.pairA) (32 * (s.window x).base + w.pairB) w.start) })

/-- At the end of the clearing pass card presence is read and the matrix is READY (R6, R7); with a selector table not all NONE a window
load is requested at once, which writes that table and leaves the relays as the image has them, and waits for the trunks that a changing
card leaves or joins (R4, R5). After the supervisor all-open load its trunks become IDLE (R16). -/
def Obligations.HousekeepingEnds : Prop :=
  ∀ (s : State) (pres : CardSet), s.inReset = false → (s.trunk .a).waiting = none → (s.trunk .b).waiting = none →
    (s.matrix.hkWait = some .clearing → s.matrix.selTable = .none →
      exec (.housekeepingReleaseWaitExpiry pres) s =
        .next (s.setMatrix { s.matrix with presence := pres, state := .ready, hkWait := none })) ∧
    (s.matrix.hkWait = some .clearing → s.matrix.selTable ≠ .none → s.matrix.hk ≠ some .clearing →
      ∃ t, exec (.housekeepingReleaseWaitExpiry pres) s = .next t ∧ t.matrix.presence = pres ∧ t.matrix.state = .ready ∧
        (t.matrix.hk = some .window ∨ ∃ l, t.matrix.load = some l ∧ l.requester = .housekeeping .window) ∧
        ∀ i, s.matrix.image = some i → HousekeepingPlaced s t .window { relays := i.relays, sel := s.matrix.selTable }) ∧
    (s.matrix.hkWait = some .allOpen → (s.trunk .a).part = .deviceAllOpen → (s.trunk .b).part = .deviceAllOpen →
      exec (.housekeepingReleaseWaitExpiry pres) s =
        .next (s.setMatrix { s.matrix with hkWait := none, trunks := ⟨(s.trunk .a).rest, (s.trunk .b).rest⟩ }))

/-- A monitor that rises leaves an IDLE or SETTLED trunk as it stands; it makes an OPENING or CLOSING one GUARDED with its request
withdrawn, its timers stopped and the newest configuration held, and a SETTLING one GUARDED with the same configuration held (R13),
behind which a newer one waits on (R12). It cuts a running aperture, and the sweep that waited for it hands the same configuration again,
which the hot trunk holds (R13, R49, R86, R99). A trunk that waits for the supervisor's all-open load, or after a station reset for a
load of its own, shows GUARDED (R16). Two points are the model's reading: that a newer configuration waits on behind the held one of a
SETTLING trunk (log 19), and that the repeated configuration is handed with no table read, while the store is CHECKING too (log 33). -/
def Obligations.MonitorRiseGuards : Prop :=
  ∀ (s : State) (x : Station), s.inReset = false → s.hot x = false →
    ((s.channel x).state ≠ .measuring →
      ((s.trunk x).state = .idle ∨ (s.trunk x).state = .settled →
        exec (.monitorRise x) s = .next (s.setMatrix { s.matrix with hot := s.matrix.hot.set x true })) ∧
      ((s.trunk x).state = .opening ∨ (s.trunk x).state = .closing → (s.trunk x).part = .load ∨ (s.trunk x).part = .releaseWait →
        exec (.monitorRise x) s =
          .next (s.setMatrix { s.matrix with
            hot := s.matrix.hot.set x true, slots := s.matrix.slots.set x none,
            trunks := s.matrix.trunks.set x { s.trunk x with
              state := .guarded, config := (s.trunk x).waiting.or (s.trunk x).config, waiting := none, settleTimer := none,
              part := .load } })) ∧
      ((s.trunk x).state = .settling → (s.trunk x).part = .load ∨ (s.trunk x).part = .releaseWait →
        exec (.monitorRise x) s =
          .next (s.setMatrix { s.matrix with
            hot := s.matrix.hot.set x true, slots := s.matrix.slots.set x none,
            trunks := s.matrix.trunks.set x { s.trunk x with state := .guarded, settleTimer := none, part := .load } })) ∧
      ((s.trunk x).state = .opening → (s.trunk x).part = .deviceAllOpen →
        exec (.monitorRise x) s =
          .next (s.setMatrix { s.matrix with
            hot := s.matrix.hot.set x true, trunks := s.matrix.trunks.set x { s.trunk x with state := .guarded } })) ∧
      ((s.trunk x).state = .opening → (s.trunk x).part = .earlierLoad →
        exec (.monitorRise x) s =
          .next (s.setMatrix { s.matrix with
            hot := s.matrix.hot.set x true, slots := s.matrix.slots.set x none,
            trunks := s.matrix.trunks.set x { s.trunk x with
              state := .guarded, config := (s.trunk x).waiting.or (s.trunk x).config, waiting := none, settleTimer := none } }))) ∧
    ((s.channel x).state = .measuring → (s.channel x).isoPending = false → (s.trunk x).state = .settled →
      ((s.bench x).wait ≠ .channel →
        exec (.monitorRise x) s =
          .next ((s.setMatrix { s.matrix with hot := s.matrix.hot.set x true }).setChannel x
            { s.channel x with state := .idle, lastResult := some (.notTaken .cut), inHand := none })) ∧
      ∀ r, (s.bench x).record = some r → ∀ c, c = (s.bench x).handed → (s.bench x).wait = .channel → (s.bench x).sweep.isSome = true →
        (s.bench x).run = .continuity → r.abortPending = false → s.matrix.state = .ready →
        (∀ e, s.hv.energ = some e → e.trunk ≠ x) →
        exec (.monitorRise x) s =
          .next (((s.setMatrix { s.matrix with
            hot := s.matrix.hot.set x true,
            trunks := s.matrix.trunks.set x { s.trunk x with
              state := .guarded, config := some c, target := targetOf (s.window x) c, settleTimer := none, part := .load } }).setChannel x
            { s.channel x with state := .idle, lastResult := some (.notTaken .cut), inHand := none }).setBench x
            { s.bench x with wait := .trunk }))

/-- A monitor that falls lets a GUARDED trunk take up its held configuration afresh from the relay image, as R10 gives, and changes
nothing else where no source stands on its trunk (R10, R13); a housekeeping request that waited for it starts, and an UNKNOWN matrix with
both monitors cold is CLEARING with the clearing load on the chain (R5, R6); a trunk that waits for the supervisor all-open load shows
OPENING (R16). It ends a discharge on its trunk: the switch is OFF, the path released, the source OFF, the channel told, and the result
stored (R125). The step goes on by that result: at or above its threshold it ends; below it an INS-LOW is recorded or the locate begins;
an ARC is recorded; a cut for trunk not SETTLED hands the same configuration again and does not count; a failing range test splits its
range or records its one candidate, a net with its first point, and the locate goes on with the half above or the range below, whose halves that both passed are
recorded as a range; and an interrupted step ends without a defect (R142, R143, R145, R147). A pending release follows (R119). The fall of a
FAULTED trunk sets the switch OFF, releases the path and releases the holder; the latch and the source state stay (R126). Two clauses are
the model's reading: a GUARDED trunk with a load of its own in progress waits in OPENING for its end (log 20), and the same configuration
is handed again with no table read, while the store is CHECKING too (log 33). -/
def Obligations.MonitorFallReleases : Prop :=
  (∀ (s : State) (x : Station), s.inReset = false → s.hot x = true →
    ((s.trunk x).state ≠ .guarded → s.hv.energ = none → s.hv.source ≠ .faulted → s.matrix.state = .ready →
      s.matrix.hk = none → s.matrix.slots.a = none → s.matrix.slots.b = none →
      exec (.monitorFall x) s = .next (s.setMatrix { s.matrix with hot := s.matrix.hot.set x false })) ∧
    ((s.trunk x).state ≠ .guarded → s.hv.energ = none → s.hv.source ≠ .faulted → s.matrix.load = none →
      ∀ u, u = { s.matrix with hot := s.matrix.hot.set x false } →
        (s.matrix.state = .ready → ∀ k, s.matrix.hk = some k → u.mayStart k = true →
          exec (.monitorFall x) s = .next (s.setMatrix { u with load := some (u.housekeepingLoad k), hk := none })) ∧
        (s.matrix.state = .unknown → s.hot x.other = false →
          exec (.monitorFall x) s = .next (s.setMatrix { u with
            state := .clearing, hk := none,
            load := some { requester := .housekeeping .clearing,
                           contents := { relays := { drive := 0, ret := 0 }, sel := { a := 0, b := 0 } } } }))) ∧
    ((s.trunk x).state = .guarded → s.hv.energ = none → s.hv.source ≠ .faulted →
      ((s.trunk x).part = .deviceAllOpen →
        ∃ t, exec (.monitorFall x) s = .next t ∧ t.hot x = false ∧ t.trunk x = { s.trunk x with state := .opening } ∧
          t.matrix.image = s.matrix.image) ∧
      ((s.trunk x).part ≠ .deviceAllOpen → ownLoadRuns s x = true →
        ∃ t, exec (.monitorFall x) s = .next t ∧ t.hot x = false ∧
          t.trunk x = { s.trunk x with state := .opening, part := .earlierLoad } ∧ t.matrix.image = s.matrix.image ∧
          t.matrix.load = s.matrix.load ∧ t.benches = s.benches) ∧
      ((s.trunk x).part ≠ .deviceAllOpen → ownLoadRuns s x = false →
        ∀ c, (s.trunk x).config = some c → ∀ u, u = s.setMatrix { s.matrix with hot := s.matrix.hot.set x false } →
          ¬ DoneAtOnce u x c → ∃ t, exec (.monitorFall x) s = .next t ∧ TakesUp u t x c (s.trunk x).waiting)) ∧
    (∀ c, (s.trunk x).config = some c → (s.trunk x).state = .guarded → (s.trunk x).part ≠ .deviceAllOpen →
      ownLoadRuns s x = false → s.hv.energ = none →
      s.hv.source ≠ .faulted → (trunkRelays s x).opensSome (targetOf (s.window x) c) = true →
      ∃ t, exec (.monitorFall x) s = .next t ∧ t.hot x = false ∧ (t.trunk x).state = .opening ∧ (t.trunk x).config = some c ∧
        (t.trunk x).waiting = (s.trunk x).waiting ∧ (t.trunk x).target = targetOf (s.window x) c ∧
        t.matrix.image = s.matrix.image) ∧
    (∀ c, (s.trunk x).config = some c → (s.trunk x).state = .guarded → (s.trunk x).part ≠ .deviceAllOpen →
      ownLoadRuns s x = false → s.hv.energ = none →
      s.hv.source ≠ .faulted → (trunkRelays s x).opensSome (targetOf (s.window x) c) = false →
      ∃ t, exec (.monitorFall x) s = .next t ∧ t.hot x = false ∧ t.matrix.image = s.matrix.image ∧
        ((trunkRelays s x).closesSome (targetOf (s.window x) c) = true →
          (t.trunk x).state = .closing ∧ (t.trunk x).config = some c ∧ (t.trunk x).waiting = (s.trunk x).waiting ∧
          (t.trunk x).target = targetOf (s.window x) c) ∧
        ((trunkRelays s x).closesSome (targetOf (s.window x) c) = false → c ≠ .empty →
          t.trunk x = { s.trunk x with
            state := .settling, target := targetOf (s.window x) c, part := .load, settleTimer := some (s.trunk x).settleTime }) ∧
        ((trunkRelays s x).closesSome (targetOf (s.window x) c) = false → c = .empty → (s.trunk x).waiting = none →
          (s.bench x).wait = .nothing →
          t.trunk x = { s.trunk x with state := .idle, config := none, target := .allOpen, part := .load, settleTimer := none })) ∧
    (s.hv.energ = none → s.hv.source = .faulted → s.hv.sw = .to x → s.hv.holder = some x → s.hv.releasePending = true →
      s.hv.latch = some x →
      ∃ t, exec (.monitorFall x) s = .next t ∧ t.hot x = false ∧ (t.channel x).state ≠ .isolated ∧ t.hv.sw = .off ∧
        t.hv.path = false ∧ t.hv.holder = none ∧ t.hv.releasePending = false ∧ t.hv.source = .faulted ∧ t.hv.latch = some x ∧
        (s.hv.quiet = false → Notified s t x.port srcHvReleased)) ∧
    ∀ e, s.hv.energ = some e → ∀ o, o = e.outcome.getD (.cut .trunk) → e.trunk = x → e.stage = .discharging →
      (s.bench x).run = .noRun → s.hv.holder = some x → s.hv.releasePending = true → s.hv.line = [] →
      ∃ t, exec (.monitorFall x) s = .next t ∧ t.hot x = false ∧ (t.channel x).state ≠ .isolated ∧
        t.hv = { s.hv with
          sw := .off, path := false, source := .off, energ := none, holder := none, reserved := false, releasePending := false,
          quiet := false, holdTimer := none, holderStep := false,
          last := some { setpoint := e.setpoint, clamped := e.clamped, outcome := o } } ∧
        (s.hv.quiet = false → Notified s t x.port srcHvReleased)) ∧
  ∀ (s : State) (x : Station), s.inReset = false → ∀ e, s.hv.energ = some e → ∀ st, (s.bench x).step = some st →
    (s.bench x).record.isSome = true → ∀ o, o = e.outcome.getD (.cut .trunk) → StepDischarges s x e st →
    ∃ t, exec (.monitorFall x) s = .next t ∧ t.hot x = false ∧ t.hv.energ = none ∧ t.hv.source = .off ∧ t.hv.sw = .off ∧
      t.hv.path = false ∧ t.hv.last = some { setpoint := e.setpoint, clamped := e.clamped, outcome := o } ∧
      (t.channel x).state ≠ .isolated ∧
      (s.hv.holder = some x → s.hv.releasePending = true → st.interrupted = true → s.hv.line = [] → s.hv.asks x = false →
        t.hv.holder = none ∧ t.hv.releasePending = false ∧ (s.hv.quiet = false → Notified s t x.port srcHvReleased)) ∧
      (st.interrupted = true → o ≠ .fault →
        Recorded s t x false [] ∧
        (o.isCut = true → StepFinishes t x st) ∧
        (∀ cause, o = .arc cause → StepFinishes t x (st.counted none)) ∧
        ∀ v i n, o = .sampled v i n → StepFinishes t x (st.counted (some n))) ∧
      (st.interrupted = false →
        (o.isCut = true → st.state = .energise ∨ st.state = .locate →
          Recorded s t x false [] ∧ Handed t x (s.bench x).handed ∧
          (t.bench x).step = some { st with state := if st.state = .energise then .configure else st.state }) ∧
        (∀ cause, o = .arc cause →
          StepFinishes t x (st.counted none) ∧
          Recorded s t x false [{ seq := 0, kind := .arc, a := none, b := .all, selection := some st.selection,
                                  value := some e.setpoint, range := none }]) ∧
        ∀ v i n, o = .sampled v i n →
          (st.state = .energise → st.threshold ≤ n → StepFinishes t x (st.counted (some n)) ∧ Recorded s t x false []) ∧
          (st.state = .energise → n < st.threshold →
            (st.locate = false →
              StepFinishes t x (st.counted (some n)) ∧
              Recorded s t x false [{ seq := 0, kind := .insLow, a := none, b := .all, selection := some st.selection,
                                      value := some n, range := none }]) ∧
            (∀ d, st.returned = [d] → st.locate = true →
              StepFinishes t x (st.counted (some n)) ∧
              Recorded s t x false [{ seq := 0, kind := .insLow, a := none, b := .single (candidateSubject s.store.words d),
                                      selection := some st.selection, value := some n, range := none }]) ∧
            (st.locate = true → 2 ≤ st.returned.length →
              Recorded s t x false [] ∧ (t.bench x).step = some { st.counted (some n) with state := .locate } ∧
              (t.bench x).locator =
                [{ first := 0, last := (st.returned.length + 1) / 2 - 1, state := .toMeasure, value := none, halfFailed := false },
                 { first := 0, last := st.returned.length - 1, state := .lower, value := some n, halfFailed := false }] ∧
              (s.store.state = .checking → (t.bench x).wait = .read .locate) ∧
              (s.store.state ≠ .checking →
                Handed t x
                  { drive := netsPoints s.store.words st.selected,
                    ret := driversPoints s.store.words (st.returned.take ((st.returned.length + 1) / 2)) }))) ∧
          ∀ f, (s.bench x).locator.head? = some f → st.state = .locate → f.state = .toMeasure →
            ∀ rest, rest = (s.bench x).locator.tail →
            (n < st.threshold → f.first = f.last →
              LocateGoesOn s t x (st.counted (some n)) (markHalf rest)
                [{ seq := 0, kind := .insLow, a := none, b := .single (candidateSubject s.store.words (st.returned.getD f.first (.net 0))),
                   selection := some st.selection, value := some n, range := none }]) ∧
            (n < st.threshold → f.first < f.last →
              Recorded s t x false [] ∧ RangeTested s t x (st.counted (some n)) f.first (f.first + (f.last - f.first) / 2) ∧
              (t.bench x).locator =
                { first := f.first, last := f.first + (f.last - f.first) / 2, state := .toMeasure, value := none, halfFailed := false } ::
                { f with state := .lower, value := some n, halfFailed := false } :: markHalf rest) ∧
            (st.threshold ≤ n → LocateGoesOn s t x (st.counted (some n)) rest []))

/-! ## The reference store -/

/-- BEGIN LOAD, COMMIT IMAGE, ABANDON LOAD and ARM ALARM by reference state (R29, R31, R32, R42). -/
def Obligations.LoadsOpenAndClose : Prop :=
  ∀ s : State, Ready s .ps →
    (s.store.state = .loading → exec (.beginLoad .ps) s = .next (plainly .ps 0x20 .ok s)) ∧
    (s.store.state = .checking → exec (.beginLoad .ps) s = .next (plainly .ps 0x20 .busy s)) ∧
    (s.store.state = .empty ∨ s.store.state = .valid ∨ s.store.state = .faulted →
      (runOpen s .a = true ∨ runOpen s .b = true → exec (.beginLoad .ps) s = .next (plainly .ps 0x20 .runOpen s)) ∧
      (runOpen s .a = false → runOpen s .b = false →
        exec (.beginLoad .ps) s =
          .next (plainly .ps 0x20 .ok (s.setStore { s.store with
            words := if s.store.state = .empty then [] else s.store.words, state := .loading, passed := false })))) ∧
    (s.store.state = .loading →
      exec (.commitImage .ps) s =
        .next (plainly .ps 0x22 .accepted (s.setStore { s.store with state := .checking, check := some (.start .full) }))) ∧
    (s.store.state ≠ .loading → exec (.commitImage .ps) s = .next (plainly .ps 0x22 .notLoading s)) ∧
    (s.store.state = .loading →
      exec (.abandonLoad .ps) s = .next (plainly .ps 0x23 .ok (s.setStore { s.store with state := .empty, passed := false }))) ∧
    (s.store.state = .empty → exec (.abandonLoad .ps) s = .next (plainly .ps 0x23 .ok s)) ∧
    (s.store.state = .checking ∨ s.store.state = .valid ∨ s.store.state = .faulted →
      exec (.abandonLoad .ps) s = .next (plainly .ps 0x23 .notLoading s)) ∧
    exec (.armAlarm .ps) s = .next (plainly .ps 0x24 .ok (s.setStore { s.store with armed := true }))

/-- WRITE IMAGE in LOADING writes all its words in order, and every other word reads as before; words past 8207 write none, and in every
other state it is refused NOT-LOADING (R30). That no words at a start above 8208 are BAD-ARGUMENT is the model's choice (log 39), and that
121 to 123 words, which still fit a frame, are BAD-ARGUMENT its reading (log 12). -/
def Obligations.ImageWritten : Prop :=
  ∀ (s : State) (start : Word16) (words : List Word16), Ready s .ps → Memory.wf s = true → words.length ≤ 123 →
    (s.store.state ≠ .loading → exec (.writeImage .ps start words) s = .next (plainly .ps 0x21 .notLoading s)) ∧
    (s.store.state = .loading → 120 < words.length →
      exec (.writeImage .ps start words) s = .next (plainly .ps 0x21 .badArgument s)) ∧
    (s.store.state = .loading → 8208 < start.toNat + words.length →
      exec (.writeImage .ps start words) s = .next (plainly .ps 0x21 .badArgument s)) ∧
    (s.store.state = .loading → words.length ≤ 120 → start.toNat + words.length ≤ 8208 →
      ∃ m, exec (.writeImage .ps start words) s = .next (plainly .ps 0x21 .ok (s.setStore { s.store with words := m })) ∧
        (∀ k, k < words.length → imageRead m (start.toNat + k) = words.getD k 0) ∧
        ∀ a, a < start.toNat ∨ start.toNat + words.length ≤ a → imageRead m a = imageRead s.store.words a)

/-- READ IMAGE answers the words as they stand in LOADING, VALID and FAULTED, is UNREADABLE in EMPTY, waits in CHECKING, and is refused
a count of 0 or above 120 or a reach past word 8207 (R33; the payload as a list of words, log 7). -/
def Obligations.ImageReads : Prop :=
  ∀ (s : State) (p : Port) (start : Word16) (count : Byte), Ready s p →
    (count.toNat = 0 ∨ 120 < count.toNat ∨ 8208 < start.toNat + count.toNat →
      exec (.readImage p start count) s = .next (plainly p 0x25 .badArgument s)) ∧
    (1 ≤ count.toNat → count.toNat ≤ 120 → start.toNat + count.toNat ≤ 8208 →
      (s.store.state = .empty → exec (.readImage p start count) s = .next (plainly p 0x25 .unreadable s)) ∧
      (s.store.state = .checking →
        exec (.readImage p start count) s = .next (leftWaiting p (.readImage start count) s)) ∧
      (s.store.state = .loading ∨ s.store.state = .valid ∨ s.store.state = .faulted →
        exec (.readImage p start count) s =
          .next (answered p 0x25 .ok false false
            (.words ((List.range count.toNat).map (fun k => imageRead s.store.words (start.toNat + k)))) s)))

/-- The checker reads one word: the position rises by one, the word of the pass is fed to the checksum unless it is word 15, and a fault
kept stands or gives way to a lower-numbered one; a complete pass reads no more. With no fault kept, items 1 to 4 are judged after the
header in both kinds of check and item 9 after them in a full check; in a full check items 5 and 6 are judged at the words of the net
records, items 7 and 8 at the member entries where items 5 and 6 stand, and item 10 at the offsets, each with its location; a fault found
replaces one kept of a higher item, so one of items 5 to 8 that of item 9, and no other (R35 to R37). -/
def Obligations.CheckerReadsWord : Prop :=
  ∀ (s : State) (k : Check), s.inReset = false → s.store.check = some k →
    (k.complete s.store.words = true → exec .checkerWordRead s = .next s) ∧
    (k.complete s.store.words = false →
      ∃ k', exec .checkerWordRead s = .next (s.setStore { s.store with check := some k' }) ∧
        k'.pos = k.pos + 1 ∧ k'.kind = k.kind ∧
        k'.rem = (if k.pos = 15 then k.rem
          else crcWord k.rem (imageRead s.store.words (passWord (hdrNets s.store.words) (hdrMembers s.store.words) k.pos))) ∧
        (∀ f, k.fault = some f → ∃ f', k'.fault = some f' ∧ (f' = f ∨ f'.item < f.item)) ∧
        (k.pos < 15 → k'.fault = k.fault) ∧
        (k.fault = none →
          k.pos = 15 →
            (imageRead s.store.words 0 ≠ 0x4648 → k'.fault = some ⟨1, .formatTag, .none⟩) ∧
            (imageRead s.store.words 0 = 0x4648 →
              (¬ (1 ≤ hdrSpan s.store.words ∧ hdrSpan s.store.words ≤ 2048) → k'.fault = some ⟨2, .span, .none⟩) ∧
              (1 ≤ hdrSpan s.store.words ∧ hdrSpan s.store.words ≤ 2048 →
                (¬ (1 ≤ hdrNets s.store.words ∧ hdrNets s.store.words ≤ 1024) → k'.fault = some ⟨3, .netCount, .none⟩) ∧
                (1 ≤ hdrNets s.store.words ∧ hdrNets s.store.words ≤ 1024 →
                  (¬ (1 ≤ hdrMembers s.store.words ∧ hdrMembers s.store.words ≤ 2048) → k'.fault = some ⟨4, .memberCount, .none⟩) ∧
                  (1 ≤ hdrMembers s.store.words ∧ hdrMembers s.store.words ≤ 2048 →
                    (k.kind = .checksum → k'.fault = none) ∧
                    (k.kind = .full →
                      k'.fault =
                        if ¬ (1 ≤ hdrThreshold s.store.words ∧ hdrThreshold s.store.words ≤ 40000000) then
                          some ⟨9, .headerLimits, .field .continuityThreshold⟩
                        else if ¬ (100 ≤ hdrShort s.store.words ∧ hdrShort s.store.words ≤ 40000) then
                          some ⟨9, .headerLimits, .field .shortThreshold⟩
                        else if 3 < hdrStart s.store.words then some ⟨9, .headerLimits, .field .startRange⟩
                        else if ¬ (50 ≤ hdrVoltage s.store.words ∧ hdrVoltage s.store.words ≤ 1500) then
                          some ⟨9, .headerLimits, .field .insulationVoltage⟩
                        else if ¬ (10 ≤ hdrDwell s.store.words ∧ hdrDwell s.store.words ≤ 60000) then
                          some ⟨9, .headerLimits, .field .dwell⟩
                        else if ¬ (1 ≤ hdrInsulation s.store.words ∧ hdrInsulation s.store.words ≤ 60000) then
                          some ⟨9, .headerLimits, .field .insulationThreshold⟩
                        else none)))))) ∧
        (16 ≤ k.pos → k.kind = .checksum → k'.fault = k.fault) ∧
        (16 ≤ k.pos → k.kind = .full → ∀ n, n = hdrNets s.store.words → ∀ m, m = hdrMembers s.store.words →
          ∀ w, w = (imageRead s.store.words (passWord n m k.pos)).toNat → ∀ rank, rank = (k.fault.map (·.item)).getD 11 →
          (k.pos < 16 + 4 * n → ∀ i, i = (k.pos - 16) / 4 →
            ((k.pos - 16) % 4 = 0 →
              k'.count = w ∧ (k'.fault = if ¬ (1 ≤ w ∧ w ≤ 512) ∧ 5 < rank then some ⟨5, .netSize, .net i⟩ else k.fault)) ∧
            ((k.pos - 16) % 4 = 1 →
              k'.sum = k.sum + k.count ∧
              (k'.fault =
                if w ≠ k.sum ∧ 6 < rank then some ⟨6, .contiguity, .net i⟩
                else if i + 1 = n ∧ k.sum + k.count ≠ m ∧ 6 < rank then some ⟨6, .contiguity, .none⟩ else k.fault)) ∧
            (2 ≤ (k.pos - 16) % 4 → k'.fault = k.fault)) ∧
          (16 + 4 * n ≤ k.pos → k.pos < 16 + 4 * n + m →
            (rank ≤ 6 → k'.fault = k.fault) ∧
            (6 < rank → ∀ i, i = (if k.left ≠ 0 then k.net else if k.pos = 16 + 4 * n then 0 else k.net + 1) →
              k'.net = i ∧ k'.prev = some w ∧
              k'.left = (if k.left = 0 then netCount s.store.words i else k.left) - 1 ∧
              k'.seen = k.seen ||| pointSet w ∧
              (k'.fault =
                if (hdrSpan s.store.words ≤ w ∨ (k.left ≠ 0 ∧ w ≤ k.prev.getD 0 ∧ k.prev ≠ none)) ∧ 7 < rank then
                  some ⟨7, .memberOrder, .net i⟩
                else if k.seen.getLsbD w = true ∧ 8 < rank then some ⟨8, .sharedPoint, .pointNet w i⟩ else k.fault))) ∧
          (16 + 4 * n + m ≤ k.pos →
            k'.fault = if 4095 < w ∧ 10 < rank then some ⟨10, .offset, .physical (k.pos - (16 + 4 * n + m))⟩ else k.fault)))

/-- A completed check that finds no structure fault and a matching checksum makes the store VALID with the result and the reference CRC;
a joined run whose engine waits for nothing becomes READY and RUN-READY is raised; a full check raises LOAD-CHECKED (R37, R38, R67).
What waited goes on: a READ IMAGE is answered with its words (R33), a compensation ends with its value (R51), an engine held at a table
read hands its configuration, or takes its pending abort (R41, R73), and a START INSULATION is judged by its selection and accepted in
READY (R138). -/
def Obligations.CheckPassTakesEffect : Prop :=
  ∀ (s : State) (k : Check), s.inReset = false → WorkWaits s → s.store.state = .checking → s.store.check = some k →
    k.complete s.store.words = true → k.fault = none → k.rem = imageRead s.store.words 15 →
    ∃ t, exec .checkEnd s = .next t ∧
      t.store = { s.store with
        state := .valid, check := none, crc := some k.rem, passed := true, joined := [],
        lastResult := some { kind := k.kind, fault := none, stored := imageRead s.store.words 15, computed := some k.rem } } ∧
      (k.kind = .full → Notified s t .ps srcLoadChecked) ∧
      (∀ x, x ∈ s.store.joined → (s.bench x).wait = .nothing → (s.port x.port).work = none →
        (t.bench x).run = .ready ∧ Notified s t x.port srcRunReady) ∧
      (∀ p start count, (s.port p).work = some (.readImage start count) → 1 ≤ count.toNat → count.toNat ≤ 120 →
        start.toNat + count.toNat ≤ 8208 →
        (t.port p).work = none ∧
        (t.port p).response =
          some { status := .ok, echo := 0x25, clamped := false, more := false,
                 payload := .words ((List.range count.toNat).map (fun i => imageRead s.store.words (start.toNat + i))) }) ∧
      ∀ x, x ∉ s.store.joined → s.hv.stepAsk.get x = false →
        (∀ p q k, (s.channel x).inHand = some (.pair p q k) → ∀ raw, (s.channel x).lastRaw = some raw →
          (s.channel x).state = .compensating → (∀ e, s.hv.energ = some e → e.trunk ≠ x) →
          t.channel x = { s.channel x with
            state := .idle, inHand := none,
            lastResult := some (.pairValue (raw - offsetOf s.store.words p - offsetOf s.store.words q) (s.channel x).range) }) ∧
        (∀ r, (s.bench x).record = some r → r.abortPending = false →
          (∀ w, (s.bench x).sweep = some w → (s.bench x).wait = .read .pair → (s.bench x).run = .continuity →
            Handed t x
              (if w.retest then
                { drive := pointSet (memberAt s.store.words (w.netFirst + 1)),
                  ret := pointSet (memberAt s.store.words (w.netFirst + 2)) }
              else { drive := pointSet w.anchor, ret := pointSet (memberAt s.store.words (w.netFirst + w.pos)) })) ∧
          ∀ st, (s.bench x).step = some st → (s.bench x).wait = .read .step → (s.bench x).run = .insulation →
            Handed t x (stepConfig s.store.words st)) ∧
        (∀ r, (s.bench x).record = some r → r.abortPending = true → (s.bench x).wait = .read .pair → (s.bench x).run = .continuity →
          (s.bench x).sweep.isSome = true → Closed s x →
          SweepEnded (t.bench x) r .cutShort ∧ (t.bench x).banks = (s.bench x).banks) ∧
        ∀ r, (s.bench x).record = some r → r.continuity = .done → r.shorts = 0 → (s.bench x).run = .ready →
          (s.bench x).wait = .nothing →
          ∀ kind sel v d th l, (s.port x.port).work = some (.startInsulation kind sel v d th l) → ∀ c, selectionOf kind sel = some c →
          (selectedNets s.store.words c = [] ∨ returnedSet s.store.words c = [] →
            (t.port x.port).response.map (·.status) = some .emptySelection ∧ (t.bench x).run = .ready) ∧
          (selectedNets s.store.words c ≠ [] → returnedSet s.store.words c ≠ [] →
            (t.port x.port).response.map (·.status) = some .accepted ∧ (t.bench x).run = .insulation ∧
            (t.bench x).step.map (·.selected) = some (selectedNets s.store.words c))

/-- A completed check that fails makes the store FAULTED with its reason; alarm armed sets alarm active; every open run is ended and
counted INVALID-REFERENCE, joined or not; REFERENCE-FAULT is raised (R39, R41, R42, R72). An insulation step is dropped with the one
queued behind it, its energisation is cut with cause RUN-END and discharges with the release pending, its hot trunk holds the empty
configuration GUARDED, and an idle holding is released (R41, R72, R121, R128). A waiting READ IMAGE is answered with its words (R33), a
waiting compensation ends with DISCARDED and keeps code and raw value (R58), and a waiting START INSULATION finds no run (R138). The
aperture of a pair is cut as its trunk leaves SETTLED for the empty configuration (R49, R58, R72); that of a group runs on (R58, R112),
and that its trunk stays SETTLED so long is the model's reading (log 45). -/
def Obligations.CheckFailEndsRuns : Prop :=
  ∀ (s : State) (k : Check), s.inReset = false → WorkWaits s → s.store.state = .checking → s.store.check = some k →
    k.complete s.store.words = true → k.fault.isSome = true ∨ k.rem ≠ imageRead s.store.words 15 →
    (∀ x, (s.bench x).run ≠ .noRun → (s.bench x).record.isSome = true) →
    ∃ t, exec .checkEnd s = .next t ∧
      t.store = { s.store with
        state := .faulted, check := none, crc := if k.fault.isSome then s.store.crc else some k.rem, passed := false, joined := [],
        active := s.store.active || s.store.armed,
        lastResult := some { kind := k.kind, fault := some ((k.fault.map (fun f => (f.reason, f.location))).getD (.checksum, .none)),
                             stored := imageRead s.store.words 15,
                             computed := if k.fault.isSome then none else some k.rem } } ∧
      Notified s t .ps srcReferenceFault ∧
      (s.store.armed = true → ∀ p, (t.unit p).pending.getLsbD 15 = true) ∧
      (∀ p start count, (s.port p).work = some (.readImage start count) → 1 ≤ count.toNat → count.toNat ≤ 120 →
        start.toNat + count.toNat ≤ 8208 →
        (t.port p).work = none ∧
        (t.port p).response =
          some { status := .ok, echo := 0x25, clamped := false, more := false,
                 payload := .words ((List.range count.toNat).map (fun i => imageRead s.store.words (start.toNat + i))) }) ∧
      (∀ (x : Station) p q k, (s.channel x).inHand = some (.pair p q k) → (s.channel x).state = .compensating →
        (s.channel x).isoPending = false →
        t.channel x = { s.channel x with state := .idle, inHand := none, lastResult := some .discarded }) ∧
      (∀ x : Station, (s.bench x).run = .continuity → (s.channel x).state = .measuring → (∀ e, s.hv.energ = some e → e.trunk ≠ x) →
        (∀ th, (s.channel x).inHand = some (.group th) →
          t.channel x = s.channel x ∧ t.trunk x = s.trunk x ∧ (t.bench x).wait = .channel) ∧
        ∀ p q k, (s.channel x).inHand = some (.pair p q k) → (s.channel x).isoPending = false → (s.trunk x).state = .settled →
          s.matrix.state = .ready → s.hot x = false → Closed s x →
          t.channel x = { s.channel x with state := .idle, inHand := none, lastResult := some (.notTaken .cut) } ∧
          (t.trunk x).state = .opening ∧ (t.trunk x).config = some .empty ∧ (t.bench x).wait = .nothing) ∧
      (∀ x : Station, (s.bench x).run = .insulation →
        (t.bench x).step = none ∧ (t.bench x).queued = none ∧ (t.bench x).locator = [] ∧ t.hv.asks x = false ∧
        (s.matrix.state = .ready → (s.trunk x).state = .settled → (s.channel x).state ≠ .measuring → s.hot x = true →
          (t.trunk x).state = .guarded ∧ (t.trunk x).config = some .empty ∧
          ∀ e, s.hv.energ = some e → e.trunk = x → s.hv.holder = some x → s.hv.sw = .to x →
            e.stage ≠ .isolating → e.stage ≠ .connecting →
            t.hv.source = (if e.stage = .discharging then s.hv.source else .discharging) ∧
            t.hv.path = (if e.stage = .discharging then s.hv.path else true) ∧
            t.hv.energ = some { e with
              stage := .discharging, outcome := if e.stage = .discharging then e.outcome else some (e.outcome.getD (.cut .runEnd)) } ∧
            t.hv.holder = some x ∧ t.hv.reserved = false ∧ t.hv.releasePending = true)) ∧
      (∀ x : Station, (s.bench x).run ≠ .noRun → s.hv.holder = some x → s.hv.sw = .off → s.hv.energ = none →
        ¬ x.other ∈ s.hv.line →
        t.hv.holder = none ∧ t.hv.reserved = false ∧ t.hv.releasePending = false ∧
        (s.hv.quiet = false → Notified s t x.port srcHvReleased)) ∧
      (∀ (x : Station) kind sel v d th l, (s.port x.port).work = some (.startInsulation kind sel v d th l) →
        (selectionOf kind sel).isSome = true →
        (t.port x.port).work = none ∧
        (t.port x.port).response = some { status := .noRun, echo := 0x35, clamped := false, more := false, payload := .empty }) ∧
      ∀ x, (t.bench x).run = .noRun ∧
        ((s.bench x).run ≠ .noRun →
          (t.bench x).counters = { (s.bench x).counters with
            closed := (s.bench x).counters.closed + 1, invalid := (s.bench x).counters.invalid + 1 } ∧
          ∃ r, (s.bench x).record = some r ∧
            (t.bench x).summary =
              some { serial := r.serial, bank := r.bank, verdict := .invalidReference, cause := .referenceCheck })

/-! ## The measurement channels -/

/-- The end of an aperture stores code and raw value. A pair steps down with the current of the next range, is OPEN on range 3, waits
for its offsets behind a check, or ends with the compensated value; a group is CLEAN or FAIL against its threshold; the current is off
with the measurement's end, and the result is handed to the engine (R45, R46, R48, R50, R51, R53). In the isolation phase a CLEAN removes
its entry: a lower half gives way to the upper one, and a finished range whose halves were both clean is a LEAK-GROUP (R101, R103, R105).
A confirm records a SHORT, with its value or without one, and removes its entry (R104, R105). With the stack empty the next driver is
tested against all its candidates, or the phase ends DONE (R98, R109). A measurement cut by an ABORT is in ABORT's statement. The result
of a group measurement that outlives its run after a failed check is discarded (R58, R112), and that its trunk is handed the empty
configuration then is the model's reading (log 45). -/
def Obligations.ApertureJudged : Prop :=
  (∀ (s : State) (x : Station) (code : Word16), s.inReset = false → (s.bench x).run = .noRun → (s.bench x).wait = .channel →
    (s.bench x).sweep = none → (s.channel x).state = .measuring → (s.channel x).isoPending = false →
    ∀ th, (s.channel x).inHand = some (.group th) → (s.trunk x).state = .settled → s.matrix.state = .ready → s.hot x = false →
    Closed s x → (∀ e, s.hv.energ = some e → e.trunk ≠ x) →
    ∃ t, exec (.apertureEnd x code) s = .next t ∧ t.bench x = { s.bench x with wait := .nothing } ∧
      t.channel x = { s.channel x with
        state := .idle, inHand := none, lastCode := some code, lastRaw := some (rawResistance code.toNat (s.channel x).range),
        lastResult := some (groupResult code.toNat th) } ∧
      (t.trunk x).state = .opening ∧ (t.trunk x).config = some .empty ∧ t.attention = s.attention) ∧
  (∀ (s : State) (x : Station) (code : Word16), s.inReset = false → ∀ c, c = s.channel x → c.state = .measuring →
    c.isoPending = false → ∀ raw, raw = (code.toNat * multiplier c.range + 500) / 1000 →
    (c.range ≤ 3 → c.current = some (100000 / 10 ^ c.range)) ∧
    (∀ p q k, c.inHand = some (.pair p q k) →
      (60000 ≤ code.toNat → c.range < 3 →
        exec (.apertureEnd x code) s =
          .next (s.setChannel x { c with range := c.range + 1, lastCode := some code, lastRaw := some raw })) ∧
      (65520 ≤ code.toNat → 3 ≤ c.range → MeasureEnds s x code raw .openWire) ∧
      (code.toNat < 60000 ∨ (code.toNat < 65520 ∧ 3 ≤ c.range) →
        (s.store.state = .checking →
          exec (.apertureEnd x code) s =
            .next (s.setChannel x { c with state := .compensating, lastCode := some code, lastRaw := some raw })) ∧
        (s.store.state ≠ .checking →
          MeasureEnds s x code raw
            (.pairValue (raw - offsetOf s.store.words p - offsetOf s.store.words q) c.range)))) ∧
    ∀ t, c.inHand = some (.group t) → c.range = 3 →
      MeasureEnds s x code raw
        (if 65520 ≤ code.toNat then .clean none else if t * 1000 ≤ raw then .clean (some raw) else .fail raw)) ∧
  ∀ (s : State) (x : Station) (code : Word16), s.inReset = false → ∀ w, (s.bench x).sweep = some w →
    ∀ r, (s.bench x).record = some r → SweepWaits s x w r → w.phase = .isolation → w.limit = 0 → r.abortPending = false →
    ∀ v, apertureResult s x code = some v →
    ∀ top, (s.bench x).locator.head? = some top → ∀ rest, rest = (s.bench x).locator.tail →
    ∃ t, exec (.apertureEnd x code) s = .next t ∧
      (top.state = .toMeasure → ∀ o, v = .clean o →
        (rest = [] → DriverDone s t x w []) ∧
        ∀ f, rest.head? = some f →
          (f.state = .lower → f.first < f.last →
            UpperNext s t x w f rest.tail ∧ Recorded s t x true [] ∧
            (t.bench x).sweep.map (fun u => (u.groupDriver, u.groupSweep)) = some (w.groupDriver + 1, w.groupSweep + 1)) ∧
          (f.state = .upper → rest.tail = [] →
            DriverDone s t x w
              (if f.halfFailed then []
              else [{ seq := 0, kind := .leakGroup, a := some (w.subject w.driver w.driverFirst),
                      b := .range (w.driverAt f.first) (w.driverAt f.last), selection := none,
                      value := f.value.map (fun z => (z + 500) / 1000), range := some 3 }]))) ∧
      (∀ z k, v = .pairValue z k → top.state = .confirm → Confirmed s t x w top rest (some z) k) ∧
      (v = .openWire → top.state = .confirm → Confirmed s t x w top rest none 3)

/-- A group value in Ω is the raw value rounded half up; READ CHANNEL shows it with every CLEAN or FAIL result that has a value, a CLEAN
without a value has none, and a LEAK-GROUP records it (R54, R60; the payload as named content, the model's choice, log 7). -/
def Obligations.GroupOhmsRounded : Prop :=
  (∀ (s : State) (p : Port) (x : Station) (v : Nat), Ready s p →
    (s.channel x).lastResult = some (.clean (some v)) ∨ (s.channel x).lastResult = some (.fail v) →
    ∃ r : ChannelReport,
      exec (.readChannel p (stationByte x)) s = .next (answered p 0x28 .ok false false (.channel r) s) ∧
      r.lastResult = (s.channel x).lastResult ∧ r.groupOhms = some ((v + 500) / 1000) ∧
      (v ≤ 40949375 → (v + 500) / 1000 ≤ 40949)) ∧
  (∀ (s : State) (p : Port) (x : Station), Ready s p → (s.channel x).lastResult = some (.clean none) →
    ∃ r : ChannelReport,
      exec (.readChannel p (stationByte x)) s = .next (answered p 0x28 .ok false false (.channel r) s) ∧ r.groupOhms = none) ∧
  ∀ (w : Sweep) (e : Entry) (v : Nat), e.value = some v → (w.leakGroup e).value = some ((v + 500) / 1000)

/-! ## Runs -/

/-- OPEN RUN is refused RUN-OPEN, NO-REFERENCE, BUSY, WINDOW-SMALL, CARD-MISSING or PRINTER-BACKLOG in that order; accepted, the run is
CHECKING with the next serial and a free or kept bank, the other one than last time where it can be, and it joins a check, started for
it in VALID (R40, R64 to R66; the payload as named content, log 7). -/
def Obligations.RunOpened : Prop :=
  ∀ (s : State) (x : Station), Ready s x.port →
    (runOpen s x = true → exec (.openRun x.port) s = .next (plainly x.port 0x30 .runOpen s)) ∧
    (runOpen s x = false →
      (s.store.state ≠ .valid ∧ s.store.state ≠ .checking →
        exec (.openRun x.port) s = .next (plainly x.port 0x30 .noReference s)) ∧
      (s.store.state = .valid ∨ s.store.state = .checking →
        (s.matrix.state ≠ .ready ∨ (s.trunk x).state ≠ .idle →
          exec (.openRun x.port) s = .next (plainly x.port 0x30 .busy s)) ∧
        (s.matrix.state = .ready → (s.trunk x).state = .idle →
          ((s.window x).limit < (s.window x).base ∨ (s.window x).size < hdrSpan s.store.words →
            exec (.openRun x.port) s = .next (plainly x.port 0x30 .windowSmall s)) ∧
          ((s.window x).base ≤ (s.window x).limit → hdrSpan s.store.words ≤ (s.window x).size →
            (spanCards (s.window x) (hdrSpan s.store.words) &&& ~~~ s.matrix.presence ≠ 0 →
              exec (.openRun x.port) s = .next (plainly x.port 0x30 .cardMissing s)) ∧
            (spanCards (s.window x) (hdrSpan s.store.words) &&& ~~~ s.matrix.presence = 0 →
              ((∀ k, ((s.bench x).banks.get k).state ≠ .free ∧ ((s.bench x).banks.get k).state ≠ .kept) →
                exec (.openRun x.port) s = .next (plainly x.port 0x30 .printerBacklog s)) ∧
              ∀ k, (((s.bench x).banks.get k).state = .free ∨ ((s.bench x).banks.get k).state = .kept) →
                (k = (s.bench x).lastBank →
                  ((s.bench x).banks.get k.other).state ≠ .free ∧ ((s.bench x).banks.get k.other).state ≠ .kept) →
                exec (.openRun x.port) s =
                  .next (answered x.port 0x30 .accepted false false (.opened (s.bench x).nextSerial k)
                    ((s.setBench x { s.bench x with
                      run := .checking, summary := none, lastBank := k, wait := .nothing,
                      nextSerial := if (s.bench x).nextSerial = 999999 then 1 else (s.bench x).nextSerial + 1,
                      record := some { serial := (s.bench x).nextSerial, bank := k, continuity := .notDone, found := 0, shorts := 0,
                                       stepInterrupted := false, refFault := false, policy := (s.bench x).policy,
                                       abortPending := false },
                      banks := (s.bench x).banks.set k { state := .recording, records := [], unlisted := 0 } }).setStore
                      { s.store with
                        state := .checking,
                        check := if s.store.state = .checking then s.store.check else some (.start .checksum),
                        joined := s.store.joined ++ [x] })))))))

/-- CLOSE RUN by run state. In READY the verdict is counted, the bank queued for a ticket or kept, the summary written, the record
dropped, RUN-ENDED raised, and the answer carries the run's results (R69, R71, R75, R151; the payload as named content, the model's
choice, log 7). A station that holds the source, reserved or not, is released, with HV-RELEASED raised and an asking other station
granted, or where the switch does not stand OFF the release is pending; else the other station is not reached (R117, R119, R121). -/
def Obligations.RunClosed : Prop :=
  ∀ (s : State) (x : Station), Ready s x.port →
    ((s.bench x).run = .noRun → exec (.closeRun x.port) s = .next (plainly x.port 0x31 .noRun s)) ∧
    ((s.bench x).run = .checking ∨ (s.bench x).run = .continuity ∨ (s.bench x).run = .insulation →
      exec (.closeRun x.port) s = .next (plainly x.port 0x31 .busy s)) ∧
    ∀ r, (s.bench x).run = .ready → (s.bench x).record = some r → (∀ e, s.hv.energ = some e → e.trunk ≠ x) →
      ∃ t, exec (.closeRun x.port) s = .next t ∧ RunCloses s t x r ∧
        (s.hv.holder ≠ some x → t.bench x.other = s.bench x.other ∧ t.matrix = s.matrix ∧ t.hv.holder = s.hv.holder) ∧
        (s.hv.holder = some x → s.hv.sw = .off →
          (s.hv.quiet = false → Notified s t x.port srcHvReleased) ∧
          (({ s.hv with holder := none }).grantable x.other = true → s.hv.asks x.other = true → s.hv.line.contains x.other = true →
            Granted s t x.other) ∧
          (({ s.hv with holder := none }).grantable x.other = false ∨ s.hv.line.contains x.other = false →
            t.hv.holder = none ∧ t.hv.reserved = false ∧ t.hv.releasePending = false ∧ t.hv.holdTimer = none ∧
            t.hv.holderStep = false ∧ t.bench x.other = s.bench x.other ∧ t.matrix = s.matrix)) ∧
        (s.hv.holder = some x → s.hv.sw ≠ .off →
          t.hv.holder = some x ∧ t.hv.reserved = false ∧ t.hv.releasePending = true ∧ t.hv.holdTimer = none)

/-- The verdict of a run record is the first of the four tests that holds; a run ended by a station reset is INCOMPLETE whatever its
record holds (R70). -/
def Obligations.VerdictTests : Prop :=
  (∀ r : RunRecord,
    (r.refFault = true → verdictOf r = .invalidReference) ∧
    (r.refFault = false → 0 < r.found → verdictOf r = .fail) ∧
    (r.refFault = false → r.found = 0 → r.continuity = .notDone ∨ r.continuity = .cutShort ∨ r.stepInterrupted = true →
      verdictOf r = .incomplete) ∧
    (r.refFault = false → r.found = 0 → r.continuity = .done → r.stepInterrupted = false → verdictOf r = .pass)) ∧
  (∀ (s : State) (x : Station) (r : RunRecord), Ready s x.port → (s.bench x).run = .ready → (s.bench x).record = some r →
    ∃ t, exec (.closeRun x.port) s = .next t ∧ (t.bench x).summary.map (·.verdict) = some (verdictOf r)) ∧
  ∀ (s : State) (x : Station) (r : RunRecord), s.inReset = false → (s.bench x).record = some r →
    ∃ t, exec (.stationReset x.port) s = .next t ∧ (t.bench x).summary.map (·.verdict) = some .incomplete

/-- ABORT by run state: without effect in NO-RUN and READY, refused in CHECKING; it sets abort pending on a sweep whose outcome is open,
and has no effect on one whose outcome is fixed; it interrupts a step in WAIT-HV to LOCATE, sets the step-interrupted flag and drops the
queued step: a step that waits for its trunk ends, and an energisation is cut with cause ABORT, discharges on a hot trunk, and ends at
once on a cold one (R73, R74, R119, R128, R145). An abort pending is taken when the measurement in hand ends, its result discarded, or
when the trunk reports SETTLED: the sweep ends CUT-SHORT (R73). That a measurement which completes so is counted all the same, as a pair,
a range test or a confirm, is the model's reading of R81, R98 and R104 (log 42). That a cut in CONNECTING too goes through the discharge on a hot trunk is
the model's reading (log 17). -/
def Obligations.AbortAnswered : Prop :=
  (∀ (s : State) (x : Station), Closed s x → ∀ w, (s.bench x).sweep = some w → ∀ r, (s.bench x).record = some r →
    r.abortPending = true →
    (∀ code : Word16, SweepWaits s x w r → (apertureResult s x code).isSome = true →
      ∃ t, exec (.apertureEnd x code) s = .next t ∧ SweepEnded (t.bench x) r .cutShort ∧ (t.bench x).banks = (s.bench x).banks ∧
        ∀ v : Sweep, (t.bench x).sweep = some v →
          (w.phase = .connection → MeasurementsCounted w v 1 0 0) ∧
          (w.phase = .isolation → ∀ e, (s.bench x).locator.head? = some e →
            (e.state = .toMeasure → MeasurementsCounted w v 0 1 0) ∧ (e.state = .confirm → MeasurementsCounted w v 0 0 1))) ∧
    (s.inReset = false → (s.trunk x).state = .settling → (s.trunk x).waiting = none → (s.bench x).wait = .trunk →
      (s.bench x).run = .continuity →
      ∃ t, exec (.settleTimeExpiry x) s = .next t ∧ SweepEnded (t.bench x) r .cutShort ∧ (t.bench x).banks = (s.bench x).banks)) ∧
  ∀ (s : State) (x : Station), Ready s x.port →
    ((s.bench x).run = .noRun ∨ (s.bench x).run = .ready → exec (.abort x.port) s = .next (plainly x.port 0x32 .ok s)) ∧
    ((s.bench x).run = .checking → exec (.abort x.port) s = .next (plainly x.port 0x32 .busy s)) ∧
    ((s.bench x).run = .continuity → (s.bench x).wait = .allOpen →
      exec (.abort x.port) s = .next (plainly x.port 0x32 .accepted s)) ∧
    (∀ r, (s.bench x).run = .continuity → (s.bench x).wait ≠ .allOpen → (s.bench x).record = some r →
      exec (.abort x.port) s =
        .next (plainly x.port 0x32 .accepted
          (s.setBench x { s.bench x with record := some { r with abortPending := true } }))) ∧
    (∀ st, (s.bench x).run = .insulation → (s.bench x).step = some st → st.state = .finish →
      exec (.abort x.port) s = .next (plainly x.port 0x32 .accepted s)) ∧
    (∀ st r, (s.bench x).run = .insulation → (s.bench x).step = some st → st.state = .waitHv → (s.bench x).wait = .hv →
      (s.bench x).record = some r →
      ∃ t, exec (.abort x.port) s = .next t ∧ (t.port x.port).response.map (·.status) = some .accepted ∧
        (t.bench x).record = some { r with stepInterrupted := true } ∧ (t.bench x).queued = none ∧
        t.hv.stepAsk.get x = false ∧ t.bench x.other = s.bench x.other) ∧
    ∀ st, (s.bench x).run = .insulation → (s.bench x).step = some st →
      st.state = .configure ∨ st.state = .energise ∨ st.state = .locate → ∀ r, (s.bench x).record = some r →
      ∃ t, exec (.abort x.port) s = .next t ∧ (t.port x.port).response.map (·.status) = some .accepted ∧
        (t.bench x).record = some { r with stepInterrupted := true } ∧ (t.bench x).banks = (s.bench x).banks ∧
        (t.bench x).queued = none ∧ (t.bench x).locator = [] ∧
        ((s.bench x).wait ≠ .energisation →
          ((s.trunk x).state = .opening ∨ (s.trunk x).state = .closing ∨ (s.trunk x).state = .settling →
            (t.bench x).step = some { st with state := .finish, interrupted := true } ∧ (t.bench x).wait = .allOpen ∧
            (t.trunk x).waiting = some .empty) ∧
          (s.hv.holder = some x → s.hv.sw = .off → s.hv.line = [] → s.hv.asks x = false →
            (s.hv.reserved = false ∨ s.hv.releasePending = true →
              t.hv.holder = none ∧ (s.hv.quiet = false → Notified s t x.port srcHvReleased)) ∧
            (s.hv.reserved = true → s.hv.releasePending = false →
              t.hv.holder = some x ∧ t.hv.holderStep = false ∧ t.hv.holdTimer = some s.hv.limits.hold))) ∧
        ∀ e, s.hv.energ = some e → (s.bench x).wait = .energisation → e.trunk = x → s.hv.holder = some x →
          (s.hot x = true → e.stage ≠ .isolating → s.hv.sw = .to x →
            (t.bench x).step = some { st with interrupted := true } ∧
            t.hv.source = (if e.stage = .discharging then s.hv.source else .discharging) ∧
            t.hv.energ = some { e with
              stage := .discharging,
              outcome := if e.stage = .discharging then e.outcome else some (e.outcome.getD (.cut .abort)) }) ∧
          (s.hot x = false ∨ e.stage = .isolating → e.stage ≠ .discharging → e.outcome = none → (s.trunk x).state = .settled →
            s.matrix.state = .ready → Closed s x →
            StepFinishes t x { st with interrupted := true } ∧ t.hv.energ = none ∧
            t.hv.last = some { setpoint := e.setpoint, clamped := e.clamped, outcome := .cut .abort })

/-- STATION RESET is taken whatever the slots of its port hold: an open run ends INCOMPLETE and is counted, its bank is kept, no ticket
is queued, the joined run leaves the check, the port's pending set and serving stack are cleared, and the OK carries DROPPED where
anything was lost (R78, R164). Trunk X is made all-open by the shortest safe path: GUARDED while hot, OPENING while a relay of its cards
is closed, else IDLE (R16). A measurement in hand is dropped as NOT-TAKEN CUT; ISOLATED stays while the source discharges (R59). An
energisation is cut with the release pending, and an idle holding is released (R133). RUN-ENDED-X is raised on PS, in NO-RUN too (R78).
Three clauses are the model's reading: a trunk that waits for the supervisor's all-open load goes on waiting for it (log 22), one with a
load of its own in progress waits for its end whatever state it shows (log 22), and a cut in CONNECTING goes through the discharge on a
hot trunk (log 17). Said of the states in which a free chain leaves no trunk's request waiting, as ChainStaysSafe has every step keep it. -/
def Obligations.StationResetActs : Prop :=
  ∀ (s : State) (x : Station), s.inReset = false → ((s.bench x).run ≠ .noRun → (s.bench x).record.isSome = true) → ChainServed s →
    ∃ t, exec (.stationReset x.port) s = .next t ∧
      t.port x.port = { work := none, dropped := (s.port x.port).occupied || (s.port x.port).dropped, shifting := none,
                        response := some { status := .ok, echo := 0x33, clamped := false, more := false, payload := .empty },
                        lastFrame := some (s.port x.port).frameOut.frame } ∧
      t.unit x.port = { s.unit x.port with pending := if s.store.active then 1#16 <<< 15 else 0, stack := [] } ∧
      t.store = { s.store with joined := s.store.joined.filter (fun y => decide (y ≠ x)) } ∧
      t.printer = s.printer ∧ t.matrix.windows = s.matrix.windows ∧ t.matrix.state = s.matrix.state ∧ t.cause = s.cause ∧
      t.hv.asks x = false ∧ (t.channel x).inHand = none ∧ (t.channel x).isoPending = false ∧
      ((t.channel x).state = .idle ∨ (t.channel x).state = .isolated) ∧
      ((s.channel x).inHand.isSome = true → (t.channel x).lastResult = some (.notTaken .cut)) ∧
      ((∀ e, s.hv.energ = some e → e.trunk ≠ x) →
        (t.channel x).state = if (s.channel x).state = .isolated then .isolated else .idle) ∧
      (t.trunk x).waiting = none ∧ (t.trunk x).settleTime = (s.trunk x).settleTime ∧
      ((s.trunk x).state = .idle → ¬ Closed s x → ownLoadRuns s x = false → t.trunk x = { s.trunk x with waiting := none }) ∧
      ((s.trunk x).part = .deviceAllOpen → t.trunk x = { s.trunk x with waiting := none }) ∧
      ((s.trunk x).state ≠ .idle ∨ Closed s x ∨ ownLoadRuns s x = true → (s.trunk x).part ≠ .deviceAllOpen →
        (s.hot x = true → (t.trunk x).state = .guarded) ∧
        (s.hot x = false → Closed s x ∨ ownLoadRuns s x = true → (t.trunk x).state = .opening) ∧
        (ownLoadRuns s x = true → (t.trunk x).part = .earlierLoad) ∧
        (s.hot x = true ∨ Closed s x ∨ ownLoadRuns s x = true → (t.trunk x).config = some .empty ∧ (t.trunk x).target = .allOpen) ∧
        (s.hot x = false → ¬ Closed s x → ownLoadRuns s x = false → (t.trunk x).state = .idle ∧ (t.trunk x).config = none)) ∧
      (s.hv.holder = some x → s.hv.sw = .off → s.hv.energ = none → s.hv.line = [] →
        t.hv = { s.hv with
          stepAsk := s.hv.stepAsk.set x false, reserveAsk := s.hv.reserveAsk.set x false, holder := none, reserved := false,
          releasePending := false, quiet := false, holdTimer := none, holderStep := false }) ∧
      (∀ e, s.hv.energ = some e → e.trunk = x → s.hv.holder = some x → s.hv.sw = .to x → s.hot x = true →
        e.stage ≠ .isolating →
        t.hv.source = (if e.stage = .discharging then s.hv.source else .discharging) ∧
        t.hv.path = (if e.stage = .discharging then s.hv.path else true) ∧
        t.hv.energ = some { e with
          stage := .discharging, outcome := if e.stage = .discharging then e.outcome else some (e.outcome.getD (.cut .runEnd)) } ∧
        t.hv.holder = some x ∧ t.hv.reserved = false ∧ t.hv.releasePending = true ∧ t.hv.quiet = true) ∧
      (t.bench x).nextSerial = (s.bench x).nextSerial ∧ (t.bench x).policy = (s.bench x).policy ∧
      (t.bench x).run = .noRun ∧ (t.bench x).wait = .nothing ∧ Notified s t .ps (srcRunEndedOf x) ∧
      ∀ r, (s.bench x).record = some r →
        (t.bench x).record = none ∧ (t.bench x).sweep = none ∧ (t.bench x).step = none ∧
        (t.bench x).queued = none ∧ (t.bench x).locator = [] ∧
        (t.bench x).counters = (s.bench x).counters.count .incomplete ∧
        (t.bench x).summary = some { serial := r.serial, bank := r.bank, verdict := .incomplete, cause := .stationReset } ∧
        ((t.bench x).banks.get r.bank).state = .kept

/-- SET SERIAL clamps into 1 to 999,999 with the CLAMPED flag, CLEAR COUNTERS sets the five counters to 0 and leaves the serial, and
READ COUNTERS shows both; a station name other than A or B is refused (R76, R77; the payload as named content, log 7). -/
def Obligations.SerialsAndCounters : Prop :=
  (∀ (s : State) (x : Station) (v : BitVec 32), Ready s .ps →
    exec (.setSerial .ps (stationByte x) v) s =
      .next (answered .ps 0x37 .ok (decide (v.toNat < 1 ∨ 999999 < v.toNat)) false .empty
        (s.setBench x { s.bench x with nextSerial := max 1 (min 999999 v.toNat) }))) ∧
  (∀ (s : State) (x : Station), Ready s .ps →
    exec (.clearCounters .ps (stationByte x)) s =
      .next (plainly .ps 0x38 .ok
        (s.setBench x { s.bench x with counters := { closed := 0, pass := 0, fail := 0, incomplete := 0, invalid := 0 } }))) ∧
  (∀ (s : State) (p : Port) (x : Station), Ready s p →
    exec (.readCounters p (stationByte x)) s =
      .next (answered p 0x39 .ok false false (.counters (s.bench x).nextSerial (s.bench x).counters) s)) ∧
  ∀ (s : State) (a : Byte) (v : BitVec 32), Ready s .ps → a ≠ 0 → a ≠ 1 →
    exec (.setSerial .ps a v) s = .next (plainly .ps 0x37 .badArgument s) ∧
    exec (.clearCounters .ps a) s = .next (plainly .ps 0x38 .badArgument s) ∧
    exec (.readCounters .ps a) s = .next (plainly .ps 0x39 .badArgument s)

/-- START CONTINUITY is refused BAD-ARGUMENT for a scope or limit out of range and BUSY outside READY; taken in READY the run is
CONTINUITY with continuity NOT-DONE and a fresh sweep record; behind a check its first table read waits, and otherwise the pair of the
first two members of the first net that has a pair is handed to the trunk (R41, R82 to R85). -/
def Obligations.SweepStarted : Prop :=
  ∀ (s : State) (x : Station) (scope limit : Byte), Ready s x.port →
    (1 < scope.toNat ∨ 128 < limit.toNat →
      exec (.startContinuity x.port scope limit) s = .next (plainly x.port 0x34 .badArgument s)) ∧
    (∀ c, scopeOf scope = some c → limit.toNat ≤ 128 →
      ((s.bench x).run ≠ .ready → exec (.startContinuity x.port scope limit) s = .next (plainly x.port 0x34 .busy s)) ∧
      ((s.bench x).run = .ready → s.store.state = .checking →
        exec (.startContinuity x.port scope limit) s =
          .next (plainly x.port 0x34 .accepted
            (s.setBench x { s.bench x with
              run := .continuity, record := (s.bench x).record.map (fun r => { r with continuity := .notDone }),
              sweep := some (.create c limit.toNat), locator := [], wait := .read .sweepStart }))) ∧
      ∀ j, (s.bench x).run = .ready → s.store.state ≠ .checking →
        nextPaired s.store.words (hdrNets s.store.words) 0 = some j →
        ∃ t w, exec (.startContinuity x.port scope limit) s = .next t ∧
          (t.port x.port).response.map (·.status) = some .accepted ∧ (t.bench x).run = .continuity ∧
          (t.bench x).record = (s.bench x).record.map (fun r => { r with continuity := .notDone }) ∧
          (t.bench x).wait = .trunk ∧ (t.bench x).sweep = some w ∧ w.scope = c ∧ w.limit = limit.toNat ∧ w.net = j ∧ w.pos = 1 ∧
          w.held = [] ∧ w.pairs = 0 ∧
          (t.bench x).handed =
            { drive := pointSet (memberAt s.store.words (netFirst s.store.words j)),
              ret := pointSet (memberAt s.store.words (netFirst s.store.words j + 1)) })

/-- A HIGH-R of the connection phase is recorded at once: found-defect count, bank record, DEFECT (R88). A pass goes on to the next
member, or to the next net that has a pair (R84, R85, R88). An OPEN of the first pair of a net with three members or more is held, and m2
measured (R89); while it is held a pass or a HIGH-R records it first, and a second OPEN is held with it and begins the re-selection test
of m1 and m2 (R90, R91). That test moves the anchor to m1 and records the old anchor's OPEN alone where it passes, and else records what
is held (R91). The defect limit ends the sweep CUT-SHORT at the record that reaches it, with nothing recorded behind it (R92). With the
last net done the connection phase ends: a sweep of scope CONNECTION-ONLY with continuity NOT-DONE, and one of scope FULL goes on in the
isolation phase, whose table reads form the unused points and whose driver 0 is tested against all its candidates (R93, R97). In the
isolation phase a FAIL of a range test with more than one candidate splits the range and tests its lower half next, and of a single
candidate begins its confirm (R101, R102). A range test is handed with every point of the driver on DRIVE and every point of its
candidates on RETURN (R98), a confirm with the first point of each (R104). -/
def Obligations.SweepResultsTaken : Prop :=
  (∀ (s : State) (i p q : Nat) (ds : List Driver), p < 2048 → ∀ m, m = s.store.words →
    ((netPoints m i).getLsbD p = true ↔ ∃ j, j < netCount m i ∧ memberAt m (netFirst m i + j) = p) ∧
    driverPoints m (.net i) = netPoints m i ∧ (driverPoints m (.point q)).getLsbD p = decide (p = q) ∧
    (driversPoints m ds).getLsbD p = ds.any (fun d => (driverPoints m d).getLsbD p)) ∧
  (∀ (s : State) (x : Station) (code : Word16) (w : Sweep) (r : RunRecord) (p q k value : Nat), s.inReset = false →
    s.store.state ≠ .checking → (s.bench x).run = .continuity → (s.bench x).wait = .channel → (s.bench x).sweep = some w →
    w.phase = .connection → w.retest = false → w.held = [] → w.limit = 0 → (s.bench x).record = some r →
    r.abortPending = false → r.found < 65535 → (s.channel x).state = .measuring → (s.channel x).isoPending = false →
    (s.channel x).inHand = some (.pair p q k) → code.toNat < 60000 →
    value = (code.toNat * multiplier (s.channel x).range + 500) / 1000 - offsetOf s.store.words p - offsetOf s.store.words q →
    w.netThreshold < value →
    ∃ t, exec (.apertureEnd x code) s = .next t ∧ (t.bench x).record.map (·.found) = some (r.found + 1) ∧
      (t.bench x).record.map (·.shorts) = some r.shorts ∧
      (t.bench x).banks = (s.bench x).banks.set r.bank (((s.bench x).banks.get r.bank).append r.found
        { seq := r.found + 1, kind := .highR, a := some { net := some w.net, point := w.anchor },
          b := .single { net := some w.net, point := w.pairB }, selection := none, value := some value,
          range := some (s.channel x).range }) ∧
      Notified s t x.port srcDefect) ∧
  (∀ (s : State) (x : Station) (code : Word16), s.inReset = false → ∀ w, (s.bench x).sweep = some w →
    ∀ r, (s.bench x).record = some r → SweepWaits s x w r → w.phase = .connection → r.abortPending = false →
    s.store.state ≠ .checking → ∀ v, apertureResult s x code = some v →
    ∀ h : Defect,
      h = { seq := 0, kind := .highR, a := some { net := some w.net, point := w.anchor },
            b := .single { net := some w.net, point := w.pairB }, selection := none, value := pairOhms v, range := resultRange v } →
    ∃ t, exec (.apertureEnd x code) s = .next t ∧
      (w.limit = 0 → w.retest = false →
        (w.pos = 1 → 3 ≤ w.netCount → v = .openWire →
          WalksTo t x w [⟨w.anchor, w.pairB⟩] false 2 w.anchor w.anchor (memberAt s.store.words (w.netFirst + 2)) ∧
          Recorded s t x false []) ∧
        (w.pos + 1 < w.netCount →
          (w.held = [] → ¬ (w.pos = 1) → v = .openWire →
            WalksTo t x w [] false (w.pos + 1) w.anchor w.anchor (memberAt s.store.words (w.netFirst + (w.pos + 1))) ∧
            Recorded s t x false [w.openOf w.anchor w.pairB]) ∧
          ∀ z k, v = .pairValue z k →
            WalksTo t x w [] false (w.pos + 1) w.anchor w.anchor (memberAt s.store.words (w.netFirst + (w.pos + 1))) ∧
            (z ≤ w.netThreshold → Recorded s t x false (w.held.map (fun g => w.openOf g.anchor g.point))) ∧
            (w.netThreshold < z → Recorded s t x false (w.held.map (fun g => w.openOf g.anchor g.point) ++ [h]))) ∧
        (w.pos ≠ 1 → w.held ≠ [] → v = .openWire →
          WalksTo t x w (w.held ++ [⟨w.anchor, w.pairB⟩]) true w.pos w.anchor (memberAt s.store.words (w.netFirst + 1))
            (memberAt s.store.words (w.netFirst + 2)) ∧
          Recorded s t x false [])) ∧
      (w.limit = 0 → w.retest = true → 3 < w.netCount →
        (v = .openWire →
          WalksTo t x w [] false 3 w.anchor w.anchor (memberAt s.store.words (w.netFirst + 3)) ∧
          Recorded s t x false (w.held.map (fun g => w.openOf g.anchor g.point))) ∧
        ∀ z k, v = .pairValue z k →
          (w.netThreshold < z →
            WalksTo t x w [] false 3 w.anchor w.anchor (memberAt s.store.words (w.netFirst + 3)) ∧
            Recorded s t x false (w.held.map (fun g => w.openOf g.anchor g.point))) ∧
          (z ≤ w.netThreshold →
            WalksTo t x w [] false 3 w.pairA w.pairA (memberAt s.store.words (w.netFirst + 3)) ∧
            (t.bench x).sweep.map (·.reselected) = some true ∧
            Recorded s t x false [{ w.openOf w.anchor 0 with b := .absent }])) ∧
      (∀ z k, v = .pairValue z k → w.limit = 0 → w.retest = false → w.held = [] → z ≤ w.netThreshold → w.netCount ≤ w.pos + 1 →
        ∀ j, nextPaired s.store.words w.nets (w.net + 1) = some j →
        (t.bench x).sweep.map (fun u => (u.net, u.netCount, u.netFirst, u.netThreshold, u.reselected)) =
          some (j, netCount s.store.words j, netFirst s.store.words j, netThreshold s.store.words j w.threshold, false) ∧
        WalksTo t x w [] false 1 (memberAt s.store.words (netFirst s.store.words j))
          (memberAt s.store.words (netFirst s.store.words j)) (memberAt s.store.words (netFirst s.store.words j + 1)) ∧
        Recorded s t x false []) ∧
      (w.limit = 0 → w.retest = false → w.netCount ≤ w.pos + 1 → nextPaired s.store.words w.nets (w.net + 1) = none →
        (∀ z k, v = .pairValue z k →
          (z ≤ w.netThreshold → PhaseEnds s t x w (w.held.map (fun g => w.openOf g.anchor g.point))) ∧
          (w.netThreshold < z → PhaseEnds s t x w (w.held.map (fun g => w.openOf g.anchor g.point) ++ [h]))) ∧
        (v = .openWire → w.held = [] → ¬ (w.pos = 1 ∧ 3 ≤ w.netCount) → PhaseEnds s t x w [w.openOf w.anchor w.pairB])) ∧
      ∀ g, w.held = [g] → w.retest = false → w.limit = r.found + 1 → w.limit ≤ 128 → ∀ z k, v = .pairValue z k → Closed s x →
        (∀ u, ((s.bench x).recorded false [w.openOf g.anchor g.point]).record = some u → SweepEnded (t.bench x) u .cutShort) ∧
        (t.bench x).banks = ((s.bench x).recorded false [w.openOf g.anchor g.point]).banks ∧ Notified s t x.port srcDefect) ∧
  ∀ (s : State) (x : Station) (code : Word16), s.inReset = false → ∀ w, (s.bench x).sweep = some w →
    ∀ r, (s.bench x).record = some r → SweepWaits s x w r → w.phase = .isolation → r.abortPending = false →
    ∀ e, (s.bench x).locator.head? = some e → e.state = .toMeasure → e.first ≤ e.last →
    ∀ threshold, (s.channel x).inHand = some (.group threshold) →
    code.toNat < 65520 → rawResistance code.toNat 3 < threshold * 1000 →
    ∃ t, exec (.apertureEnd x code) s = .next t ∧ Recorded s t x true [] ∧
      (t.bench x).wait = locatorWait s w w.driver e.first ∧
      (e.first < e.last →
        (t.bench x).locator =
          { first := e.first, last := e.first + (e.last - e.first) / 2, state := .toMeasure, value := none, halfFailed := false } ::
          { e with state := .lower, value := some (rawResistance code.toNat 3), halfFailed := false } ::
          markHalf (s.bench x).locator.tail ∧
        RangeHanded s t x w w.driver e.first (e.first + (e.last - e.first) / 2)) ∧
      (e.first = e.last →
        (t.bench x).locator =
          { e with state := .confirm, value := some (rawResistance code.toNat 3) } :: markHalf (s.bench x).locator.tail ∧
        ConfirmHanded s t x w e.first)

/-- START INSULATION is refused BAD-ARGUMENT, NO-RUN, PREREQUISITE, EMPTY-SELECTION or BUSY in that order, its judgement waits behind a
check, and an accepted step is queued behind one in progress. On a run in READY the step of the holder, or of a station that is granted
at once, enters CONFIGURE with its holder step in progress; else it waits in WAIT-HV with its step ask set (R116, R117, R136 to R140).
The selected nets are the nets not excluded that the selection names, by index, by class under its mask, or by two classes, and the
returned set is the other nets not excluded in index order, then the unused points in ascending order (R137). That any locate byte but 0
sets locate (log 9), and the payload as named content (log 7), are the model's choices; that the first two refusals do not wait behind
the check (log 23), and that the selected nets and the returned set are taken at acceptance (log 37), are its readings. -/
def Obligations.StepAnswered : Prop :=
  (∀ (s : State) (i n : Nat) (v k : Byte), ∀ m, m = s.store.words →
    (i ∈ selectedNets m (.net n) ↔ i = n ∧ i < hdrNets m ∧ netExcluded m i = false) ∧
    (i ∈ selectedNets m (.classMask v k) ↔ i < hdrNets m ∧ netExcluded m i = false ∧
      ∀ b, b < 8 → k.getLsbD b = false → (netClass m i).getLsbD b = v.getLsbD b) ∧
    (i ∈ selectedNets m (.classPair v k) ↔ i < hdrNets m ∧ netExcluded m i = false ∧ (netClass m i = v ∨ netClass m i = k))) ∧
  (∀ (s : State) (kind : Byte) (selection : Word16), ∀ sel, selectionOf kind selection = some sel → ∀ m, m = s.store.words →
    (selectedNets m sel).Pairwise (· < ·) ∧
    (hdrSpan m ≤ 2048 →
      returnedSet m sel =
        ((List.range (hdrNets m)).filter (fun i => !netExcluded m i && decide (i ∉ selectedNets m sel))).map .net ++
        ((List.range (hdrSpan m)).filter (fun p => decide (∀ j, j < hdrMembers m → memberAt m j ≠ p))).map .point)) ∧
  ∀ (s : State) (x : Station) (kind locate : Byte) (selection voltage dwell threshold : Word16), Ready s x.port →
    (selectionOf kind selection = none →
      exec (.startInsulation x.port kind selection voltage dwell threshold locate) s =
        .next (plainly x.port 0x35 .badArgument s)) ∧
    ∀ sel, selectionOf kind selection = some sel →
      ((s.bench x).record = none →
        exec (.startInsulation x.port kind selection voltage dwell threshold locate) s =
          .next (plainly x.port 0x35 .noRun s)) ∧
      ∀ r, (s.bench x).record = some r →
        (r.continuity ≠ .done ∨ r.shorts ≠ 0 →
          exec (.startInsulation x.port kind selection voltage dwell threshold locate) s =
            .next (plainly x.port 0x35 .prerequisite s)) ∧
        (r.continuity = .done → r.shorts = 0 →
          (s.store.state = .checking →
            exec (.startInsulation x.port kind selection voltage dwell threshold locate) s =
              .next (leftWaiting x.port (.startInsulation kind selection voltage dwell threshold locate) s)) ∧
          (s.store.state ≠ .checking →
            (selectedNets s.store.words sel = [] ∨ returnedSet s.store.words sel = [] →
              exec (.startInsulation x.port kind selection voltage dwell threshold locate) s =
                .next (plainly x.port 0x35 .emptySelection s)) ∧
            (selectedNets s.store.words sel ≠ [] → returnedSet s.store.words sel ≠ [] →
              ((s.bench x).run = .checking ∨ (s.bench x).run = .continuity ∨
                  ((s.bench x).run = .insulation ∧ (s.bench x).queued.isSome = true) →
                exec (.startInsulation x.port kind selection voltage dwell threshold locate) s =
                  .next (plainly x.port 0x35 .busy s)) ∧
              ∀ (st : StepRecord) (clamped : Bool),
                st = { selection := sel, selected := selectedNets s.store.words sel, returned := returnedSet s.store.words sel,
                       voltage := if voltage = 0 then hdrVoltage s.store.words else max 50 (min 1500 voltage.toNat),
                       dwell := if dwell = 0 then hdrDwell s.store.words else max 10 (min 60000 dwell.toNat),
                       threshold := if threshold = 0 then hdrInsulation s.store.words else min 60000 threshold.toNat,
                       locate := decide (locate ≠ 0), state := .waitHv, energisations := 0, lastRins := none, clamped := false,
                       interrupted := false } →
                clamped = (decide (voltage ≠ 0 ∧ (voltage.toNat < 50 ∨ 1500 < voltage.toNat)) ||
                  decide (dwell ≠ 0 ∧ (dwell.toNat < 10 ∨ 60000 < dwell.toNat)) || decide (60000 < threshold.toNat)) →
                ((s.bench x).run = .insulation → (s.bench x).queued = none →
                  exec (.startInsulation x.port kind selection voltage dwell threshold locate) s =
                    .next (answered x.port 0x35 .accepted clamped false (.stepTaken true)
                      (s.setBench x { s.bench x with queued := some st }))) ∧
                ((s.bench x).run = .ready → s.hv.holder = some x → s.hv.releasePending = false →
                  (∀ e, s.hv.energ = some e → e.trunk ≠ x) →
                  ∃ t, exec (.startInsulation x.port kind selection voltage dwell threshold locate) s = .next t ∧
                    (t.port x.port).response = some { status := .accepted, echo := 0x35, clamped := clamped, more := false,
                                                      payload := .stepTaken false } ∧
                    (t.bench x).run = .insulation ∧ Configures s t x st ∧
                    t.hv = { s.hv with holderStep := true, holdTimer := none }) ∧
                ((s.bench x).run = .ready → (s.hv.setStepAsk x true).next = some x →
                  (∀ e, s.hv.energ = some e → e.trunk ≠ x) →
                  ∃ t, exec (.startInsulation x.port kind selection voltage dwell threshold locate) s = .next t ∧
                    (t.port x.port).response = some { status := .accepted, echo := 0x35, clamped := clamped, more := false,
                                                      payload := .stepTaken false } ∧
                    (t.bench x).run = .insulation ∧ Configures s t x st ∧ t.hv.holder = some x ∧ t.hv.holderStep = true ∧
                    t.hv.reserved = s.hv.reserveAsk.get x ∧ t.hv.string = 0 ∧ t.hv.holdTimer = none ∧ t.hv.asks x = false ∧
                    Notified s t x.port srcHvGranted) ∧
                ((s.bench x).run = .ready → s.hv.holder ≠ some x ∨ s.hv.releasePending = true →
                  (s.hv.setStepAsk x true).next = none →
                  exec (.startInsulation x.port kind selection voltage dwell threshold locate) s =
                    .next (answered x.port 0x35 .accepted clamped false (.stepTaken false)
                      ((s.setBench x { s.bench x with run := .insulation, step := some st, wait := .hv }).setHv
                        (s.hv.setStepAsk x true)))))))

/-! ## The high-voltage source -/

/-- SET HV LIMIT clamps the named limit into its range, the cap to the build maximum, with the CLAMPED flag, and is refused any other
limit name (R115). -/
def Obligations.LimitsSet : Prop :=
  ∀ (s : State) (v : Word16), Ready s .ps →
    (∀ c, c = clampTo 50 (buildVolts s.hv.build) v.toNat →
      exec (.setHvLimit .ps 0 v) s =
        .next (answered .ps 0x41 .ok (decide (c ≠ v.toNat)) false .empty
          (s.setHv { s.hv with limits := { s.hv.limits with cap := c } }))) ∧
    exec (.setHvLimit .ps 1 v) s =
      .next (answered .ps 0x41 .ok (decide (v.toNat < 1 ∨ 10 < v.toNat)) false .empty
        (s.setHv { s.hv with limits := { s.hv.limits with ramp := max 1 (min 10 v.toNat) } })) ∧
    exec (.setHvLimit .ps 2 v) s =
      .next (answered .ps 0x41 .ok (decide (v.toNat < 100 ∨ 2000 < v.toNat)) false .empty
        (s.setHv { s.hv with limits := { s.hv.limits with trip := max 100 (min 2000 v.toNat) } })) ∧
    exec (.setHvLimit .ps 3 v) s =
      .next (answered .ps 0x41 .ok (decide (v.toNat < 100 ∨ 5000 < v.toNat)) false .empty
        (s.setHv { s.hv with limits := { s.hv.limits with hold := max 100 (min 5000 v.toNat) } })) ∧
    exec (.setHvLimit .ps 4 v) s =
      .next (answered .ps 0x41 .ok (decide (v.toNat < 1 ∨ 64 < v.toNat)) false .empty
        (s.setHv { s.hv with limits := { s.hv.limits with string := max 1 (min 64 v.toNat) } })) ∧
    ∀ n : Byte, 4 < n.toNat → exec (.setHvLimit .ps n v) s = .next (plainly .ps 0x41 .badArgument s)

/-- SET HV PERMISSION is refused BAD-ARGUMENT, and LOCKED while the permission is locked; a write on the same side changes nothing else; a
bar takes the source from an idle holder, with HV-RELEASED raised, interrupts the holder's step, drops its queued step, and cuts an
energisation with cause BARRED under a pending release, with no INTERLOCK (R114, R119, R128, R131, R145); an allowing permission over a
barring one grants the asking station that is next (R116, R117). That a value outside the four is BAD-ARGUMENT under a lock too is the
model's reading (log 46). -/
def Obligations.PermissionSet : Prop :=
  ∀ (s : State) (v : Byte), Ready s .ps →
    (permissionOf v = none → exec (.setHvPermission .ps v) s = .next (plainly .ps 0x40 .badArgument s)) ∧
    ∀ q, permissionOf v = some q →
      (s.hv.permission = .permittedLocked ∨ s.hv.permission = .barredLocked →
        exec (.setHvPermission .ps v) s = .next (plainly .ps 0x40 .locked s)) ∧
      (s.hv.permission = .permitted ∨ s.hv.permission = .barred →
        (q.allows = s.hv.permission.allows ∨ (q.allows = false ∧ s.hv.holder = none) ∨ (q.allows = true ∧ s.hv.line = []) →
          exec (.setHvPermission .ps v) s = .next (plainly .ps 0x40 .ok (s.setHv { s.hv with permission := q }))) ∧
        (∀ x, s.hv.permission = .permitted → q.allows = false → s.hv.holder = some x → s.hv.sw = .off → s.hv.quiet = false →
          (s.bench x).step = none →
          exec (.setHvPermission .ps v) s =
            .next (plainly .ps 0x40 .ok (raise x.port srcHvReleased (s.setHv { s.hv with
              permission := q, holder := none, reserved := false, releasePending := false, holdTimer := none,
              holderStep := false })))) ∧
        (∀ x st, s.hv.permission = .permitted → q.allows = false → s.hv.holder = some x → (s.bench x).step = some st →
          ∃ t, exec (.setHvPermission .ps v) s = .next t ∧ (t.port .ps).response.map (·.status) = some .ok ∧
            t.hv.permission = q ∧ t.bench x.other = s.bench x.other ∧
            (st.state = .finish → s.hv.sw = .off →
              (t.bench x).step = some st ∧ (t.bench x).queued = none ∧ t.hv.holder = none ∧
              (s.hv.quiet = false → Notified s t x.port srcHvReleased)) ∧
            (st.state ≠ .finish → (s.bench x).wait ≠ .energisation → s.hv.sw = .off →
              (s.trunk x).state = .opening ∨ (s.trunk x).state = .closing ∨ (s.trunk x).state = .settling →
              (t.bench x).step = some { st with state := .finish, interrupted := true } ∧ (t.bench x).queued = none ∧
              (t.trunk x).waiting = some .empty ∧ t.hv.holder = none ∧
              (s.hv.quiet = false → Notified s t x.port srcHvReleased)) ∧
            ∀ e, s.hv.energ = some e → e.trunk = x → e.stage = .ramping ∨ e.stage = .dwelling ∨ e.stage = .sampling →
              s.hv.sw = .to x → e.outcome = none → s.hot x = true → st.state ≠ .finish → (s.bench x).wait = .energisation →
              t.hv.source = .discharging ∧ t.hv.path = true ∧
              t.hv.energ = some { e with stage := .discharging, outcome := some (.cut .barred) } ∧ t.hv.releasePending = true ∧
              t.hv.reserved = false ∧ (t.bench x).step = some { st with interrupted := true } ∧ (t.bench x).queued = none ∧
              t.attention = s.attention) ∧
        ∀ y, ({ s.hv with permission := q }).next = some y → s.hv.permission = .barred →
          ∃ t, exec (.setHvPermission .ps v) s = .next t ∧ (t.port .ps).response.map (·.status) = some .ok ∧
            t.hv.permission = q ∧ Granted s t y)

/-- RESERVE HV is refused HV-BARRED, INTERLOCK or HV-FAULT in that order; a holder is reserved, with the hold timer afresh where no step
is in progress, and refused BUSY under a pending release; with another holder the reserve ask is set; with none the station is granted
(R116, R118, R120). -/
def Obligations.ReserveAnswered : Prop :=
  ∀ (s : State) (x : Station), Ready s x.port →
    (s.hv.permission.allows = false → exec (.reserveHv x.port) s = .next (plainly x.port 0x43 .hvBarred s)) ∧
    (s.hv.permission.allows = true →
      (s.hv.estop = true ∨ s.hv.lidClosed.get x = false →
        exec (.reserveHv x.port) s = .next (plainly x.port 0x43 .interlock s)) ∧
      (s.hv.estop = false → s.hv.lidClosed.get x = true →
        (s.hv.latch ≠ none → exec (.reserveHv x.port) s = .next (plainly x.port 0x43 .hvFault s)) ∧
        (s.hv.latch = none →
          (s.hv.holder = some x → s.hv.releasePending = true →
            exec (.reserveHv x.port) s = .next (plainly x.port 0x43 .busy s)) ∧
          (s.hv.holder = some x → s.hv.releasePending = false →
            exec (.reserveHv x.port) s =
              .next (plainly x.port 0x43 .ok (s.setHv { s.hv with
                reserved := true, holdTimer := if s.hv.holderStep then s.hv.holdTimer else some s.hv.limits.hold }))) ∧
          (s.hv.holder = some x.other → s.hv.reserveAsk.get x = true →
            exec (.reserveHv x.port) s = .next (plainly x.port 0x43 .accepted s)) ∧
          (s.hv.holder = some x.other → s.hv.reserveAsk.get x = false →
            exec (.reserveHv x.port) s = .next (plainly x.port 0x43 .accepted (s.setHv { s.hv with
              reserveAsk := s.hv.reserveAsk.set x true,
              line := if s.hv.line.contains x then s.hv.line else s.hv.line ++ [x] }))) ∧
          (s.hv.holder = none → s.hv.stepAsk.get x = false →
            ∃ t, exec (.reserveHv x.port) s = .next t ∧ (t.port x.port).response.map (·.status) = some .ok ∧
              t.hv.holder = some x ∧ t.hv.reserved = true ∧ t.hv.string = 0 ∧ t.hv.holderStep = false ∧
              t.hv.holdTimer = some s.hv.limits.hold ∧ t.hv.asks x = false ∧ t.hv.source = s.hv.source ∧ t.hv.sw = s.hv.sw ∧
              t.benches = s.benches ∧ t.matrix = s.matrix ∧ Notified s t x.port srcHvGranted))))

/-- RELEASE HV and the end of the hold timer release an idle holder with the switch OFF and raise HV-RELEASED, and an asking station that
is next is granted; with a holder step in progress or a release pending only the reservation is cleared; an asking station loses its
reserve ask only (R116 to R121). At the end of a step the holder keeps the source for a queued step or a reservation, the string counted
while the other station waits; at the string limit it is released with its asks set anew behind the waiting station, and the arbiter
grants that station, or where its conditions do not hold the released one again, or neither (R117); with neither it is released (R119,
R120). That a HOLD_TIMER_EXPIRY with no timer running changes nothing (log 2), and is else the expiry of the timer that runs (log 52), are
the model's readings. -/
def Obligations.HoldingReleased : Prop :=
  ∀ (s : State) (x : Station),
    (s.inReset = false → s.hv.holdTimer.isSome = true → s.hv.holder = some x → s.hv.sw = .off →
      ({ s.hv with holder := none }).next = none → s.hv.quiet = false →
      exec .holdTimerExpiry s =
        .next (raise x.port srcHvReleased (s.setHv { s.hv with
          holder := none, reserved := false, releasePending := false, holdTimer := none, holderStep := false }))) ∧
    (s.inReset = false → s.hv.holdTimer = none → exec .holdTimerExpiry s = .next s) ∧
    (Ready s x.port →
      (s.hv.holder = some x → s.hv.holderStep = false → s.hv.releasePending = false → s.hv.sw = .off →
        ({ s.hv with holder := none }).next = none → s.hv.quiet = false →
        exec (.releaseHv x.port) s =
          .next (plainly x.port 0x44 .ok (raise x.port srcHvReleased (s.setHv { s.hv with
            holder := none, reserved := false, releasePending := false, holdTimer := none, holderStep := false })))) ∧
      (s.hv.holder = some x → s.hv.holderStep = true ∨ s.hv.releasePending = true →
        exec (.releaseHv x.port) s =
          .next (plainly x.port 0x44 .ok (s.setHv { s.hv with reserved := false, holdTimer := none }))) ∧
      (s.hv.holder ≠ some x → s.hv.stepAsk.get x = true → s.hv.line.contains x = true →
        exec (.releaseHv x.port) s =
          .next (plainly x.port 0x44 .ok (s.setHv { s.hv with reserveAsk := s.hv.reserveAsk.set x false }))) ∧
      (s.hv.holder ≠ some x → s.hv.stepAsk.get x = false → s.hv.reserveAsk.get x = true →
        exec (.releaseHv x.port) s =
          .next (plainly x.port 0x44 .ok (s.setHv { s.hv with
            reserveAsk := s.hv.reserveAsk.set x false, line := s.hv.line.filter (fun y => decide (y ≠ x)) }))) ∧
      (s.hv.holder ≠ some x → s.hv.asks x = false → exec (.releaseHv x.port) s = .next (plainly x.port 0x44 .ok s))) ∧
    (∀ y, ({ s.hv with holder := none }).next = some y → s.hv.holder = some x → s.hv.sw = .off →
      (s.inReset = false → s.hv.holdTimer.isSome = true →
        ∃ t, exec .holdTimerExpiry s = .next t ∧ Granted s t y ∧ (s.hv.quiet = false → Notified s t x.port srcHvReleased)) ∧
      (Ready s x.port → s.hv.holderStep = false → s.hv.releasePending = false →
        ∃ t, exec (.releaseHv x.port) s = .next t ∧ (t.port x.port).response.map (·.status) = some .ok ∧ Granted s t y ∧
          (s.hv.quiet = false → Notified s t x.port srcHvReleased))) ∧
    ∀ e, s.hv.energ = some e → ∀ st, (s.bench x).step = some st → StepDischarges s x e st → s.hv.holder = some x →
      s.hv.releasePending = false → st.interrupted = false → st.state = .energise → s.hv.asks x = false →
      ∀ o, e.outcome = some o → ∀ v i n, o = .sampled v i n → st.threshold ≤ n →
      ∀ h, h = { s.hv with
        sw := .off, path := false, source := .off, energ := none, holderStep := false,
        last := some { setpoint := e.setpoint, clamped := e.clamped, outcome := o },
        holdTimer := if s.hv.reserved then some s.hv.limits.hold else s.hv.holdTimer } →
      ∃ t, exec (.monitorFall x) s = .next t ∧
        ((s.bench x).queued.isSome = true ∨ s.hv.reserved = true →
          (s.hv.line = [] → t.hv = h) ∧
          (s.hv.line = [x.other] → min (s.hv.string + 1) 64 < s.hv.limits.string →
            t.hv = { h with string := min (s.hv.string + 1) 64 }) ∧
          (s.hv.line = [x.other] → s.hv.limits.string ≤ min (s.hv.string + 1) 64 →
            (s.hv.quiet = false → Notified s t x.port srcHvReleased) ∧
            (({ s.hv with holder := none }).grantable x.other = true →
              Granted s t x.other ∧ t.hv.stepAsk.get x = (s.bench x).queued.isSome ∧ t.hv.reserveAsk.get x = s.hv.reserved ∧
              t.hv.line = [x]) ∧
            (({ s.hv with holder := none }).grantable x.other = false → ({ s.hv with holder := none }).grantable x = true →
              t.hv.holder = some x ∧ t.hv.asks x = false ∧ t.hv.line = [x.other] ∧ t.hv.string = 0 ∧
              t.hv.holderStep = (s.bench x).queued.isSome ∧ t.hv.reserved = (s.hv.reserved || (s.bench x).queued.isNone) ∧
              t.hv.holdTimer = (if (s.bench x).queued.isSome then none else some s.hv.limits.hold) ∧
              Notified s t x.port srcHvGranted) ∧
            (({ s.hv with holder := none }).grantable x.other = false → ({ s.hv with holder := none }).grantable x = false →
              t.hv.holder = none ∧ t.hv.stepAsk.get x = (s.bench x).queued.isSome ∧ t.hv.reserveAsk.get x = s.hv.reserved ∧
              t.hv.line = [x.other, x]))) ∧
        ((s.bench x).queued = none → s.hv.reserved = false →
          (s.hv.quiet = false → Notified s t x.port srcHvReleased) ∧ t.hv.asks x = false ∧
          (s.hv.line = [] → t.hv.holder = none) ∧
          (s.hv.line = [x.other] → ({ s.hv with holder := none }).grantable x.other = true → Granted s t x.other))

/-- A step in CONFIGURE or in LOCATE whose trunk settles asks for its energisation, with the dwell of the step or with the locate dwell
of 200 ms: the record takes the setpoint rounded down to 10 V and clamped into 50 V to the cap, the limits as they stand, and on an idle
channel the switch is set TO-X and the channel ISOLATED (R55, R122, R141, R143); the step record keeps that a setpoint of it was clamped
(R135). -/
def Obligations.EnergisationBegins : Prop :=
  ∀ (s : State) (x : Station) (st : StepRecord) (v : Nat), s.inReset = false → (s.trunk x).state = .settling →
    (s.trunk x).waiting = none → (s.bench x).wait = .trunk → (s.bench x).run = .insulation → (s.bench x).step = some st →
    st.state = .configure ∨ st.state = .locate → s.hv.holder = some x → s.hv.releasePending = false → s.hv.energ = none →
    (s.channel x).state = .idle → 50 ≤ s.hv.limits.cap → v = max 50 (min s.hv.limits.cap (st.voltage / 10 * 10)) →
    exec (.settleTimeExpiry x) s =
      .next ((((s.setTrunk x { s.trunk x with state := .settled, settleTimer := none }).setBench x
        { s.bench x with
          step := some { st with
            state := if st.state = .configure then .energise else .locate, clamped := st.clamped || decide (v ≠ st.voltage) },
          wait := .energisation }).setHv
        { s.hv with
          sw := .to x,
          energ := some { trunk := x, setpoint := v, clamped := decide (v ≠ st.voltage),
                          dwell := if st.state = .configure then st.dwell else 200, ramp := s.hv.limits.ramp,
                          trip := s.hv.limits.trip, stage := .connecting, outcome := none } }).setChannel x
        { s.channel x with state := .isolated })

/-- TRANSFER_SWITCH_CLOSED in CONNECTING begins RAMPING, HVV at the setpoint begins DWELLING, the end of the dwell begins SAMPLING; at
its end the averages are stored in whole volts and nanoamperes with the insulation resistance, 60,000 MΩ for no current and never more,
and on a hot trunk the source is DISCHARGING with the path engaged; none of them acts in another stage (R122, R123, R125, R132). That
the discharge path is off from RAMPING on (log 18), and that an event in another stage or with no energisation changes nothing (log 2),
are the model's readings; that the readings come as operands in V, mV and pA is its choice (log 13). -/
def Obligations.StagesAdvance : Prop :=
  (∀ (s : State) (hvv : Nat), s.inReset = false →
    (∀ e, s.hv.energ = some e →
      (e.stage = .connecting →
        exec .transferSwitchClosed s =
          .next (s.setHv { s.hv with path := false, source := .ramping, energ := some { e with stage := .ramping } })) ∧
      (e.stage ≠ .connecting → exec .transferSwitchClosed s = .next s) ∧
      (e.stage = .ramping → e.setpoint ≤ hvv →
        exec (.hvSetpointReached hvv) s =
          .next (s.setHv { s.hv with source := .dwelling, energ := some { e with stage := .dwelling } })) ∧
      (e.stage ≠ .ramping ∨ hvv < e.setpoint → exec (.hvSetpointReached hvv) s = .next s) ∧
      (e.stage = .dwelling →
        exec .dwellExpiry s = .next (s.setHv { s.hv with source := .sampling, energ := some { e with stage := .sampling } })) ∧
      (e.stage ≠ .dwelling → exec .dwellExpiry s = .next s)) ∧
    (s.hv.energ = none →
      exec .transferSwitchClosed s = .next s ∧ exec (.hvSetpointReached hvv) s = .next s ∧ exec .dwellExpiry s = .next s)) ∧
  ∀ (s : State) (e : Energisation) (milliVolts picoAmps r : Nat), s.inReset = false → s.hv.energ = some e →
    (e.stage = .sampling → s.hot e.trunk = true →
      r = (if picoAmps / 1000 = 0 then 60000 else min 60000 (milliVolts / 1000 * 1000 / (picoAmps / 1000))) →
      exec (.sampleEnd milliVolts picoAmps) s =
        .next (s.setHv { s.hv with
          path := true, source := .discharging,
          energ := some { e with stage := .discharging, outcome := some (.sampled (milliVolts / 1000) (picoAmps / 1000) r) } })) ∧
    (e.stage ≠ .sampling → exec (.sampleEnd milliVolts picoAmps) s = .next s)

/-- HVI at or above the trip current in RAMPING or DWELLING, HVV below 80 % of the setpoint in DWELLING, and the ramp timeout in RAMPING
end the energisation with an ARC (R124). That the readings come as operands, and one short of its condition changes nothing, is the
model's choice (log 13); that such an event in another stage changes nothing is its reading (log 2). -/
def Obligations.ArcsEnd : Prop :=
  ∀ (s : State) (e : Energisation) (hvi hvv : Nat), s.inReset = false → s.hv.energ = some e → s.hot e.trunk = true →
    (e.stage = .ramping ∨ e.stage = .dwelling → e.trip * 1000 ≤ hvi →
      exec (.hvTripCurrent hvi) s =
        .next (s.setHv { s.hv with
          path := true, source := .discharging,
          energ := some { e with stage := .discharging, outcome := some (.arc .tripCurrent) } })) ∧
    ((e.stage ≠ .ramping ∧ e.stage ≠ .dwelling) ∨ hvi < e.trip * 1000 → exec (.hvTripCurrent hvi) s = .next s) ∧
    (e.stage = .dwelling → hvv * 10 < e.setpoint * 8 →
      exec (.hvSag hvv) s =
        .next (s.setHv { s.hv with
          path := true, source := .discharging, energ := some { e with stage := .discharging, outcome := some (.arc .sag) } })) ∧
    (e.stage ≠ .dwelling ∨ e.setpoint * 8 ≤ hvv * 10 → exec (.hvSag hvv) s = .next s) ∧
    (e.stage = .ramping →
      exec .rampTimeout s =
        .next (s.setHv { s.hv with
          path := true, source := .discharging,
          energ := some { e with stage := .discharging, outcome := some (.arc .rampTimeout) } })) ∧
    (e.stage ≠ .ramping → exec .rampTimeout s = .next s)

/-- A discharge whose trunk still reads hot at its timeout sets the fault latch and the source FAULTED; the switch stays, the result
FAULT is stored, the reservation is cleared, the release pending, and HV-FAULT raised; the step is interrupted and the queued one
dropped, also where the step had been interrupted before; a cold trunk leaves the timeout without effect (R126). CLEAR HV FAULT is
answered OK with a clear latch, refused BUSY while the monitor of the latched trunk reads hot, and otherwise clears latch and source
state (R127), after which an asking station that is next is granted (R116, R117). -/
def Obligations.DischargeFault : Prop :=
  (∀ (s : State) (e : Energisation), s.inReset = false → s.hv.energ = some e → e.stage = .discharging →
    (s.hot e.trunk = true → s.hv.holder = some e.trunk → s.hv.sw = .to e.trunk →
      ∃ t, exec .dischargeTimeout s = .next t ∧ t.hv.latch = some e.trunk ∧ t.hv.source = .faulted ∧ t.hv.energ = none ∧
        t.hv.sw = .to e.trunk ∧ t.hv.path = s.hv.path ∧ t.hv.holder = some e.trunk ∧ t.hv.reserved = false ∧
        t.hv.releasePending = true ∧
        t.hv.last = some { setpoint := e.setpoint, clamped := e.clamped, outcome := .fault } ∧ Notified s t .ps srcHvFault ∧
        ∀ st, (s.bench e.trunk).step = some st → ∀ r, (s.bench e.trunk).record = some r → StepDischarges s e.trunk e st →
          (t.bench e.trunk).step.map (fun u => (u.state, u.interrupted)) = some (.finish, true) ∧
          (t.bench e.trunk).record = some { r with stepInterrupted := true } ∧ (t.bench e.trunk).queued = none ∧
          ((s.bench e.trunk).queued.isSome = true → t.hv.stepAsk.get e.trunk = false) ∧
          (t.bench e.trunk).banks = (s.bench e.trunk).banks) ∧
    (s.hot e.trunk = false → exec .dischargeTimeout s = .next s)) ∧
  ∀ s : State, Ready s .ps →
    (s.hv.latch = none → exec (.clearHvFault .ps) s = .next (plainly .ps 0x42 .ok s)) ∧
    (∀ x, s.hv.latch = some x → s.hot x = true → exec (.clearHvFault .ps) s = .next (plainly .ps 0x42 .busy s)) ∧
    (∀ x, s.hv.latch = some x → s.hot x = false → s.hv.line = [] →
      exec (.clearHvFault .ps) s = .next (plainly .ps 0x42 .ok (s.setHv { s.hv with latch := none, source := .off }))) ∧
    (∀ x, s.hv.latch = some x → s.hot x = false → s.hv.energ = none → ∀ y, ({ s.hv with latch := none }).next = some y →
      ∃ t, exec (.clearHvFault .ps) s = .next t ∧ (t.port .ps).response.map (·.status) = some .ok ∧ t.hv.latch = none ∧
        t.hv.source = .off ∧ Granted s t y) ∧
    ∀ p, Ready s p → p ≠ .ps → exec (.clearHvFault p) s = .next (plainly p 0x42 .notPermitted s)

/-- A lid that opens blocks a station that does not hold, takes the source from an idle holder, and with the output on cuts the
energisation with cause LID, interrupts the step and raises INTERLOCK (R117, R129); a lid that closes counts as closed again, and an
asking station that is next is granted (R116, R117). -/
def Obligations.LidsAct : Prop :=
  ∀ (s : State) (x : Station), s.inReset = false →
    (s.hv.lidClosed.get x = true → s.hv.holder ≠ some x →
      exec (.lidOpen x) s = .next (s.setHv { s.hv with lidClosed := s.hv.lidClosed.set x false })) ∧
    (s.hv.lidClosed.get x = true → s.hv.holder = some x → (s.bench x).step = none → s.hv.source = .off → s.hv.sw = .off →
      s.hv.line = [] → s.hv.quiet = false →
      exec (.lidOpen x) s =
        .next (raise x.port srcHvReleased (s.setHv { s.hv with
          lidClosed := s.hv.lidClosed.set x false, holder := none, reserved := false, releasePending := false, holdTimer := none,
          holderStep := false }))) ∧
    (∀ e st, s.hv.lidClosed.get x = true → s.hv.holder = some x → s.hv.energ = some e → e.trunk = x →
      e.stage = .ramping ∨ e.stage = .dwelling ∨ e.stage = .sampling → s.hv.source.outputOn = true → s.hv.sw = .to x →
      e.outcome = none → s.hot x = true → (s.bench x).step = some st → st.state ≠ .finish → (s.bench x).wait = .energisation →
      ∃ t, exec (.lidOpen x) s = .next t ∧ t.hv.source = .discharging ∧ t.hv.path = true ∧
        t.hv.energ = some { e with stage := .discharging, outcome := some (.cut .lid) } ∧ t.hv.releasePending = true ∧
        t.hv.reserved = false ∧ (t.bench x).step = some { st with interrupted := true } ∧ (t.bench x).queued = none ∧
        Notified s t x.port srcInterlock ∧ Notified s t .ps srcInterlock ∧ t.bench x.other = s.bench x.other) ∧
    (s.hv.lidClosed.get x = false → s.hv.line = [] →
      exec (.lidClose x) s = .next (s.setHv { s.hv with lidClosed := s.hv.lidClosed.set x true })) ∧
    (s.hv.lidClosed.get x = false → ∀ y, ({ s.hv with lidClosed := s.hv.lidClosed.set x true }).next = some y →
      ∃ t, exec (.lidClose x) s = .next t ∧ t.hv.lidClosed = s.hv.lidClosed.set x true ∧ Granted s t y)

/-- E-STOP raises INTERLOCK in all three units and clears every ask; with no holder and no step nothing else changes; an idle holder is
released at once, or by release pending while the switch does not stand OFF; every step of either station that waits in WAIT-HV or
configures is interrupted with the step-interrupted flag set and every queued step dropped, one in FINISH loses its queued step alone,
and a step whose trunk stands all-open is at its end at once, with STEP-DONE and the run in READY; an energisation in RAMPING, DWELLING
or SAMPLING on a hot trunk is cut with cause E-STOP and its step interrupted (R119, R121, R130, R144, R145). When E-STOP clears, the
asking station that is next is granted, and with no station in line nothing else changes (R116, R117). -/
def Obligations.EstopActs : Prop :=
  ∀ s : State, s.inReset = false →
    (s.hv.estop = false → s.hv.holder = none → s.hv.releasePending = false → s.hv.reserved = false → s.hv.holdTimer = none →
      s.hv.stepAsk = ⟨false, false⟩ → s.hv.reserveAsk = ⟨false, false⟩ → s.hv.line = [] →
      (s.bench .a).step = none → (s.bench .b).step = none →
      exec .estopActive s =
        .next (raise .ps srcInterlock (raise .pb srcInterlock (raise .pa srcInterlock
          (s.setHv { s.hv with estop := true }))))) ∧
    (∀ x e st, s.hv.estop = false → s.hv.holder = some x → s.hv.energ = some e → e.trunk = x →
      e.stage = .ramping ∨ e.stage = .dwelling ∨ e.stage = .sampling → s.hv.sw = .to x → e.outcome = none → s.hot x = true →
      (s.bench x).step = some st → st.state ≠ .finish → (s.bench x).wait = .energisation →
      ∃ t, exec .estopActive s = .next t ∧ t.hv.estop = true ∧ t.hv.source = .discharging ∧ t.hv.releasePending = true ∧
        t.hv.energ = some { e with stage := .discharging, outcome := some (.cut .estop) } ∧
        (∀ y, t.hv.asks y = false) ∧ (t.bench x).step = some { st with interrupted := true } ∧
        ∀ p, Notified s t p srcInterlock) ∧
    (∀ x, s.hv.estop = false → s.hv.holder = some x → (s.bench .a).step = none → (s.bench .b).step = none →
      ∀ h : Hv, h = { s.hv with
        estop := true, stepAsk := ⟨false, false⟩, reserveAsk := ⟨false, false⟩, line := [], reserved := false, holdTimer := none } →
      (s.hv.sw ≠ .off →
        exec .estopActive s =
          .next (raise .ps srcInterlock (raise .pb srcInterlock (raise .pa srcInterlock
            (s.setHv { h with releasePending := true }))))) ∧
      (s.hv.sw = .off → s.hv.quiet = false →
        exec .estopActive s =
          .next (raise x.port srcHvReleased (raise .ps srcInterlock (raise .pb srcInterlock (raise .pa srcInterlock
            (s.setHv { h with holder := none, releasePending := false, holderStep := false }))))))) ∧
    (s.hv.estop = false →
      ∃ t, exec .estopActive s = .next t ∧ t.hv.estop = true ∧ (∀ p, Notified s t p srcInterlock) ∧
        t.hv.stepAsk = ⟨false, false⟩ ∧ t.hv.reserveAsk = ⟨false, false⟩ ∧ t.hv.line = [] ∧
        (s.hv.energ = none → t.hv.reserved = false ∧ t.hv.energ = none ∧
          (s.hv.sw = .off → t.hv.holder = none ∧ t.hv.releasePending = false ∧
            ∀ x, s.hv.holder = some x → s.hv.quiet = false → Notified s t x.port srcHvReleased) ∧
          (s.hv.sw ≠ .off → t.hv.holder = s.hv.holder ∧ t.hv.releasePending = s.hv.holder.isSome)) ∧
        ∀ x, (∀ e, s.hv.energ = some e → e.trunk ≠ x) → ∀ st, (s.bench x).step = some st → (s.bench x).wait ≠ .energisation →
          (t.bench x).queued = none ∧ (t.bench x).banks = (s.bench x).banks ∧
          (st.state = .finish → t.bench x = { s.bench x with queued := none }) ∧
          (st.state ≠ .finish →
            (t.bench x).record = (s.bench x).record.map (fun r => { r with stepInterrupted := true }) ∧
            ((s.trunk x).state = .opening ∨ (s.trunk x).state = .closing ∨ (s.trunk x).state = .settling →
              (t.bench x).step = some { st with state := .finish, interrupted := true } ∧ (t.bench x).locator = [] ∧
              (t.bench x).wait = .allOpen ∧ (t.trunk x).waiting = some .empty) ∧
            ((s.trunk x).state = .idle ∨ (s.trunk x).state = .settled → s.matrix.state = .ready →
              (Closed s x ∨ s.hot x = true → StepFinishes t x { st with interrupted := true }) ∧
              (s.hot x = false → ¬ Closed s x → (s.bench x).run = .insulation →
                (t.bench x).step = none ∧ (t.bench x).run = .ready ∧ (t.bench x).wait = .nothing ∧
                Notified s t x.port srcStepDone)))) ∧
    (s.hv.estop = true → s.hv.line = [] → exec .estopClear s = .next (s.setHv { s.hv with estop := false })) ∧
    (s.hv.estop = true → ∀ y, ({ s.hv with estop := false }).next = some y →
      ∃ t, exec .estopClear s = .next t ∧ t.hv.estop = false ∧ Granted s t y)

/-! ## Tickets -/

/-- SET TICKET POLICY sets the policy of the next run; CANCEL TICKET removes a QUEUED bank's job, its bank KEPT and TICKET-DONE raised,
marks a PRINTING job whose trailer has not begun, and is refused NOT-QUEUED for any other bank (R151, R158); that a cancel taken in STALLED
makes the link restart its line, and one in another state does not, is the model's reading of R158 beside R155 (log 34). READ DEFECTS
answers the bank's state and counts and up to 8 records from the start index in their 12-byte form, with MORE while records remain; a FREE
bank is UNREADABLE and an index above 127 is refused (R150, R175; its head as named content, log 7). -/
def Obligations.TicketRequests : Prop :=
  (∀ (s : State) (x : Station), Ready s .ps →
    (∀ v q, policyOf v = some q →
      exec (.setTicketPolicy .ps (stationByte x) v) s =
        .next (plainly .ps 0x50 .ok (s.setBench x { s.bench x with policy := q }))) ∧
    (∀ v, policyOf v = none → exec (.setTicketPolicy .ps (stationByte x) v) s = .next (plainly .ps 0x50 .badArgument s)) ∧
    ∀ k,
      (((s.bench x).banks.get k).state = .queued →
        exec (.cancelTicket .ps (stationByte x) (bankByte k)) s =
          .next (plainly .ps 0x51 .ok (raise x.port srcTicketDone ((s.setBench x { s.bench x with
            banks := (s.bench x).banks.set k { (s.bench x).banks.get k with state := .kept } }).setPrinter { s.printer with
              queue := s.printer.queue.filter (fun j => decide (¬ (j.station = x ∧ j.bank = k))) })))) ∧
      (∀ j rest, ((s.bench x).banks.get k).state = .printing → s.printer.queue = j :: rest → j.station = x → j.bank = k →
        j.cancelled = none →
        s.printer.line < (jobBank s j).records.length + 6 →
        exec (.cancelTicket .ps (stationByte x) (bankByte k)) s =
          .next (plainly .ps 0x51 .ok (s.setPrinter { s.printer with
            queue := { j with cancelled := some (if s.printer.started then s.printer.line else s.printer.line - 1) } :: rest,
            restart := decide (s.printer.link = .stalled) }))) ∧
      (((s.bench x).banks.get k).state = .free ∨ ((s.bench x).banks.get k).state = .recording ∨
          ((s.bench x).banks.get k).state = .kept →
        exec (.cancelTicket .ps (stationByte x) (bankByte k)) s = .next (plainly .ps 0x51 .notQueued s))) ∧
  (∀ d : Defect, d.bytes.length = 12) ∧
  ∀ (s : State) (p : Port) (x : Station) (k : BankNo) (start : Byte), Ready s p →
    (127 < start.toNat →
      exec (.readDefects p (stationByte x) (bankByte k) start) s = .next (plainly p 0x52 .badArgument s)) ∧
    (start.toNat ≤ 127 →
      (((s.bench x).banks.get k).state = .free →
        exec (.readDefects p (stationByte x) (bankByte k) start) s = .next (plainly p 0x52 .unreadable s)) ∧
      (((s.bench x).banks.get k).state ≠ .free →
        exec (.readDefects p (stationByte x) (bankByte k) start) s =
          .next (answered p 0x52 .ok false (decide (start.toNat + 8 < ((s.bench x).banks.get k).records.length))
            (.defects { state := ((s.bench x).banks.get k).state, count := ((s.bench x).banks.get k).records.length,
                        unlisted := ((s.bench x).banks.get k).unlisted,
                        records := ((((s.bench x).banks.get k).records.drop start.toNat).take 8).map Defect.bytes }) s)))

/-- The link: BUSY rising and falling in WAIT-ACK completes a byte and the next one is strobed; a byte in SENDING or STALLED is strobed
when BUSY falls; the acknowledge timer stalls the link and raises PRINTER on all ports; FAULT pauses it, and its fall resumes the line
from its first character (R154 to R156). After a line's last byte the next line begins, and after the last line the ticket ends: its job
leaves the queue, its bank is KEPT, TICKET-DONE is raised, and the next job is PRINTING with its first byte in hand (R152, R157). That a
link STALLED under a cancel restarts its line is the model's reading (log 34), and so is that an expiry of the acknowledge timer acts on
the byte in hand (log 43) and that the position names the byte in hand until it is complete (log 51). That the composer stands at line 1,
character 1 with no job at the head is its choice (log 35). -/
def Obligations.LinkMoves : Prop :=
  ∀ s : State, s.inReset = false →
    (s.printer.busy = false →
      exec .busyRise s =
        .next (s.setPrinter { s.printer with busy := true, risen := s.printer.risen || decide (s.printer.link = .waitAck) })) ∧
    (s.printer.busy = true → s.printer.link = .sending ∨ (s.printer.link = .stalled ∧ s.printer.restart = false) →
      exec .busyFall s = .next (s.setPrinter { s.printer with busy := false, link := .waitAck, risen := false })) ∧
    (∀ j, s.printer.queue.head? = some j → s.printer.busy = true → s.printer.link = .stalled → s.printer.restart = true →
      exec .busyFall s =
        .next (s.setPrinter { s.printer with
          busy := false, restart := false, link := .waitAck, risen := false, char := 1, started := true,
          data := some (lineByte (ticketLine j (jobBank s j) s.printer.line) 1) })) ∧
    (∀ j, s.printer.queue.head? = some j → s.printer.busy = true → s.printer.link = .waitAck → s.printer.risen = true →
      42 ≤ s.printer.char →
      (s.printer.line < ticketLines j (jobBank s j) →
        exec .busyFall s =
          .next (s.setPrinter { s.printer with
            busy := false, link := .waitAck, risen := false, line := s.printer.line + 1, char := 1, started := true,
            data := some (lineByte (ticketLine j (jobBank s j) (s.printer.line + 1)) 1) })) ∧
      (ticketLines j (jobBank s j) ≤ s.printer.line →
        ∃ t, exec .busyFall s = .next t ∧ Notified s t j.station.port srcTicketDone ∧
          (s.printer.queue.tail = [] →
            t.printer = { s.printer with
              busy := false, link := .idle, risen := false, queue := [], line := 1, char := 1, started := false, data := none }) ∧
          (∀ u, s.printer.queue.tail.head? = some u →
            t.printer = { s.printer with
              busy := false, link := .waitAck, risen := false, queue := s.printer.queue.tail, line := 1, char := 1, started := true,
              data := some (lineByte (ticketLine u (jobBank s u) 1) 1) } ∧
            ((t.bench u.station).banks.get u.bank).state = .printing) ∧
          ((∀ u, s.printer.queue.tail.head? = some u → u.station = j.station → u.bank ≠ j.bank) →
            (t.bench j.station).banks.get j.bank = { jobBank s j with state := .kept }))) ∧
    (∀ j rest, s.printer.busy = true → s.printer.link = .waitAck → s.printer.risen = true → s.printer.queue = j :: rest →
      s.printer.char < 42 →
      exec .busyFall s =
        .next (s.setPrinter { s.printer with
          busy := false, link := .waitAck, risen := false, char := s.printer.char + 1, started := true,
          data := some (lineByte (ticketLine j (jobBank s j) s.printer.line) (s.printer.char + 1)) })) ∧
    (s.printer.busy = true → s.printer.link = .waitAck → s.printer.risen = false →
      exec .busyFall s = .next (s.setPrinter { s.printer with busy := false })) ∧
    (s.printer.link = .waitAck → s.printer.busy = true →
      exec .acknowledgeTimerExpiry s =
        .next (raise .ps 2 (raise .pb 7 (raise .pa 7 (s.setPrinter { s.printer with link := .stalled, risen := false }))))) ∧
    (s.printer.link = .waitAck → s.printer.busy = false →
      exec .acknowledgeTimerExpiry s =
        .next (raise .ps 2 (raise .pb 7 (raise .pa 7 (s.setPrinter { s.printer with link := .waitAck, risen := false }))))) ∧
    (s.printer.fault = false →
      exec .faultRise s =
        .next (s.setPrinter { s.printer with fault := true, link := .paused, data := none, risen := false, restart := false })) ∧
    (s.printer.fault = true → s.printer.link = .paused → s.printer.queue = [] →
      exec .faultFall s = .next (s.setPrinter { s.printer with fault := false, link := .idle, char := 1 })) ∧
    ∀ j rest, s.printer.fault = true → s.printer.link = .paused → s.printer.queue = j :: rest → s.printer.busy = false →
      exec .faultFall s =
        .next (s.setPrinter { s.printer with
          fault := false, link := .waitAck, risen := false, char := 1, started := true,
          data := some (lineByte (ticketLine j (jobBank s j) s.printer.line) 1) })

/-- Every line of a ticket is exactly 40 characters, and a ticket of r records that is not cancelled has r + 9 lines (R152, R153). -/
def Obligations.TicketLinesFit : Prop :=
  ∀ (j : Job) (b : Bank) (n : Nat), j.code.length = 6 →
    (ticketLine j b n).length = 40 ∧ (j.cancelled = none → ticketLines j b = b.records.length + 9)

/-! ## Resets -/

/-- A power-on takes every block to its power-on values, serials to 1 and counters to 0 among them; it and a line reset leave windows
disabled and unlocked, settle times of 3 ms, last-used banks 1, the permission BARRED with the default limits, and every notice level OFF
with base 0; a line reset keeps the image, the last check result, the reference CRC, the next serials and the counters, starts a full
check of an image that was loaded, and leaves ABANDONED for what a port lost (R4, R6, R15, R17, R43, R44, R79, R113, R115, R159, R164,
R166). That the inputs are taken when the reset ends is the model's choice (log 4), as are the words of a store after a power-on, which
R43 leaves undefined (log 14), a port with nothing shifted and no last frame (log 8), and the composer at line 1, character 1 with no job
(log 35). -/
def Obligations.LinesReset : Prop :=
  ∀ (s : State) (b : BuildMax), s.inReset = false →
    exec (.powerOnReset b) s =
      .next { s with
        porn := true, cause := .powerOn, ports := ⟨.reset, .reset, .reset⟩, attention := ⟨.reset, .reset, .reset⟩,
        matrix := .reset s.matrix.hot, store := .reset, channels := ⟨.reset, .reset⟩, benches := ⟨.reset, .reset⟩,
        hv := .reset b s.hv.lidClosed s.hv.estop, printer := .reset s.printer.busy s.printer.fault } ∧
    (∃ t, exec (.powerOnReset b) s = .next t ∧ ResetValues t b ∧ t.store.state = .empty ∧ t.store.check = none ∧
      t.store.lastResult = none ∧ t.store.crc = none ∧ t.store.armed = false ∧ t.store.active = false ∧
      (∀ p, (t.port p).work = none ∧ (t.port p).response = none ∧ (t.port p).dropped = false) ∧
      ∀ x, (t.bench x).nextSerial = 1 ∧ (t.bench x).counters = { closed := 0, pass := 0, fail := 0, incomplete := 0, invalid := 0 }) ∧
    ∃ t, exec (.lineReset b) s = .next t ∧ t.linerst = true ∧ ResetValues t b ∧ t.cause = .line ∧ t.attention = ⟨.reset, .reset, .reset⟩ ∧
      t.matrix = .reset s.matrix.hot ∧ t.channels = ⟨.reset, .reset⟩ ∧ t.hv = .reset b s.hv.lidClosed s.hv.estop ∧
      t.printer = .reset s.printer.busy s.printer.fault ∧
      t.store.words = s.store.words ∧ t.store.lastResult = s.store.lastResult ∧ t.store.crc = s.store.crc ∧
      t.store.armed = false ∧ t.store.active = false ∧ t.store.joined = [] ∧
      (s.store.state = .empty ∨ s.store.state = .loading → t.store.state = .empty ∧ t.store.check = none) ∧
      (s.store.state = .checking ∨ s.store.state = .valid ∨ s.store.state = .faulted →
        t.store.state = .checking ∧ t.store.check = some (.start .full)) ∧
      (∀ x, t.bench x = { Bench.reset with nextSerial := (s.bench x).nextSerial, counters := (s.bench x).counters }) ∧
      ∀ p, (t.port p).work = none ∧ (t.port p).dropped = false ∧
        (∀ r, (s.port p).work = some r →
          (t.port p).response = some { status := .abandoned, echo := r.code, clamped := false, more := false, payload := .empty }) ∧
        (∀ a, (s.port p).response = some a → (s.port p).work = none →
          (t.port p).response = some { status := .abandoned, echo := a.echo, clamped := false, more := false, payload := .empty }) ∧
        ((s.port p).work = none → (s.port p).response = none → (t.port p).response = none)

/-- Only when both reset lines are released does the part run: it takes the input levels, and with both monitors cold the matrix is
CLEARING with the clearing load on the chain, else UNKNOWN (R2, R5, R6, R113, R161). While a line is asserted the ports take no frames
and ignore fetches: a rise of chip select ends its period, and nothing is taken or delivered (R161, R162); that no event of the table acts
meanwhile is the model's choice (log 4), and that RESET_END changes nothing where no line is asserted its reading (log 2). The composer at line 1, character 1 with no job is its choice (log 35). -/
def Obligations.ResetEnds : Prop :=
  ∀ (s : State) (i : Inputs),
    (s.porn = true → s.linerst = true →
      exec (.resetEnd .porn i) s = .next { s with porn := false } ∧ exec (.resetEnd .linerst i) s = .next { s with linerst := false }) ∧
    (∀ l, (l = .porn ∧ s.porn = true ∧ s.linerst = false) ∨ (l = .linerst ∧ s.porn = false ∧ s.linerst = true) →
      ∃ t, exec (.resetEnd l i) s = .next t ∧ t.inReset = false ∧ t.hot .a = i.hotA ∧ t.hot .b = i.hotB ∧
        t.hv = { s.hv with lidClosed := ⟨i.lidA, i.lidB⟩, estop := i.estop } ∧ t.printer = .reset i.busy i.fault ∧
        t.attention = s.attention ∧ t.store = s.store ∧ t.benches = s.benches ∧ t.cause = s.cause ∧
        (s.matrix.state = .unknown → i.hotA = true ∨ i.hotB = true → t.matrix.state = .unknown ∧ t.matrix.load = s.matrix.load) ∧
        (s.matrix.state = .unknown → s.matrix.load = none → s.matrix.hk = none → i.hotA = false → i.hotB = false →
          t.matrix.state = .clearing ∧
          t.matrix.load = some { requester := .housekeeping .clearing,
                                 contents := { relays := { drive := 0, ret := 0 }, sel := { a := 0, b := 0 } } })) ∧
    (s.inReset = false → ∀ l, exec (.resetEnd l i) s = .next s) ∧
    (∀ p : Port, s.inReset = true →
      exec (.fetch p) s = .next (periodOver p (s.port p).dropped s) ∧
      (∀ bytes, exec (.requestFrame p bytes) s = .next (periodOver p (s.port p).dropped s)) ∧
      ∀ (c : Instr) (r : Request), c.request? = some (p, r) → exec c s = .next (periodOver p (s.port p).dropped s)) ∧
    ∀ c : Instr, s.inReset = true → (∀ b, c ≠ .powerOnReset b) → (∀ b, c ≠ .lineReset b) → (∀ l v, c ≠ .resetEnd l v) →
      c.request? = none → (∀ p, c ≠ .fetch p) → (∀ p bytes, c ≠ .requestFrame p bytes) → (∀ p, c ≠ .chipSelectFall p) →
      exec c s = .next s

/-- RESET DEVICE is taken whatever the slots of port PS hold: the runs, banks and jobs are gone, serials, counters, policies, permission,
limits and fault latch stay, alarm active is cleared, the other ports hold ABANDONED for what they lost, an image that was loaded is
checked in full, the request slots are emptied with B last served, and on a READY matrix an all-open load is requested, which opens every
relay, keeps the selectors and waits for cold monitors, and for which the trunks wait in OPENING, or GUARDED while hot; elsewhere they
are IDLE and a clearing pass goes on (R4, R5, R8, R16, R43, R59, R79, R133, R164, R166, R173). The composer at line 1, character 1 with
no job is the model's choice (log 35). -/
def Obligations.DeviceReset : Prop :=
  ∀ s : State, s.inReset = false →
    ∃ t, exec (.resetDevice .ps) s = .next t ∧ t.cause = .supervisor ∧ t.attention = ⟨.reset, .reset, .reset⟩ ∧
      t.channels = ⟨.reset, .reset⟩ ∧ t.printer = .reset s.printer.busy s.printer.fault ∧
      (t.port .ps).work = none ∧
      (t.port .ps).response = some { status := .ok, echo := 0x08, clamped := false, more := false, payload := .empty } ∧
      (t.port .ps).dropped = ((s.port .ps).occupied || (s.port .ps).dropped) ∧
      (∀ x : Station, (t.port x.port).work = none ∧ (t.port x.port).dropped = false ∧
        (∀ r, (s.port x.port).work = some r →
          (t.port x.port).response =
            some { status := .abandoned, echo := r.code, clamped := false, more := false, payload := .empty }) ∧
        (∀ a, (s.port x.port).work = none → (s.port x.port).response = some a →
          (t.port x.port).response =
            some { status := .abandoned, echo := a.echo, clamped := false, more := false, payload := .empty }) ∧
        ((s.port x.port).work = none → (s.port x.port).response = none → (t.port x.port).response = none)) ∧
      (∀ x, t.bench x = { Bench.reset with nextSerial := (s.bench x).nextSerial, counters := (s.bench x).counters,
                                           policy := (s.bench x).policy }) ∧
      t.hv.permission = s.hv.permission ∧ t.hv.limits = s.hv.limits ∧ t.hv.latch = s.hv.latch ∧ t.hv.holder = none ∧
      t.hv.sw = .off ∧ t.hv.energ = none ∧ t.store.words = s.store.words ∧ t.store.armed = s.store.armed ∧
      t.store.active = false ∧
      (s.store.state = .empty ∨ s.store.state = .loading → t.store.state = .empty ∧ t.store.check = none) ∧
      (s.store.state = .checking ∨ s.store.state = .valid ∨ s.store.state = .faulted →
        t.store.state = .checking ∧ t.store.check = some (.start .full)) ∧
      (∀ x, t.trunk x = { s.trunk x with
        state := if s.matrix.state = .ready then (if s.hot x then .guarded else .opening) else .idle, config := none,
        waiting := none, target := .allOpen, part := if s.matrix.state = .ready then .deviceAllOpen else .load,
        settleTimer := none }) ∧
      t.matrix.state = s.matrix.state ∧ t.matrix.windows = s.matrix.windows ∧
      t.matrix.image = s.matrix.image ∧
      t.matrix.slots = ⟨none, none⟩ ∧ t.matrix.lastServed = .b ∧ t.matrix.selTable = s.matrix.selTable ∧
      t.matrix.presence = s.matrix.presence ∧
      (s.matrix.state = .ready → s.matrix.hk ≠ some .clearing →
        (t.matrix.hk = some .allOpen ∨ ∃ l, t.matrix.load = some l ∧ l.requester = .housekeeping .allOpen) ∧
        ∀ u, u = s.setMatrix { s.matrix with slots := ⟨none, none⟩ } →
          HousekeepingPlaced u t .allOpen { relays := { drive := 0, ret := 0 }, sel := s.matrix.selTable }) ∧
      (s.matrix.state ≠ .ready →
        t.matrix.hkWait = (if s.matrix.hkWait = some .clearing then some .clearing else none) ∧
        ∀ l, s.matrix.load = some l →
          t.matrix.load = some l ∧ t.matrix.hk = if s.matrix.hk = some .clearing then some .clearing else none)

/-- The reset cause record: POWER-ON where PORN takes part, LINE where LINERST is asserted without it, SUPERVISOR for RESET DEVICE; no
other command writes it, a station reset among them; READ CAUSE shows it from any port and does not clear it (R174; the payload as named
content, the model's choice, log 7). -/
def Obligations.CauseWritten : Prop :=
  (∀ (s : State) (b : BuildMax), s.porn = false → ∃ t, exec (.powerOnReset b) s = .next t ∧ t.cause = .powerOn) ∧
  (∀ (s : State) (b : BuildMax), s.porn = false → s.linerst = false → ∃ t, exec (.lineReset b) s = .next t ∧ t.cause = .line) ∧
  (∀ (s : State) (b : BuildMax), s.porn = true → ∃ t, exec (.lineReset b) s = .next t ∧ t.cause = s.cause) ∧
  (∀ s : State, s.inReset = false → ∃ t, exec (.resetDevice .ps) s = .next t ∧ t.cause = .supervisor) ∧
  (∀ (i : Instr) (s t : State), exec i s = .next t → (∀ b, i ≠ .powerOnReset b) → (∀ b, i ≠ .lineReset b) →
    i ≠ .resetDevice .ps → (∀ bytes, i ≠ .requestFrame .ps (0x08 :: bytes)) → t.cause = s.cause) ∧
  ∀ (s : State) (p : Port), Ready s p →
    exec (.readCause p) s = .next (answered p 0x09 .ok false false (.cause s.cause) s)

/-! ## Reads -/

/-- READ POINTS shows the state of each point in order, as the relay image holds it: FLOAT with both relays open, DRIVE with D alone
closed, RETURN with T alone closed; it is UNREADABLE while the image is unknown, and refused a count of 0 or above 240 or a reach past
point 2047 (R1, R22; the payload as a list of named states, the model's choice, log 7). That a bad count or range is BAD-ARGUMENT also
while the image is unknown is the model's reading (log 50). -/
def Obligations.PointsRead : Prop :=
  ∀ (s : State) (p : Port) (first : Word16) (count : Byte), Ready s p →
    (count.toNat = 0 ∨ 240 < count.toNat ∨ 2048 < first.toNat + count.toNat →
      exec (.readPoints p first count) s = .next (plainly p 0x14 .badArgument s)) ∧
    (1 ≤ count.toNat → count.toNat ≤ 240 → first.toNat + count.toNat ≤ 2048 →
      (s.matrix.image = none → exec (.readPoints p first count) s = .next (plainly p 0x14 .unreadable s)) ∧
      ∀ m, s.matrix.image = some m →
        ∃ ps : List PointState, exec (.readPoints p first count) s = .next (answered p 0x14 .ok false false (.points ps) s) ∧
          ps.length = count.toNat ∧
          ∀ k, k < count.toNat →
            (m.relays.drive.getLsbD (first.toNat + k) = false → m.relays.ret.getLsbD (first.toNat + k) = false →
              ps[k]? = some .float) ∧
            (m.relays.drive.getLsbD (first.toNat + k) = true → m.relays.ret.getLsbD (first.toNat + k) = false →
              ps[k]? = some .drive) ∧
            (m.relays.drive.getLsbD (first.toNat + k) = false → m.relays.ret.getLsbD (first.toNat + k) = true →
              ps[k]? = some .ret))

/-- READ MATRIX, REFERENCE STATUS, READ STATUS, READ CHANNEL, READ HV and READ PRINTER are answered OK at once from any port and change
nothing of the blocks (R21, R34, R60, R80, R134, R160); the payload stands as named content (log 7), and only the model's count of free
values moves under READ HV (log 5). -/
def Obligations.ReadsAnswer : Prop :=
  ∀ (s : State) (p : Port) (x : Station), Ready s p →
    exec (.readMatrix p) s =
      .next (answered p 0x13 .ok false false
        (.matrix { state := s.matrix.state, trunks := ⟨(s.trunk .a).state, (s.trunk .b).state⟩,
                   windows := ⟨{ base := (s.window .a).base, limit := (s.window .a).limit, lock := (s.window .a).lock,
                                 enabled := decide ((s.window .a).base ≤ (s.window .a).limit) },
                               { base := (s.window .b).base, limit := (s.window .b).limit, lock := (s.window .b).lock,
                                 enabled := decide ((s.window .b).base ≤ (s.window .b).limit) }⟩,
                   settle := ⟨(s.trunk .a).settleTime, (s.trunk .b).settleTime⟩, presence := s.matrix.presence,
                   selTable := s.matrix.selTable, hot := s.matrix.hot }) s) ∧
    (∃ r : ReferenceReport, exec (.referenceStatus p) s = .next (answered p 0x26 .ok false false (.reference r) s) ∧
      r.state = s.store.state ∧ r.lastResult = s.store.lastResult ∧ r.crc = s.store.crc ∧ r.armed = s.store.armed ∧
      r.active = s.store.active ∧ (s.store.state = .checking → r.check = s.store.check.map (·.kind)) ∧
      (s.store.state = .valid → r.summary = some
        { span := hdrSpan s.store.words, nets := hdrNets s.store.words, members := hdrMembers s.store.words,
          unused := hdrSpan s.store.words - hdrMembers s.store.words, code := hdrCode s.store.words,
          revision := hdrRevision s.store.words }) ∧
      (s.store.state = .empty ∨ s.store.state = .loading ∨ s.store.state = .faulted → r.summary = none)) ∧
    (∃ r : StatusReport, exec (.readStatus p (stationByte x)) s = .next (answered p 0x36 .ok false false (.status r) s) ∧
      r.run = (s.bench x).run ∧ r.record = (s.bench x).record ∧ r.trunk = (s.trunk x).state ∧
      r.lastBank = (s.bench x).lastBank ∧ ((s.bench x).run = .noRun → r.summary = (s.bench x).summary)) ∧
    (∃ r : ChannelReport, exec (.readChannel p (stationByte x)) s = .next (answered p 0x28 .ok false false (.channel r) s) ∧
      r.state = (s.channel x).state ∧ r.range = (s.channel x).range ∧ r.isoPending = (s.channel x).isoPending ∧
      r.lastCode = (s.channel x).lastCode ∧ r.lastRaw = (s.channel x).lastRaw ∧ r.lastResult = (s.channel x).lastResult ∧
      (∀ v k, (s.channel x).lastResult = some (.pairValue v k) → r.resultRange = some k) ∧
      ((s.channel x).lastResult = some .openWire → r.resultRange = some 3) ∧
      (∀ v, (s.channel x).lastResult = some (.fail v) → r.resultRange = some 3) ∧
      ∀ o, (s.channel x).lastResult = some (.clean o) → r.resultRange = some 3) ∧
    (∃ (r : HvReport) (n : Nat), exec (.readHv p) s = .next (answered p 0x45 .ok false false (.hv r) { s with free := n }) ∧
      r.holder = s.hv.holder ∧ r.releasePending = s.hv.releasePending ∧ r.reserved = s.hv.reserved ∧ r.string = s.hv.string ∧
      r.source = s.hv.source ∧ r.sw = s.hv.sw ∧ r.latch = s.hv.latch ∧ r.permission = s.hv.permission ∧ r.limits = s.hv.limits ∧
      r.hot = s.matrix.hot ∧ r.last = s.hv.last ∧ r.holdTimer.isSome = s.hv.holdTimer.isSome ∧
      ∀ t, s.hv.holdTimer = some t → ∃ left, r.holdTimer = some left ∧ left ≤ t) ∧
    ∃ r : PrinterReport, exec (.readPrinter p) s = .next (answered p 0x53 .ok false false (.printer r) s) ∧
      r.jobs = s.printer.queue.map (fun j => (j.station, j.bank, j.serial, j.verdict)) ∧ r.link = s.printer.link ∧
      r.line = s.printer.line ∧ r.char = s.printer.char ∧ r.busy = s.printer.busy ∧ r.fault = s.printer.fault ∧
      r.policies = ⟨(s.bench .a).policy, (s.bench .b).policy⟩
end

