-- ==== Sys2Proof/Laws/State.lean ====
section
/-! SUPPORT. One lemma for each field of the state under each update, and for each accessor, so that no proof unfolds an update. -/

namespace Sys2Proof.Machine

/-! ## setPort -/

@[simp] theorem State.setPort_porn (s : State) (p : Port) (v : PortState) : (s.setPort p v).porn = s.porn := rfl
@[simp] theorem State.setPort_linerst (s : State) (p : Port) (v : PortState) : (s.setPort p v).linerst = s.linerst := rfl
@[simp] theorem State.setPort_cause (s : State) (p : Port) (v : PortState) : (s.setPort p v).cause = s.cause := rfl
@[simp] theorem State.setPort_ports (s : State) (p : Port) (v : PortState) : (s.setPort p v).ports = s.ports.set p v := rfl
@[simp] theorem State.setPort_attention (s : State) (p : Port) (v : PortState) : (s.setPort p v).attention = s.attention := rfl
@[simp] theorem State.setPort_matrix (s : State) (p : Port) (v : PortState) : (s.setPort p v).matrix = s.matrix := rfl
@[simp] theorem State.setPort_store (s : State) (p : Port) (v : PortState) : (s.setPort p v).store = s.store := rfl
@[simp] theorem State.setPort_channels (s : State) (p : Port) (v : PortState) : (s.setPort p v).channels = s.channels := rfl
@[simp] theorem State.setPort_benches (s : State) (p : Port) (v : PortState) : (s.setPort p v).benches = s.benches := rfl
@[simp] theorem State.setPort_hv (s : State) (p : Port) (v : PortState) : (s.setPort p v).hv = s.hv := rfl
@[simp] theorem State.setPort_printer (s : State) (p : Port) (v : PortState) : (s.setPort p v).printer = s.printer := rfl
@[simp] theorem State.setPort_free (s : State) (p : Port) (v : PortState) : (s.setPort p v).free = s.free := rfl
@[simp] theorem State.setPort_pending (s : State) (p : Port) (v : PortState) : (s.setPort p v).pending = s.pending := rfl
@[simp] theorem State.setPort_port_same (s : State) (p : Port) (v : PortState) : (s.setPort p v).port p = v := PerPort.get_set_same _ _ _
theorem State.setPort_port_ne (s : State) (p : Port) (v : PortState) {q : Port} (h : q ≠ p) : (s.setPort p v).port q = s.port q :=
  PerPort.get_set_ne _ _ h
@[simp] theorem State.setPort_unit (s : State) (p : Port) (v : PortState) (q : Port) : (s.setPort p v).unit q = s.unit q := rfl
@[simp] theorem State.setPort_trunk (s : State) (p : Port) (v : PortState) (y : Station) : (s.setPort p v).trunk y = s.trunk y := rfl
@[simp] theorem State.setPort_window (s : State) (p : Port) (v : PortState) (y : Station) : (s.setPort p v).window y = s.window y := rfl
@[simp] theorem State.setPort_hot (s : State) (p : Port) (v : PortState) (y : Station) : (s.setPort p v).hot y = s.hot y := rfl
@[simp] theorem State.setPort_channel (s : State) (p : Port) (v : PortState) (y : Station) : (s.setPort p v).channel y = s.channel y := rfl
@[simp] theorem State.setPort_bench (s : State) (p : Port) (v : PortState) (y : Station) : (s.setPort p v).bench y = s.bench y := rfl
@[simp] theorem State.setPort_inReset (s : State) (p : Port) (v : PortState) : (s.setPort p v).inReset = s.inReset := rfl

/-! ## setUnit -/

@[simp] theorem State.setUnit_porn (s : State) (p : Port) (v : Attention) : (s.setUnit p v).porn = s.porn := rfl
@[simp] theorem State.setUnit_linerst (s : State) (p : Port) (v : Attention) : (s.setUnit p v).linerst = s.linerst := rfl
@[simp] theorem State.setUnit_cause (s : State) (p : Port) (v : Attention) : (s.setUnit p v).cause = s.cause := rfl
@[simp] theorem State.setUnit_ports (s : State) (p : Port) (v : Attention) : (s.setUnit p v).ports = s.ports := rfl
@[simp] theorem State.setUnit_attention (s : State) (p : Port) (v : Attention) : (s.setUnit p v).attention = s.attention.set p v := rfl
@[simp] theorem State.setUnit_matrix (s : State) (p : Port) (v : Attention) : (s.setUnit p v).matrix = s.matrix := rfl
@[simp] theorem State.setUnit_store (s : State) (p : Port) (v : Attention) : (s.setUnit p v).store = s.store := rfl
@[simp] theorem State.setUnit_channels (s : State) (p : Port) (v : Attention) : (s.setUnit p v).channels = s.channels := rfl
@[simp] theorem State.setUnit_benches (s : State) (p : Port) (v : Attention) : (s.setUnit p v).benches = s.benches := rfl
@[simp] theorem State.setUnit_hv (s : State) (p : Port) (v : Attention) : (s.setUnit p v).hv = s.hv := rfl
@[simp] theorem State.setUnit_printer (s : State) (p : Port) (v : Attention) : (s.setUnit p v).printer = s.printer := rfl
@[simp] theorem State.setUnit_free (s : State) (p : Port) (v : Attention) : (s.setUnit p v).free = s.free := rfl
@[simp] theorem State.setUnit_pending (s : State) (p : Port) (v : Attention) : (s.setUnit p v).pending = s.pending := rfl
@[simp] theorem State.setUnit_port (s : State) (p : Port) (v : Attention) (q : Port) : (s.setUnit p v).port q = s.port q := rfl
@[simp] theorem State.setUnit_unit_same (s : State) (p : Port) (v : Attention) : (s.setUnit p v).unit p = v := PerPort.get_set_same _ _ _
theorem State.setUnit_unit_ne (s : State) (p : Port) (v : Attention) {q : Port} (h : q ≠ p) : (s.setUnit p v).unit q = s.unit q :=
  PerPort.get_set_ne _ _ h
@[simp] theorem State.setUnit_trunk (s : State) (p : Port) (v : Attention) (y : Station) : (s.setUnit p v).trunk y = s.trunk y := rfl
@[simp] theorem State.setUnit_window (s : State) (p : Port) (v : Attention) (y : Station) : (s.setUnit p v).window y = s.window y := rfl
@[simp] theorem State.setUnit_hot (s : State) (p : Port) (v : Attention) (y : Station) : (s.setUnit p v).hot y = s.hot y := rfl
@[simp] theorem State.setUnit_channel (s : State) (p : Port) (v : Attention) (y : Station) : (s.setUnit p v).channel y = s.channel y := rfl
@[simp] theorem State.setUnit_bench (s : State) (p : Port) (v : Attention) (y : Station) : (s.setUnit p v).bench y = s.bench y := rfl
@[simp] theorem State.setUnit_inReset (s : State) (p : Port) (v : Attention) : (s.setUnit p v).inReset = s.inReset := rfl

/-! ## setMatrix -/

@[simp] theorem State.setMatrix_porn (s : State) (v : Matrix) : (s.setMatrix v).porn = s.porn := rfl
@[simp] theorem State.setMatrix_linerst (s : State) (v : Matrix) : (s.setMatrix v).linerst = s.linerst := rfl
@[simp] theorem State.setMatrix_cause (s : State) (v : Matrix) : (s.setMatrix v).cause = s.cause := rfl
@[simp] theorem State.setMatrix_ports (s : State) (v : Matrix) : (s.setMatrix v).ports = s.ports := rfl
@[simp] theorem State.setMatrix_attention (s : State) (v : Matrix) : (s.setMatrix v).attention = s.attention := rfl
@[simp] theorem State.setMatrix_matrix (s : State) (v : Matrix) : (s.setMatrix v).matrix = v := rfl
@[simp] theorem State.setMatrix_store (s : State) (v : Matrix) : (s.setMatrix v).store = s.store := rfl
@[simp] theorem State.setMatrix_channels (s : State) (v : Matrix) : (s.setMatrix v).channels = s.channels := rfl
@[simp] theorem State.setMatrix_benches (s : State) (v : Matrix) : (s.setMatrix v).benches = s.benches := rfl
@[simp] theorem State.setMatrix_hv (s : State) (v : Matrix) : (s.setMatrix v).hv = s.hv := rfl
@[simp] theorem State.setMatrix_printer (s : State) (v : Matrix) : (s.setMatrix v).printer = s.printer := rfl
@[simp] theorem State.setMatrix_free (s : State) (v : Matrix) : (s.setMatrix v).free = s.free := rfl
@[simp] theorem State.setMatrix_pending (s : State) (v : Matrix) : (s.setMatrix v).pending = s.pending := rfl
@[simp] theorem State.setMatrix_port (s : State) (v : Matrix) (q : Port) : (s.setMatrix v).port q = s.port q := rfl
@[simp] theorem State.setMatrix_unit (s : State) (v : Matrix) (q : Port) : (s.setMatrix v).unit q = s.unit q := rfl
@[simp] theorem State.setMatrix_trunk (s : State) (v : Matrix) (y : Station) : (s.setMatrix v).trunk y = v.trunks.get y := rfl
@[simp] theorem State.setMatrix_window (s : State) (v : Matrix) (y : Station) : (s.setMatrix v).window y = v.windows.get y := rfl
@[simp] theorem State.setMatrix_hot (s : State) (v : Matrix) (y : Station) : (s.setMatrix v).hot y = v.hot.get y := rfl
@[simp] theorem State.setMatrix_channel (s : State) (v : Matrix) (y : Station) : (s.setMatrix v).channel y = s.channel y := rfl
@[simp] theorem State.setMatrix_bench (s : State) (v : Matrix) (y : Station) : (s.setMatrix v).bench y = s.bench y := rfl
@[simp] theorem State.setMatrix_inReset (s : State) (v : Matrix) : (s.setMatrix v).inReset = s.inReset := rfl

/-! ## setTrunk -/

@[simp] theorem State.setTrunk_porn (s : State) (x : Station) (v : Trunk) : (s.setTrunk x v).porn = s.porn := rfl
@[simp] theorem State.setTrunk_linerst (s : State) (x : Station) (v : Trunk) : (s.setTrunk x v).linerst = s.linerst := rfl
@[simp] theorem State.setTrunk_cause (s : State) (x : Station) (v : Trunk) : (s.setTrunk x v).cause = s.cause := rfl
@[simp] theorem State.setTrunk_ports (s : State) (x : Station) (v : Trunk) : (s.setTrunk x v).ports = s.ports := rfl
@[simp] theorem State.setTrunk_attention (s : State) (x : Station) (v : Trunk) : (s.setTrunk x v).attention = s.attention := rfl
@[simp] theorem State.setTrunk_matrix (s : State) (x : Station) (v : Trunk) : (s.setTrunk x v).matrix = { s.matrix with trunks := s.matrix.trunks.set x v } := rfl
@[simp] theorem State.setTrunk_store (s : State) (x : Station) (v : Trunk) : (s.setTrunk x v).store = s.store := rfl
@[simp] theorem State.setTrunk_channels (s : State) (x : Station) (v : Trunk) : (s.setTrunk x v).channels = s.channels := rfl
@[simp] theorem State.setTrunk_benches (s : State) (x : Station) (v : Trunk) : (s.setTrunk x v).benches = s.benches := rfl
@[simp] theorem State.setTrunk_hv (s : State) (x : Station) (v : Trunk) : (s.setTrunk x v).hv = s.hv := rfl
@[simp] theorem State.setTrunk_printer (s : State) (x : Station) (v : Trunk) : (s.setTrunk x v).printer = s.printer := rfl
@[simp] theorem State.setTrunk_free (s : State) (x : Station) (v : Trunk) : (s.setTrunk x v).free = s.free := rfl
@[simp] theorem State.setTrunk_pending (s : State) (x : Station) (v : Trunk) : (s.setTrunk x v).pending = s.pending := rfl
@[simp] theorem State.setTrunk_port (s : State) (x : Station) (v : Trunk) (q : Port) : (s.setTrunk x v).port q = s.port q := rfl
@[simp] theorem State.setTrunk_unit (s : State) (x : Station) (v : Trunk) (q : Port) : (s.setTrunk x v).unit q = s.unit q := rfl
@[simp] theorem State.setTrunk_trunk_same (s : State) (x : Station) (v : Trunk) : (s.setTrunk x v).trunk x = v := Both.get_set_same _ _ _
theorem State.setTrunk_trunk_ne (s : State) (x : Station) (v : Trunk) {y : Station} (h : y ≠ x) : (s.setTrunk x v).trunk y = s.trunk y :=
  Both.get_set_ne _ _ h
@[simp] theorem State.setTrunk_trunk_other (s : State) (x : Station) (v : Trunk) : (s.setTrunk x v).trunk x.other = s.trunk x.other :=
  Both.get_set_other _ _ _
@[simp] theorem State.setTrunk_window (s : State) (x : Station) (v : Trunk) (y : Station) : (s.setTrunk x v).window y = s.window y := rfl
@[simp] theorem State.setTrunk_hot (s : State) (x : Station) (v : Trunk) (y : Station) : (s.setTrunk x v).hot y = s.hot y := rfl
@[simp] theorem State.setTrunk_channel (s : State) (x : Station) (v : Trunk) (y : Station) : (s.setTrunk x v).channel y = s.channel y := rfl
@[simp] theorem State.setTrunk_bench (s : State) (x : Station) (v : Trunk) (y : Station) : (s.setTrunk x v).bench y = s.bench y := rfl
@[simp] theorem State.setTrunk_inReset (s : State) (x : Station) (v : Trunk) : (s.setTrunk x v).inReset = s.inReset := rfl

/-! ## setStore -/

@[simp] theorem State.setStore_porn (s : State) (v : Store) : (s.setStore v).porn = s.porn := rfl
@[simp] theorem State.setStore_linerst (s : State) (v : Store) : (s.setStore v).linerst = s.linerst := rfl
@[simp] theorem State.setStore_cause (s : State) (v : Store) : (s.setStore v).cause = s.cause := rfl
@[simp] theorem State.setStore_ports (s : State) (v : Store) : (s.setStore v).ports = s.ports := rfl
@[simp] theorem State.setStore_attention (s : State) (v : Store) : (s.setStore v).attention = s.attention := rfl
@[simp] theorem State.setStore_matrix (s : State) (v : Store) : (s.setStore v).matrix = s.matrix := rfl
@[simp] theorem State.setStore_store (s : State) (v : Store) : (s.setStore v).store = v := rfl
@[simp] theorem State.setStore_channels (s : State) (v : Store) : (s.setStore v).channels = s.channels := rfl
@[simp] theorem State.setStore_benches (s : State) (v : Store) : (s.setStore v).benches = s.benches := rfl
@[simp] theorem State.setStore_hv (s : State) (v : Store) : (s.setStore v).hv = s.hv := rfl
@[simp] theorem State.setStore_printer (s : State) (v : Store) : (s.setStore v).printer = s.printer := rfl
@[simp] theorem State.setStore_free (s : State) (v : Store) : (s.setStore v).free = s.free := rfl
@[simp] theorem State.setStore_pending (s : State) (v : Store) : (s.setStore v).pending = s.pending := rfl
@[simp] theorem State.setStore_port (s : State) (v : Store) (q : Port) : (s.setStore v).port q = s.port q := rfl
@[simp] theorem State.setStore_unit (s : State) (v : Store) (q : Port) : (s.setStore v).unit q = s.unit q := rfl
@[simp] theorem State.setStore_trunk (s : State) (v : Store) (y : Station) : (s.setStore v).trunk y = s.trunk y := rfl
@[simp] theorem State.setStore_window (s : State) (v : Store) (y : Station) : (s.setStore v).window y = s.window y := rfl
@[simp] theorem State.setStore_hot (s : State) (v : Store) (y : Station) : (s.setStore v).hot y = s.hot y := rfl
@[simp] theorem State.setStore_channel (s : State) (v : Store) (y : Station) : (s.setStore v).channel y = s.channel y := rfl
@[simp] theorem State.setStore_bench (s : State) (v : Store) (y : Station) : (s.setStore v).bench y = s.bench y := rfl
@[simp] theorem State.setStore_inReset (s : State) (v : Store) : (s.setStore v).inReset = s.inReset := rfl

/-! ## setChannel -/

@[simp] theorem State.setChannel_porn (s : State) (x : Station) (v : Channel) : (s.setChannel x v).porn = s.porn := rfl
@[simp] theorem State.setChannel_linerst (s : State) (x : Station) (v : Channel) : (s.setChannel x v).linerst = s.linerst := rfl
@[simp] theorem State.setChannel_cause (s : State) (x : Station) (v : Channel) : (s.setChannel x v).cause = s.cause := rfl
@[simp] theorem State.setChannel_ports (s : State) (x : Station) (v : Channel) : (s.setChannel x v).ports = s.ports := rfl
@[simp] theorem State.setChannel_attention (s : State) (x : Station) (v : Channel) : (s.setChannel x v).attention = s.attention := rfl
@[simp] theorem State.setChannel_matrix (s : State) (x : Station) (v : Channel) : (s.setChannel x v).matrix = s.matrix := rfl
@[simp] theorem State.setChannel_store (s : State) (x : Station) (v : Channel) : (s.setChannel x v).store = s.store := rfl
@[simp] theorem State.setChannel_channels (s : State) (x : Station) (v : Channel) : (s.setChannel x v).channels = s.channels.set x v := rfl
@[simp] theorem State.setChannel_benches (s : State) (x : Station) (v : Channel) : (s.setChannel x v).benches = s.benches := rfl
@[simp] theorem State.setChannel_hv (s : State) (x : Station) (v : Channel) : (s.setChannel x v).hv = s.hv := rfl
@[simp] theorem State.setChannel_printer (s : State) (x : Station) (v : Channel) : (s.setChannel x v).printer = s.printer := rfl
@[simp] theorem State.setChannel_free (s : State) (x : Station) (v : Channel) : (s.setChannel x v).free = s.free := rfl
@[simp] theorem State.setChannel_pending (s : State) (x : Station) (v : Channel) : (s.setChannel x v).pending = s.pending := rfl
@[simp] theorem State.setChannel_port (s : State) (x : Station) (v : Channel) (q : Port) : (s.setChannel x v).port q = s.port q := rfl
@[simp] theorem State.setChannel_unit (s : State) (x : Station) (v : Channel) (q : Port) : (s.setChannel x v).unit q = s.unit q := rfl
@[simp] theorem State.setChannel_trunk (s : State) (x : Station) (v : Channel) (y : Station) : (s.setChannel x v).trunk y = s.trunk y := rfl
@[simp] theorem State.setChannel_window (s : State) (x : Station) (v : Channel) (y : Station) : (s.setChannel x v).window y = s.window y := rfl
@[simp] theorem State.setChannel_hot (s : State) (x : Station) (v : Channel) (y : Station) : (s.setChannel x v).hot y = s.hot y := rfl
@[simp] theorem State.setChannel_channel_same (s : State) (x : Station) (v : Channel) : (s.setChannel x v).channel x = v := Both.get_set_same _ _ _
theorem State.setChannel_channel_ne (s : State) (x : Station) (v : Channel) {y : Station} (h : y ≠ x) : (s.setChannel x v).channel y = s.channel y :=
  Both.get_set_ne _ _ h
@[simp] theorem State.setChannel_channel_other (s : State) (x : Station) (v : Channel) : (s.setChannel x v).channel x.other = s.channel x.other :=
  Both.get_set_other _ _ _
@[simp] theorem State.setChannel_bench (s : State) (x : Station) (v : Channel) (y : Station) : (s.setChannel x v).bench y = s.bench y := rfl
@[simp] theorem State.setChannel_inReset (s : State) (x : Station) (v : Channel) : (s.setChannel x v).inReset = s.inReset := rfl

/-! ## setBench -/

@[simp] theorem State.setBench_porn (s : State) (x : Station) (v : Bench) : (s.setBench x v).porn = s.porn := rfl
@[simp] theorem State.setBench_linerst (s : State) (x : Station) (v : Bench) : (s.setBench x v).linerst = s.linerst := rfl
@[simp] theorem State.setBench_cause (s : State) (x : Station) (v : Bench) : (s.setBench x v).cause = s.cause := rfl
@[simp] theorem State.setBench_ports (s : State) (x : Station) (v : Bench) : (s.setBench x v).ports = s.ports := rfl
@[simp] theorem State.setBench_attention (s : State) (x : Station) (v : Bench) : (s.setBench x v).attention = s.attention := rfl
@[simp] theorem State.setBench_matrix (s : State) (x : Station) (v : Bench) : (s.setBench x v).matrix = s.matrix := rfl
@[simp] theorem State.setBench_store (s : State) (x : Station) (v : Bench) : (s.setBench x v).store = s.store := rfl
@[simp] theorem State.setBench_channels (s : State) (x : Station) (v : Bench) : (s.setBench x v).channels = s.channels := rfl
@[simp] theorem State.setBench_benches (s : State) (x : Station) (v : Bench) : (s.setBench x v).benches = s.benches.set x v := rfl
@[simp] theorem State.setBench_hv (s : State) (x : Station) (v : Bench) : (s.setBench x v).hv = s.hv := rfl
@[simp] theorem State.setBench_printer (s : State) (x : Station) (v : Bench) : (s.setBench x v).printer = s.printer := rfl
@[simp] theorem State.setBench_free (s : State) (x : Station) (v : Bench) : (s.setBench x v).free = s.free := rfl
@[simp] theorem State.setBench_pending (s : State) (x : Station) (v : Bench) : (s.setBench x v).pending = s.pending := rfl
@[simp] theorem State.setBench_port (s : State) (x : Station) (v : Bench) (q : Port) : (s.setBench x v).port q = s.port q := rfl
@[simp] theorem State.setBench_unit (s : State) (x : Station) (v : Bench) (q : Port) : (s.setBench x v).unit q = s.unit q := rfl
@[simp] theorem State.setBench_trunk (s : State) (x : Station) (v : Bench) (y : Station) : (s.setBench x v).trunk y = s.trunk y := rfl
@[simp] theorem State.setBench_window (s : State) (x : Station) (v : Bench) (y : Station) : (s.setBench x v).window y = s.window y := rfl
@[simp] theorem State.setBench_hot (s : State) (x : Station) (v : Bench) (y : Station) : (s.setBench x v).hot y = s.hot y := rfl
@[simp] theorem State.setBench_channel (s : State) (x : Station) (v : Bench) (y : Station) : (s.setBench x v).channel y = s.channel y := rfl
@[simp] theorem State.setBench_bench_same (s : State) (x : Station) (v : Bench) : (s.setBench x v).bench x = v := Both.get_set_same _ _ _
theorem State.setBench_bench_ne (s : State) (x : Station) (v : Bench) {y : Station} (h : y ≠ x) : (s.setBench x v).bench y = s.bench y :=
  Both.get_set_ne _ _ h
@[simp] theorem State.setBench_bench_other (s : State) (x : Station) (v : Bench) : (s.setBench x v).bench x.other = s.bench x.other :=
  Both.get_set_other _ _ _
@[simp] theorem State.setBench_inReset (s : State) (x : Station) (v : Bench) : (s.setBench x v).inReset = s.inReset := rfl

/-! ## setHv -/

@[simp] theorem State.setHv_porn (s : State) (v : Hv) : (s.setHv v).porn = s.porn := rfl
@[simp] theorem State.setHv_linerst (s : State) (v : Hv) : (s.setHv v).linerst = s.linerst := rfl
@[simp] theorem State.setHv_cause (s : State) (v : Hv) : (s.setHv v).cause = s.cause := rfl
@[simp] theorem State.setHv_ports (s : State) (v : Hv) : (s.setHv v).ports = s.ports := rfl
@[simp] theorem State.setHv_attention (s : State) (v : Hv) : (s.setHv v).attention = s.attention := rfl
@[simp] theorem State.setHv_matrix (s : State) (v : Hv) : (s.setHv v).matrix = s.matrix := rfl
@[simp] theorem State.setHv_store (s : State) (v : Hv) : (s.setHv v).store = s.store := rfl
@[simp] theorem State.setHv_channels (s : State) (v : Hv) : (s.setHv v).channels = s.channels := rfl
@[simp] theorem State.setHv_benches (s : State) (v : Hv) : (s.setHv v).benches = s.benches := rfl
@[simp] theorem State.setHv_hv (s : State) (v : Hv) : (s.setHv v).hv = v := rfl
@[simp] theorem State.setHv_printer (s : State) (v : Hv) : (s.setHv v).printer = s.printer := rfl
@[simp] theorem State.setHv_free (s : State) (v : Hv) : (s.setHv v).free = s.free := rfl
@[simp] theorem State.setHv_pending (s : State) (v : Hv) : (s.setHv v).pending = s.pending := rfl
@[simp] theorem State.setHv_port (s : State) (v : Hv) (q : Port) : (s.setHv v).port q = s.port q := rfl
@[simp] theorem State.setHv_unit (s : State) (v : Hv) (q : Port) : (s.setHv v).unit q = s.unit q := rfl
@[simp] theorem State.setHv_trunk (s : State) (v : Hv) (y : Station) : (s.setHv v).trunk y = s.trunk y := rfl
@[simp] theorem State.setHv_window (s : State) (v : Hv) (y : Station) : (s.setHv v).window y = s.window y := rfl
@[simp] theorem State.setHv_hot (s : State) (v : Hv) (y : Station) : (s.setHv v).hot y = s.hot y := rfl
@[simp] theorem State.setHv_channel (s : State) (v : Hv) (y : Station) : (s.setHv v).channel y = s.channel y := rfl
@[simp] theorem State.setHv_bench (s : State) (v : Hv) (y : Station) : (s.setHv v).bench y = s.bench y := rfl
@[simp] theorem State.setHv_inReset (s : State) (v : Hv) : (s.setHv v).inReset = s.inReset := rfl

/-! ## setPrinter -/

@[simp] theorem State.setPrinter_porn (s : State) (v : Printer) : (s.setPrinter v).porn = s.porn := rfl
@[simp] theorem State.setPrinter_linerst (s : State) (v : Printer) : (s.setPrinter v).linerst = s.linerst := rfl
@[simp] theorem State.setPrinter_cause (s : State) (v : Printer) : (s.setPrinter v).cause = s.cause := rfl
@[simp] theorem State.setPrinter_ports (s : State) (v : Printer) : (s.setPrinter v).ports = s.ports := rfl
@[simp] theorem State.setPrinter_attention (s : State) (v : Printer) : (s.setPrinter v).attention = s.attention := rfl
@[simp] theorem State.setPrinter_matrix (s : State) (v : Printer) : (s.setPrinter v).matrix = s.matrix := rfl
@[simp] theorem State.setPrinter_store (s : State) (v : Printer) : (s.setPrinter v).store = s.store := rfl
@[simp] theorem State.setPrinter_channels (s : State) (v : Printer) : (s.setPrinter v).channels = s.channels := rfl
@[simp] theorem State.setPrinter_benches (s : State) (v : Printer) : (s.setPrinter v).benches = s.benches := rfl
@[simp] theorem State.setPrinter_hv (s : State) (v : Printer) : (s.setPrinter v).hv = s.hv := rfl
@[simp] theorem State.setPrinter_printer (s : State) (v : Printer) : (s.setPrinter v).printer = v := rfl
@[simp] theorem State.setPrinter_free (s : State) (v : Printer) : (s.setPrinter v).free = s.free := rfl
@[simp] theorem State.setPrinter_pending (s : State) (v : Printer) : (s.setPrinter v).pending = s.pending := rfl
@[simp] theorem State.setPrinter_port (s : State) (v : Printer) (q : Port) : (s.setPrinter v).port q = s.port q := rfl
@[simp] theorem State.setPrinter_unit (s : State) (v : Printer) (q : Port) : (s.setPrinter v).unit q = s.unit q := rfl
@[simp] theorem State.setPrinter_trunk (s : State) (v : Printer) (y : Station) : (s.setPrinter v).trunk y = s.trunk y := rfl
@[simp] theorem State.setPrinter_window (s : State) (v : Printer) (y : Station) : (s.setPrinter v).window y = s.window y := rfl
@[simp] theorem State.setPrinter_hot (s : State) (v : Printer) (y : Station) : (s.setPrinter v).hot y = s.hot y := rfl
@[simp] theorem State.setPrinter_channel (s : State) (v : Printer) (y : Station) : (s.setPrinter v).channel y = s.channel y := rfl
@[simp] theorem State.setPrinter_bench (s : State) (v : Printer) (y : Station) : (s.setPrinter v).bench y = s.bench y := rfl
@[simp] theorem State.setPrinter_inReset (s : State) (v : Printer) : (s.setPrinter v).inReset = s.inReset := rfl

/-! ## advanceFree -/

@[simp] theorem State.advanceFree_porn (s : State) : s.advanceFree.porn = s.porn := rfl
@[simp] theorem State.advanceFree_linerst (s : State) : s.advanceFree.linerst = s.linerst := rfl
@[simp] theorem State.advanceFree_cause (s : State) : s.advanceFree.cause = s.cause := rfl
@[simp] theorem State.advanceFree_ports (s : State) : s.advanceFree.ports = s.ports := rfl
@[simp] theorem State.advanceFree_attention (s : State) : s.advanceFree.attention = s.attention := rfl
@[simp] theorem State.advanceFree_matrix (s : State) : s.advanceFree.matrix = s.matrix := rfl
@[simp] theorem State.advanceFree_store (s : State) : s.advanceFree.store = s.store := rfl
@[simp] theorem State.advanceFree_channels (s : State) : s.advanceFree.channels = s.channels := rfl
@[simp] theorem State.advanceFree_benches (s : State) : s.advanceFree.benches = s.benches := rfl
@[simp] theorem State.advanceFree_hv (s : State) : s.advanceFree.hv = s.hv := rfl
@[simp] theorem State.advanceFree_printer (s : State) : s.advanceFree.printer = s.printer := rfl
@[simp] theorem State.advanceFree_free (s : State) : s.advanceFree.free = s.free + 1 := rfl
@[simp] theorem State.advanceFree_pending (s : State) : s.advanceFree.pending = s.pending := rfl
@[simp] theorem State.advanceFree_port (s : State) (q : Port) : s.advanceFree.port q = s.port q := rfl
@[simp] theorem State.advanceFree_unit (s : State) (q : Port) : s.advanceFree.unit q = s.unit q := rfl
@[simp] theorem State.advanceFree_trunk (s : State) (y : Station) : s.advanceFree.trunk y = s.trunk y := rfl
@[simp] theorem State.advanceFree_window (s : State) (y : Station) : s.advanceFree.window y = s.window y := rfl
@[simp] theorem State.advanceFree_hot (s : State) (y : Station) : s.advanceFree.hot y = s.hot y := rfl
@[simp] theorem State.advanceFree_channel (s : State) (y : Station) : s.advanceFree.channel y = s.channel y := rfl
@[simp] theorem State.advanceFree_bench (s : State) (y : Station) : s.advanceFree.bench y = s.bench y := rfl
@[simp] theorem State.advanceFree_inReset (s : State) : s.advanceFree.inReset = s.inReset := rfl

end Sys2Proof.Machine
end

