-- ==== Sys2Proof/Laws/Worked.lean ====
section
/-! SUPPORT. What the work of the engines, the trunk controllers, the channels and the source leaves alone: one relation, `Worked`, and
one lemma for each shared operation. The provers cite these and do not unfold the operations. -/

namespace Sys2Proof.Machine

/-! ## The relation -/

/-- The matrix without its controllers' work: what only a chain load, a window request, a monitor or a reset changes. -/
def Matrix.ground (m : Matrix) :
    MatrixState × Option RelayImage × Selectors × CardSet × Both Window × Both Bool × Option Housekeeping :=
  (m.state, m.image, m.selTable, m.presence, m.windows, m.hot, m.hkWait)

/-- The settle times of the two trunks. -/
def Matrix.settleTimes (m : Matrix) : Both Nat := ⟨m.trunks.a.settleTime, m.trunks.b.settleTime⟩

/-- The terms of the HV unit: what only a request, an input, a failed discharge or a reset changes. -/
def Hv.terms (h : Hv) : Permission × Limits × BuildMax × Option Station × Both Bool × Bool :=
  (h.permission, h.limits, h.build, h.latch, h.lidClosed, h.estop)

/-- The books of a station: what only a request, a run's opening or end, or a reset changes. -/
def Bench.books (b : Bench) : Nat × Counters × TicketPolicy × Option LastRun × BankNo :=
  (b.nextSerial, b.counters, b.policy, b.summary, b.lastBank)

/-- An attention unit in which sources have been raised and nothing else done. -/
def RaisedFrom (u v : Attention) : Prop :=
  v.levels = u.levels ∧ v.stack = u.stack ∧ v.base = u.base ∧ ∀ n, u.pending.getLsbD n = true → v.pending.getLsbD n = true

/-- State t comes from s by work of engines, trunks, channels and source: the frame that all of it keeps. -/
structure Worked (s t : State) : Prop where
  pending : t.pending = s.pending
  porn : t.porn = s.porn
  linerst : t.linerst = s.linerst
  cause : t.cause = s.cause
  free : t.free = s.free
  ports : t.ports = s.ports
  store : t.store = s.store
  printer : t.printer = s.printer
  ground : t.matrix.ground = s.matrix.ground
  settleTimes : t.matrix.settleTimes = s.matrix.settleTimes
  terms : t.hv.terms = s.hv.terms
  books : ∀ x, (t.bench x).books = (s.bench x).books
  units : ∀ p, RaisedFrom (s.unit p) (t.unit p)

theorem RaisedFrom.refl (u : Attention) : RaisedFrom u u := ⟨rfl, rfl, rfl, fun _ h => h⟩

theorem RaisedFrom.trans {u v w : Attention} (h : RaisedFrom u v) (k : RaisedFrom v w) : RaisedFrom u w :=
  ⟨k.1.trans h.1, k.2.1.trans h.2.1, k.2.2.1.trans h.2.2.1, fun n hn => k.2.2.2 n (h.2.2.2 n hn)⟩

theorem Worked.refl (s : State) : Worked s s :=
  ⟨rfl, rfl, rfl, rfl, rfl, rfl, rfl, rfl, rfl, rfl, rfl, fun _ => rfl, fun _ => .refl _⟩

theorem Worked.trans {s t u : State} (h : Worked s t) (k : Worked t u) : Worked s u :=
  ⟨k.pending.trans h.pending, k.porn.trans h.porn, k.linerst.trans h.linerst, k.cause.trans h.cause, k.free.trans h.free,
    k.ports.trans h.ports, k.store.trans h.store, k.printer.trans h.printer, k.ground.trans h.ground,
    k.settleTimes.trans h.settleTimes, k.terms.trans h.terms, fun x => (k.books x).trans (h.books x),
    fun p => (h.units p).trans (k.units p)⟩

/-- The last operation first: it fixes the state in between. -/
theorem Worked.after {s t u : State} (k : Worked t u) (h : Worked s t) : Worked s u := h.trans k

/-! ## Updates -/

theorem worked_setHv {s : State} {h : Hv} (e : h.terms = s.hv.terms) : Worked s (s.setHv h) :=
  ⟨rfl, rfl, rfl, rfl, rfl, rfl, rfl, rfl, rfl, rfl, e, fun _ => rfl, fun _ => .refl _⟩

theorem worked_setChannel (s : State) (x : Station) (c : Channel) : Worked s (s.setChannel x c) :=
  ⟨rfl, rfl, rfl, rfl, rfl, rfl, rfl, rfl, rfl, rfl, rfl, fun _ => rfl, fun _ => .refl _⟩

theorem worked_setMatrix {s : State} {m : Matrix} (e : m.ground = s.matrix.ground) (f : m.settleTimes = s.matrix.settleTimes) :
    Worked s (s.setMatrix m) :=
  ⟨rfl, rfl, rfl, rfl, rfl, rfl, rfl, rfl, e, f, rfl, fun _ => rfl, fun _ => .refl _⟩

theorem worked_setTrunk {s : State} {x : Station} {t : Trunk} (e : t.settleTime = (s.trunk x).settleTime) : Worked s (s.setTrunk x t) := by
  refine ⟨rfl, rfl, rfl, rfl, rfl, rfl, rfl, rfl, rfl, ?_, rfl, fun _ => rfl, fun _ => .refl _⟩
  cases x <;> simp_all [Matrix.settleTimes, State.setTrunk, State.trunk, Both.set, Both.get]

theorem worked_setBench {s : State} {x : Station} {b : Bench} (e : b.books = (s.bench x).books) : Worked s (s.setBench x b) := by
  refine ⟨rfl, rfl, rfl, rfl, rfl, rfl, rfl, rfl, rfl, rfl, rfl, fun y => ?_, fun _ => .refl _⟩
  by_cases h : y = x
  · subst h; simpa using e
  · rw [State.setBench_bench_ne _ _ _ h]

/-- A raising sets one pending bit at most, and nothing else of the unit. -/
theorem raisedFrom_raiseIn (u : Attention) (n : Nat) : RaisedFrom u (raiseIn u n) := by
  unfold raiseIn
  split
  · exact .refl u
  · exact ⟨rfl, rfl, rfl, fun k hk => by simp [hk]⟩

theorem worked_raise (p : Port) (n : Nat) (s : State) : Worked s (raise p n s) := by
  refine ⟨rfl, rfl, rfl, rfl, rfl, rfl, rfl, rfl, rfl, rfl, rfl, fun _ => rfl, fun q => ?_⟩
  by_cases h : q = p
  · subst h; simpa [raise] using raisedFrom_raiseIn _ n
  · rw [raise, State.setUnit_unit_ne _ _ _ h]; exact .refl _

/-- A source whose level is not OFF is pending once raised. -/
theorem raise_pending (p : Port) (n : Nat) (s : State) (hn : n < 16) (h : sourceLevel (s.unit p) n ≠ .off) :
    ((raise p n s).unit p).pending.getLsbD n = true := by
  simp [raise, raiseIn, h, sourceBit, hn]

/-- Raising touches no other port's unit. -/
theorem raise_unit_ne {p q : Port} (n : Nat) (s : State) (h : q ≠ p) : (raise p n s).unit q = s.unit q := by
  rw [raise, State.setUnit_unit_ne _ _ _ h]

/-! ## Source.lean -/

theorem worked_leaveIsolation (x : Station) (s : State) : Worked s (leaveIsolation x s) := worked_setChannel _ _ _

theorem worked_connectSource (x : Station) (s : State) : Worked s (connectSource x s) := by
  unfold connectSource
  split
  · split
    · exact worked_setHv rfl
    · exact .refl s
  · exact .refl s

theorem worked_cutAperture (x : Station) (s : State) : Worked s (cutAperture x s) := by
  unfold cutAperture
  simp only
  split
  · split
    · exact (worked_setChannel _ _ _).trans (worked_connectSource _ _)
    · exact worked_setChannel _ _ _
  · exact .refl s

theorem worked_isolateChannel (x : Station) (s : State) : Worked s (isolateChannel x s) := by
  unfold isolateChannel
  simp only
  split
  · exact worked_setChannel _ _ _
  all_goals exact (worked_setChannel _ _ _).trans (worked_connectSource _ _)

theorem worked_endDischarge (e : Energisation) (o : EnergOutcome) (s : State) : Worked s (endDischarge e o s).1 :=
  Worked.after (worked_leaveIsolation _ _) (worked_setHv rfl)

theorem worked_enterDischarge (e : Energisation) (o : EnergOutcome) (s : State) : Worked s (enterDischarge e o s).1 := by
  unfold enterDischarge
  split
  · exact worked_setHv rfl
  · exact worked_endDischarge _ _ _

theorem worked_cutEnergisation (x : Station) (c : CutCause) (s : State) : Worked s (cutEnergisation x c s).1 := by
  unfold cutEnergisation
  split
  · split
    · split
      · exact Worked.after (worked_leaveIsolation _ _) (worked_setHv rfl)
      all_goals first | exact .refl s | exact worked_enterDischarge _ _ _
    · exact .refl s
  · exact .refl s

theorem worked_leaveSettled (x : Station) (s : State) : Worked s (leaveSettled x s) :=
  (worked_cutEnergisation _ _ _).trans (worked_cutAperture _ _)

/-! ## Trunk.lean -/

theorem startTrunk_frame (m : Matrix) :
    m.startTrunk.ground = m.ground ∧ m.startTrunk.settleTimes = m.settleTimes ∧ m.startTrunk.trunks = m.trunks := by
  unfold Matrix.startTrunk
  split <;> exact ⟨rfl, rfl, rfl⟩

theorem arbitrate_frame (m : Matrix) :
    m.arbitrate.ground = m.ground ∧ m.arbitrate.settleTimes = m.settleTimes ∧ m.arbitrate.trunks = m.trunks := by
  unfold Matrix.arbitrate
  split
  · exact ⟨rfl, rfl, rfl⟩
  · split
    · split
      · exact ⟨rfl, rfl, rfl⟩
      · exact startTrunk_frame m
    · exact startTrunk_frame m

theorem worked_chainStart (s : State) : Worked s (chainStart s) :=
  worked_setMatrix (arbitrate_frame _).1 (arbitrate_frame _).2.1

theorem worked_requestLoad (x : Station) (r : Relays) (s : State) : Worked s (requestLoad x r s) :=
  Worked.after (worked_chainStart _) (worked_setMatrix rfl rfl)

theorem worked_withdrawLoad (x : Station) (s : State) : Worked s (withdrawLoad x s) := worked_setMatrix rfl rfl

theorem worked_requestHousekeeping (k : Housekeeping) (s : State) : Worked s (requestHousekeeping k s) := by
  unfold requestHousekeeping
  split
  · exact .refl s
  · exact Worked.after (worked_chainStart _) (worked_setMatrix rfl rfl)

theorem settleTime_leaveSettled (x y : Station) (s : State) : ((leaveSettled x s).trunk y).settleTime = (s.trunk y).settleTime := by
  have h := (worked_leaveSettled x s).settleTimes
  cases y <;> simp [Matrix.settleTimes] at h <;> simp [State.trunk, Both.get, h]

theorem worked_takeUp (x : Station) (c : Configuration) (s : State) : Worked s (takeUp x c s).1 := by
  have h0 : Worked s (if (s.trunk x).state = .settled then leaveSettled x s else s) := by
    split
    · exact worked_leaveSettled _ _
    · exact .refl s
  refine h0.trans ?_
  unfold takeUp
  simp only
  generalize (if (s.trunk x).state = .settled then leaveSettled x s else s) = s0
  split
  · exact worked_setTrunk rfl
  · split
    · exact Worked.after (worked_requestLoad _ _ _) (worked_setTrunk rfl)
    · split
      · exact Worked.after (worked_requestLoad _ _ _) (worked_setTrunk rfl)
      · split
        · exact worked_setTrunk rfl
        · exact worked_setTrunk rfl

theorem worked_arrive (x : Station) (c : Configuration) (s : State) : Worked s (arrive x c s).1 := by
  unfold arrive
  simp only
  split
  · exact worked_setTrunk rfl
  · split
    · exact worked_takeUp _ _ _
    · exact worked_takeUp _ _ _
    · split
      · exact worked_setTrunk rfl
      · exact worked_setTrunk rfl
    all_goals exact worked_setTrunk rfl

theorem worked_completeConfig (x : Station) (b : Bool) (s : State) : Worked s (completeConfig x b s).1 := by
  unfold completeConfig
  simp only
  split
  · exact Worked.after (worked_takeUp _ _ _) (worked_setTrunk rfl)
  · split
    · exact worked_setTrunk rfl
    · exact worked_setTrunk rfl

theorem worked_trunkLoadDone (x : Station) (s : State) : Worked s (trunkLoadDone x s).1 := by
  unfold trunkLoadDone
  simp only
  split
  · exact .refl s
  · split
    · exact worked_setTrunk rfl
    · split
      · exact Worked.after (worked_completeConfig _ _ _) (worked_takeUp _ _ _)
      · exact worked_takeUp _ _ _
    · exact worked_setTrunk rfl
    · exact .refl s

theorem worked_releaseWaitEnds (x : Station) (s : State) : Worked s (releaseWaitEnds x s).1 := by
  unfold releaseWaitEnds
  simp only
  split
  · split
    · exact Worked.after (worked_requestLoad _ _ _) (worked_setTrunk rfl)
    · split
      · exact worked_completeConfig _ _ _
      · exact worked_setTrunk rfl
  · exact .refl s

theorem worked_settleTimeEnds (x : Station) (s : State) : Worked s (settleTimeEnds x s).1 := by
  unfold settleTimeEnds
  split
  · exact worked_completeConfig _ _ _
  · exact .refl s

theorem worked_guardTrunk (x : Station) (s : State) : Worked s (guardTrunk x s) := by
  unfold guardTrunk
  simp only
  split
  iterate 3
    split
    · exact worked_setTrunk rfl
    · exact Worked.after (worked_withdrawLoad _ _) (worked_setTrunk rfl)
  all_goals exact .refl s

theorem worked_unguardTrunk (x : Station) (s : State) : Worked s (unguardTrunk x s).1 := by
  unfold unguardTrunk
  simp only
  split
  · split
    · exact worked_setTrunk rfl
    split
    · exact worked_setTrunk rfl
    · split
      · exact Worked.after (worked_completeConfig _ _ _) (worked_takeUp _ _ _)
      · exact worked_takeUp _ _ _
  · exact .refl s

theorem worked_stationResetTrunk (x : Station) (s : State) : Worked s (stationResetTrunk x s) := by
  unfold stationResetTrunk
  simp only
  split
  · exact worked_setTrunk rfl
  · have h1 : Worked s (withdrawLoad x (s.setTrunk x { s.trunk x with waiting := none })) :=
      Worked.after (worked_withdrawLoad _ _) (worked_setTrunk rfl)
    split
    · split
      · exact (h1.trans (worked_leaveSettled _ _)).trans (worked_setTrunk rfl)
      · exact h1.trans (worked_setTrunk rfl)
    · exact h1.trans (worked_takeUp _ _ _)

theorem worked_supervisorResetTrunk (x : Station) (s : State) : Worked s (supervisorResetTrunk x s) := by
  unfold supervisorResetTrunk
  simp only
  split
  · exact worked_setTrunk rfl
  · exact worked_setTrunk rfl

theorem worked_allOpenDone (x : Station) (s : State) : Worked s (allOpenDone x s).1 := by
  unfold allOpenDone
  simp only
  split
  · split
    · exact Worked.after (worked_takeUp _ _ _) (worked_setTrunk rfl)
    · exact worked_setTrunk rfl
  · exact .refl s

theorem worked_takeWaiting (x : Station) (s : State) : Worked s (takeWaiting x s).1 := by
  unfold takeWaiting
  simp only
  split
  · exact Worked.after (worked_arrive _ _ _) (worked_setTrunk rfl)
  · exact .refl s

end Sys2Proof.Machine
end

