-- ==== Sys2Proof/Laws/Cases.lean ====
section
/-! SUPPORT. What the shared operations of the chain and the trunks can do: one lemma for each that lists its outcomes. -/

namespace Sys2Proof.Machine

/-- The arbiter does nothing, starts a trunk's load, or starts a housekeeping load (R4, R5). -/
theorem arbitrate_cases (m : Matrix) :
    m.arbitrate = m ∨
    (∃ k, m.load = none ∧ m.hk = some k ∧ m.mayStart k = true ∧
      m.arbitrate = { m with load := some (m.housekeepingLoad k), hk := none }) ∨
    (∃ x r, m.load = none ∧ m.slots.get x = some r ∧
      m.arbitrate = { m with load := some (m.trunkLoad x r), slots := m.slots.set x none, lastServed := x }) := by
  have trunk : m.load = none → m.arbitrate = m.startTrunk →
      m.arbitrate = m ∨ ∃ x r, m.load = none ∧ m.slots.get x = some r ∧
        m.arbitrate = { m with load := some (m.trunkLoad x r), slots := m.slots.set x none, lastServed := x } := by
    intro hl h
    rw [h]
    unfold Matrix.startTrunk
    split
    · next x r hn =>
      refine .inr ⟨x, r, hl, ?_, rfl⟩
      unfold Matrix.nextTrunk at hn
      split at hn
      · next h1 => cases hn; exact h1
      · next h1 h2 => cases hn; exact h2
      · cases hn
    · exact .inl rfl
  cases hl : m.load with
  | some l => exact .inl (by simp [Matrix.arbitrate, hl])
  | none =>
    cases hk : m.hk with
    | none =>
      rcases trunk hl (by simp [Matrix.arbitrate, hl, hk]) with h | ⟨x, r, h1, h2, h3⟩
      · exact .inl h
      · exact .inr (.inr ⟨x, r, rfl, h2, by rw [h3, hk]⟩)
    | some k =>
      by_cases hs : m.mayStart k = true
      · exact .inr (.inl ⟨k, rfl, rfl, hs, by simp [Matrix.arbitrate, hl, hk, hs]⟩)
      · rcases trunk hl (by simp [Matrix.arbitrate, hl, hk, hs]) with h | ⟨x, r, h1, h2, h3⟩
        · exact .inl h
        · exact .inr (.inr ⟨x, r, rfl, h2, by rw [h3, hk]⟩)

/-- After the arbiter has looked, a free chain leaves no trunk's request waiting (R4). -/
theorem arbitrate_served (m : Matrix) (h : m.arbitrate.load = none) : m.arbitrate.slots.a = none ∧ m.arbitrate.slots.b = none := by
  have trunk : m.startTrunk.load = none → m.startTrunk.slots.a = none ∧ m.startTrunk.slots.b = none := by
    unfold Matrix.startTrunk
    split
    · intro hn; cases hn
    · next hn =>
      intro _
      unfold Matrix.nextTrunk at hn
      cases hs : m.lastServed <;> cases ha : m.slots.a <;> cases hb : m.slots.b <;>
        simp [hs, Station.other, Both.get, ha, hb] at hn ⊢
  unfold Matrix.arbitrate at h ⊢
  split at h
  · next hl => simp [h] at hl
  · next hl =>
    rw [if_neg hl]
    split at h
    · split at h
      · cases h
      · next hk => rw [if_neg hk]; exact trunk h
    · exact trunk h

/-- Taking up a configuration: the trunk has left SETTLED, and is then GUARDED, OPENING, CLOSING, at rest with the empty configuration
complete at once, or SETTLING (R10). -/
theorem takeUp_cases (x : Station) (c : Configuration) (s s0 : State) (t : Trunk)
    (h0 : s0 = if (s.trunk x).state = .settled then leaveSettled x s else s)
    (ht : t = { s0.trunk x with config := some c, target := targetOf (s0.window x) c, part := .load, settleTimer := none }) :
    (s0.hot x = true ∧ takeUp x c s = (s0.setTrunk x { t with state := .guarded }, false)) ∨
    (s0.hot x = false ∧ (trunkRelays s0 x).opensSome t.target = true ∧
      takeUp x c s = (requestLoad x ((trunkRelays s0 x).opened t.target) (s0.setTrunk x { t with state := .opening }), false)) ∨
    (s0.hot x = false ∧ (trunkRelays s0 x).opensSome t.target = false ∧ (trunkRelays s0 x).closesSome t.target = true ∧
      takeUp x c s = (requestLoad x t.target (s0.setTrunk x { t with state := .closing }), false)) ∨
    (s0.hot x = false ∧ (trunkRelays s0 x).opensSome t.target = false ∧ (trunkRelays s0 x).closesSome t.target = false ∧ c = .empty ∧
      takeUp x c s = (s0.setTrunk x t.rest, true)) ∨
    (s0.hot x = false ∧ (trunkRelays s0 x).opensSome t.target = false ∧ (trunkRelays s0 x).closesSome t.target = false ∧ c ≠ .empty ∧
      takeUp x c s = (s0.setTrunk x t.settle, false)) := by
  subst ht
  unfold takeUp
  simp only [← h0]
  cases hh : s0.hot x with
  | true => exact .inl ⟨rfl, by simp⟩
  | false =>
    cases ho : (trunkRelays s0 x).opensSome (targetOf (s0.window x) c) with
    | true => exact .inr (.inl ⟨rfl, rfl, by simp⟩)
    | false =>
      cases hc : (trunkRelays s0 x).closesSome (targetOf (s0.window x) c) with
      | true => exact .inr (.inr (.inl ⟨rfl, rfl, rfl, by simp⟩))
      | false =>
        by_cases he : c = .empty
        · exact .inr (.inr (.inr (.inl ⟨rfl, rfl, rfl, he, by simp [he]⟩)))
        · exact .inr (.inr (.inr (.inr ⟨rfl, rfl, rfl, he, by simp [he]⟩)))

/-- The set of one point holds that point and no other. -/
theorem pointSet_getLsbD {p : Nat} (q : Nat) (hp : p < 2048) : (pointSet q).getLsbD p = decide (p = q) := by
  unfold pointSet
  rw [Bool.eq_iff_iff]
  simp only [BitVec.getLsbD_shiftLeft, BitVec.getLsbD_one, hp, decide_true, Bool.true_and, Bool.and_eq_true, Bool.not_eq_true',
    decide_eq_true_eq, decide_eq_false_iff_not]
  omega

/-- A member set holds the points of its entries. -/
theorem memberSet_getLsbD (m : List ImageCell) (first count : Nat) {p : Nat} (hp : p < 2048) :
    (memberSet m first count).getLsbD p = true ↔ ∃ j, j < count ∧ memberAt m (first + j) = p := by
  induction count with
  | zero => simp [memberSet]
  | succ n ih =>
    simp only [memberSet, BitVec.getLsbD_or, Bool.or_eq_true, ih, pointSet_getLsbD _ hp, decide_eq_true_eq]
    constructor
    · rintro (⟨j, hj, h⟩ | h)
      · exact ⟨j, by omega, h⟩
      · exact ⟨n, by omega, h.symm⟩
    · rintro ⟨j, hj, h⟩
      by_cases e : j = n
      · subst e; exact .inr h.symm
      · exact .inl ⟨j, by omega, h⟩

/-- The points of several drivers are those of any of them. -/
theorem driversPoints_getLsbD (m : List ImageCell) (ds : List Driver) (p : Nat) :
    (driversPoints m ds).getLsbD p = ds.any (fun d => (driverPoints m d).getLsbD p) := by
  induction ds with
  | nil => exact BitVec.getLsbD_zero
  | cons d rest ih => simp only [driversPoints, BitVec.getLsbD_or, ih, List.any_cons]

/-- The points of a window are those on its cards (R17). -/
theorem Window.points_getLsbD (w : Window) {p : Nat} (hp : p < 2048) : w.points.getLsbD p = decide (OnCards w p) := by
  unfold Window.points Window.size Window.enabled OnCards
  by_cases h : w.base ≤ w.limit
  · rw [Bool.eq_iff_iff]
    simp only [h, decide_true, if_true, BitVec.getLsbD_shiftLeft, BitVec.getLsbD_ushiftRight, BitVec.getLsbD_allOnes, hp,
      Bool.true_and, Bool.and_eq_true, Bool.not_eq_true', decide_eq_true_eq, decide_eq_false_iff_not]
    omega
  · have hn : ¬ (32 * w.base ≤ p ∧ p < 32 * (w.limit + 1)) := by omega
    rw [decide_eq_false hn, decide_eq_false h]
    exact BitVec.getLsbD_zero

/-- A trunk's load writes its positions on the trunk's own cards and the relay image elsewhere, drive side (R3). -/
theorem trunkLoad_drive (m : Matrix) (x : Station) (r : Relays) {p : Nat} (hp : p < 2048) :
    (m.trunkLoad x r).contents.relays.drive.getLsbD p =
      if OnCards (m.windows.get x) p then r.drive.getLsbD p else m.known.relays.drive.getLsbD p := by
  simp only [Matrix.trunkLoad, BitVec.getLsbD_or, BitVec.getLsbD_and, BitVec.getLsbD_not, Window.points_getLsbD _ hp, hp]
  by_cases h : OnCards (m.windows.get x) p <;> simp [h]

/-- The same of the return side (R3). -/
theorem trunkLoad_ret (m : Matrix) (x : Station) (r : Relays) {p : Nat} (hp : p < 2048) :
    (m.trunkLoad x r).contents.relays.ret.getLsbD p =
      if OnCards (m.windows.get x) p then r.ret.getLsbD p else m.known.relays.ret.getLsbD p := by
  simp only [Matrix.trunkLoad, BitVec.getLsbD_or, BitVec.getLsbD_and, BitVec.getLsbD_not, Window.points_getLsbD _ hp, hp]
  by_cases h : OnCards (m.windows.get x) p <;> simp [h]

/-- What the fall of the monitor makes of a GUARDED trunk: it shows OPENING again and waits, for the supervisor all-open load or for a
load of its own that still runs, or it takes up its held configuration (R13, R16). -/
theorem unguardTrunk_cases (x : Station) (s : State) (h : (s.trunk x).state = .guarded) :
    ((s.trunk x).part = .deviceAllOpen ∧ unguardTrunk x s = (s.setTrunk x { s.trunk x with state := .opening }, none)) ∨
    ((s.trunk x).part ≠ .deviceAllOpen ∧ ownLoadRuns s x = true ∧
      unguardTrunk x s = (s.setTrunk x { s.trunk x with state := .opening, part := .earlierLoad }, none)) ∨
    ((s.trunk x).part ≠ .deviceAllOpen ∧ ownLoadRuns s x = false ∧
      unguardTrunk x s =
        (if (takeUp x ((s.trunk x).config.getD .empty) s).2 then
          completeConfig x false (takeUp x ((s.trunk x).config.getD .empty) s).1
        else ((takeUp x ((s.trunk x).config.getD .empty) s).1, none))) := by
  unfold unguardTrunk
  by_cases hp : (s.trunk x).part = .deviceAllOpen
  · simp [h, hp]
  · cases ownLoadRuns s x <;> simp [h, hp]

/-- The two halves of a target are apart (R3, R9). -/
theorem targetOf_apart (w : Window) (c : Configuration) : (targetOf w c).Apart := by
  simp only [Relays.Apart, targetOf]
  ext i hi
  simp
  intro h1 h2 h3
  simp_all

/-- The opening image is apart where the target is (R10). -/
theorem opened_apart {now target : Relays} (h : target.Apart) : (now.opened target).Apart := by
  simp only [Relays.Apart, Relays.opened] at *
  ext i hi
  have := congrArg (fun v => v.getLsbD i) h
  simp at this ⊢
  intro _ h1 _
  exact this h1

/-- A release of the holder: nothing without a holder, pending with the switch not OFF, else made (R119). -/
theorem releaseHolder_cases (s : State) :
    (s.hv.holder = none ∧ releaseHolder s = s) ∨
    (s.hv.holder ≠ none ∧ s.hv.sw ≠ .off ∧ releaseHolder s = s.setHv { s.hv with releasePending := true }) ∨
    (∃ x, s.hv.holder = some x ∧ s.hv.sw = .off ∧
      releaseHolder s = lookForGrant (if s.hv.quiet then s.setHv s.hv.released else raise x.port srcHvReleased (s.setHv s.hv.released))) := by
  cases hh : s.hv.holder with
  | none => exact .inl ⟨rfl, by simp [releaseHolder, hh]⟩
  | some x =>
    by_cases hs : s.hv.sw = .off
    · exact .inr (.inr ⟨x, rfl, hs, by simp [releaseHolder, hh, hs]⟩)
    · exact .inr (.inl ⟨by simp, hs, by simp [releaseHolder, hh, hs]⟩)

/-- The arbiter grants a station whose conditions hold and which asks in line, or nobody (R116, R117). -/
theorem lookForGrant_cases (s : State) :
    ((∀ x ∈ s.hv.line, s.hv.grantable x = false) ∧ lookForGrant s = s) ∨
    (∃ x, x ∈ s.hv.line ∧ s.hv.grantable x = true ∧ lookForGrant s = grant x s) := by
  unfold lookForGrant
  split
  · next x h => exact .inr ⟨x, List.mem_of_find?_eq_some h, by simpa using List.find?_some h, rfl⟩
  · next h => exact .inl ⟨by simpa using h, rfl⟩

end Sys2Proof.Machine
end

