-- ==== Sys2Proof/Laws/Engines.lean ====
section
/-! SUPPORT. The relation `Worked` for the channels, the arbiter and the sweep engines: one lemma for each shared operation. -/

namespace Sys2Proof.Machine

/-! ## Measure.lean -/

theorem worked_requestMeasurement (x : Station) (m : Measurement) (s : State) : Worked s (requestMeasurement x m s).1 := by
  unfold requestMeasurement
  simp only
  split <;> exact worked_setChannel _ _ _

theorem worked_compensate (x : Station) (s : State) : Worked s (compensate x s).1 := by
  unfold compensate
  simp only
  split
  · exact .refl s
  · split
    · exact worked_setChannel _ _ _
    · exact .refl s

theorem worked_isolatePending (x : Station) (s : State) : Worked s (isolatePending x s) := by
  unfold isolatePending
  simp only
  split
  · exact (worked_connectSource _ _).after (worked_setChannel _ _ _)
  · exact .refl s

theorem worked_endAperture (x : Station) (code : Word16) (s : State) : Worked s (endAperture x code s).1 := by
  unfold endAperture
  simp only
  split
  · split
    · exact (worked_isolatePending _ _).after (worked_setChannel _ _ _)
    · exact (worked_compensate _ _).after ((worked_isolatePending _ _).after (worked_setChannel _ _ _))
  · exact .refl s

theorem worked_discardCompensation (x : Station) (s : State) : Worked s (discardCompensation x s) := by
  unfold discardCompensation
  simp only
  split
  · exact worked_setChannel _ _ _
  · exact .refl s

theorem worked_stationResetChannel (x : Station) (s : State) : Worked s (stationResetChannel x s) := worked_setChannel _ _ _

/-! ## Arbiter.lean -/

theorem worked_handConfig (x : Station) (c : Configuration) (s : State) : Worked s (handConfig x c s) :=
  (worked_arrive _ _ _).after (worked_setBench rfl)

theorem worked_holdRead (x : Station) (r : ReadPoint) (s : State) : Worked s (holdRead x r s) := worked_setBench rfl

theorem worked_handStep (x : Station) (s : State) : Worked s (handStep x s) := by
  unfold handStep
  split
  · exact worked_holdRead _ _ _
  · split
    · exact worked_handConfig _ _ _
    · exact .refl s

theorem worked_stepMayGo (x : Station) (s : State) : Worked s (stepMayGo x s) := by
  unfold stepMayGo
  split
  · split
    · exact (worked_handStep _ _).after (worked_setBench rfl)
    · exact .refl s
  · exact .refl s

theorem terms_lineUp (h : Hv) (x : Station) : (h.lineUp x).terms = h.terms := rfl

theorem terms_setStepAsk (h : Hv) (x : Station) (v : Bool) : (h.setStepAsk x v).terms = h.terms := rfl

theorem terms_setReserveAsk (h : Hv) (x : Station) (v : Bool) : (h.setReserveAsk x v).terms = h.terms := rfl

theorem terms_clearAsks (h : Hv) (x : Station) : (h.clearAsks x).terms = h.terms := rfl

theorem terms_granted (h : Hv) (x : Station) : (h.granted x).terms = h.terms := rfl

theorem terms_released (h : Hv) : h.released.terms = h.terms := rfl

theorem terms_countString (h : Hv) : h.countString.terms = h.terms := rfl

theorem worked_grant (x : Station) (s : State) : Worked s (grant x s) := by
  have h1 : Worked s (raise x.port srcHvGranted (s.setHv (s.hv.granted x))) := (worked_raise _ _ _).after (worked_setHv rfl)
  unfold grant
  simp only
  split
  · exact (worked_stepMayGo _ _).after h1
  · exact h1

theorem worked_lookForGrant (s : State) : Worked s (lookForGrant s) := by
  unfold lookForGrant
  split
  · exact worked_grant _ _
  · exact .refl s

theorem worked_releaseHolder (s : State) : Worked s (releaseHolder s) := by
  unfold releaseHolder
  split
  · split
    · refine (worked_lookForGrant _).after ?_
      split
      · exact worked_setHv rfl
      · exact (worked_raise _ _ _).after (worked_setHv rfl)
    · exact worked_setHv rfl
  · exact .refl s

theorem worked_releaseIfDue (s : State) : Worked s (releaseIfDue s) := by
  unfold releaseIfDue
  split
  · exact worked_releaseHolder _
  · exact .refl s

theorem worked_keepSource (s : State) : Worked s (keepSource s) := worked_setHv rfl

theorem worked_stepEnd (x : Station) (q : Bool) (s : State) : Worked s (stepEnd x q s) := by
  unfold stepEnd
  simp only
  split
  · split
    · exact (worked_releaseHolder _).after (worked_setHv rfl)
    · split
      · split
        · refine (worked_releaseHolder _).after (worked_setHv ?_)
          split <;> split <;> rfl
        · exact (worked_keepSource _).after (worked_setHv rfl)
      · exact (worked_releaseHolder _).after (worked_setHv rfl)
  · exact .refl s

theorem worked_stepWaits (x : Station) (s : State) : Worked s (stepWaits x s) := by
  unfold stepWaits
  split
  · exact (worked_stepMayGo _ _).after (worked_setHv rfl)
  · exact (worked_lookForGrant _).after (worked_setHv rfl)

theorem worked_clearAsks (x : Station) (s : State) : Worked s (clearAsks x s) := worked_setHv rfl

theorem worked_energise (x : Station) (v d : Nat) (s : State) : Worked s (energise x v d s).1 := by
  unfold energise
  split
  · exact .refl s
  · exact (worked_isolateChannel _ _).after (worked_setHv rfl)

/-! ## Insulation.lean -/

theorem worked_recordDefect (x : Station) (b : Bool) (d : Defect) (s : State) : Worked s (recordDefect x b d s) := by
  unfold recordDefect
  split
  · exact (worked_raise _ _ _).after (worked_setBench rfl)
  · exact .refl s

theorem worked_mapRecord (x : Station) (f : RunRecord → RunRecord) (s : State) : Worked s (mapRecord x f s) := worked_setBench rfl

theorem worked_takeUpQueued (x : Station) (q : StepRecord) (s : State) : Worked s (takeUpQueued x q s) := by
  unfold takeUpQueued
  simp only
  split
  · exact worked_setBench rfl
  · exact (worked_stepWaits _ _).after (worked_setBench rfl)

theorem worked_activityDone (x : Station) (s : State) : Worked s (activityDone x s) := by
  unfold activityDone
  simp only
  split
  · exact (worked_raise _ _ _).after (worked_setBench rfl)
  · split
    · exact (worked_takeUpQueued _ _ _).after ((worked_raise _ _ _).after (worked_setBench rfl))
    · exact (worked_raise _ _ _).after (worked_setBench rfl)
  all_goals exact worked_setBench rfl

theorem worked_handEmpty (x : Station) (s : State) : Worked s (handEmpty x s) := by
  have h := (worked_arrive x .empty (s.setBench x { s.bench x with handed := .empty, wait := .allOpen })).after (worked_setBench rfl)
  unfold handEmpty
  simp only
  split
  · exact (worked_activityDone _ _).after h
  · exact h

theorem worked_finishStep (x : Station) (s : State) : Worked s (finishStep x s) := by
  unfold finishStep
  simp only
  split
  · refine (worked_handEmpty _ _).after ?_
    split
    · refine Worked.after (worked_setHv ?_) (worked_setBench ?_) <;> rfl
    · exact (worked_stepEnd _ _ _).after (worked_setBench rfl)
  · exact .refl s

theorem worked_dropQueued (x : Station) (s : State) : Worked s (dropQueued x s) := by
  unfold dropQueued
  split
  · refine Worked.after (worked_setHv ?_) (worked_setBench ?_) <;> rfl
  · exact .refl s

theorem worked_markInterrupted (x : Station) (s : State) : Worked s (markInterrupted x s) :=
  Worked.trans ((worked_mapRecord _ _ _).after (worked_dropQueued x s)) (worked_setBench rfl)

theorem worked_handLocate (x : Station) (s : State) : Worked s (handLocate x s) := by
  unfold handLocate
  split
  · exact worked_holdRead _ _ _
  · split
    · exact worked_handConfig _ _ _
    · exact .refl s

theorem worked_recordRanges (x : Station) (st : StepRecord) (es : List Entry) (s : State) : Worked s (recordRanges x st es s) := by
  induction es generalizing s with
  | nil => exact .refl s
  | cons e es ih => exact (ih _).after (worked_recordDefect _ _ _ _)

theorem worked_locateNext (x : Station) (st : StepRecord) (r : List Entry × List Entry) (s : State) : Worked s (locateNext x st r s) := by
  have h : Worked s (recordRanges x st r.2 (s.setBench x { s.bench x with locator := r.1 })) :=
    (worked_recordRanges _ _ _ _).after (worked_setBench rfl)
  unfold locateNext
  simp only
  split
  · exact (worked_finishStep _ _).after h
  · exact (worked_handLocate _ _).after h

theorem worked_locateGoOn (x : Station) (st : StepRecord) (es : List Entry) (s : State) : Worked s (locateGoOn x st es s) := by
  unfold locateGoOn
  split
  · split
    · exact (worked_locateNext _ _ _ _).after (worked_recordDefect _ _ _ _)
    · exact worked_locateNext _ _ _ _
  · exact worked_locateNext _ _ _ _

theorem worked_locateResult (x : Station) (st : StepRecord) (r : Nat) (s : State) : Worked s (locateResult x st r s) := by
  unfold locateResult
  split
  · exact worked_locateNext _ _ _ _
  · exact worked_locateGoOn _ _ _ _

theorem worked_stepReading (x : Station) (st : StepRecord) (r : Nat) (s : State) : Worked s (stepReading x st r s) := by
  unfold stepReading
  split
  · exact worked_finishStep _ _
  · split
    · exact (worked_locateGoOn _ _ _ _).after (worked_setBench rfl)
    · exact (worked_finishStep _ _).after (worked_recordDefect _ _ _ _)

theorem worked_repeatConfig (x : Station) (st : StepRecord) (s : State) : Worked s (repeatConfig x st s) :=
  (worked_handConfig _ _ _).after (worked_setBench rfl)

theorem worked_stepResult (x : Station) (r : EnergResult) (s : State) : Worked s (stepResult x r s) := by
  unfold stepResult
  simp only
  split
  · split
    · split
      · exact (worked_finishStep _ _).after ((worked_markInterrupted _ _).after (worked_setBench rfl))
      iterate 3 exact (worked_finishStep _ _).after (worked_setBench rfl)
      · split
        · exact (worked_locateResult _ _ _ _).after (worked_setBench rfl)
        · exact (worked_stepReading _ _ _ _).after (worked_setBench rfl)
      · exact (worked_finishStep _ _).after ((worked_recordDefect _ _ _ _).after (worked_setBench rfl))
      · exact (worked_repeatConfig _ _ _).after (worked_setBench rfl)
    · exact .refl s
  · exact .refl s

theorem worked_tellEngine {s : State} {r : State × Ended} (h : Worked s r.1) : Worked s (tellEngine r) := by
  unfold tellEngine
  split
  · exact (worked_releaseIfDue _).after ((worked_stepResult _ _ _).after h)
  · exact h

theorem worked_interruptStep (x : Station) (c : CutCause) (s : State) : Worked s (interruptStep x c s) := by
  unfold interruptStep
  simp only
  split
  · split
    · split
      · exact .refl s
      · exact worked_dropQueued _ _
    · split
      · exact worked_tellEngine ((worked_cutEnergisation _ _ _).after (worked_markInterrupted _ _))
      · exact (worked_finishStep _ _).after (worked_markInterrupted _ _)
  · exact .refl s

theorem worked_askEnergise (x : Station) (st : StepRecord) (d : Nat) (s : State) : Worked s (askEnergise x st d s) := by
  have h := (worked_energise x st.voltage d (s.setBench x { s.bench x with step := some st, wait := .energisation })).after
    (worked_setBench rfl)
  unfold askEnergise
  simp only
  split
  · exact h.trans (worked_setBench rfl)
  · exact (worked_repeatConfig _ _ _).after h
  all_goals exact (worked_finishStep _ _).after ((worked_markInterrupted _ _).after h)

theorem worked_stepSettled (x : Station) (s : State) : Worked s (stepSettled x s) := by
  unfold stepSettled
  split
  · split
    · exact worked_askEnergise _ _ _ _
    · exact worked_askEnergise _ _ _ _
    all_goals exact .refl s
  · exact .refl s

/-! ## Sweep.lean -/

theorem worked_setSweep (x : Station) (w : Sweep) (s : State) : Worked s (setSweep x w s) := worked_setBench rfl

theorem worked_endSweep (x : Station) (c : Continuity) (s : State) : Worked s (endSweep x c s) :=
  (worked_handEmpty _ _).after (worked_setBench rfl)

theorem worked_recordAll (x : Station) (w : Sweep) (b : Bool) (ds : List Defect) (s : State) : Worked s (recordAll x w b ds s).1 := by
  induction ds generalizing s with
  | nil => exact .refl s
  | cons d ds ih =>
    simp only [recordAll]
    split
    · exact (worked_endSweep _ _ _).after (worked_recordDefect _ _ _ _)
    · exact (ih _).after (worked_recordDefect _ _ _ _)

theorem worked_handLocator (x : Station) (s : State) : Worked s (handLocator x s) := by
  unfold handLocator
  simp only
  split
  · split
    · exact worked_holdRead _ _ _
    · split
      · exact (worked_handConfig _ _ _).after (worked_setSweep _ _ _)
      · exact (worked_handConfig _ _ _).after (worked_setSweep _ _ _)
  · exact .refl s

theorem worked_startDriver (x : Station) (d : Nat) (s : State) : Worked s (startDriver x d s) := by
  unfold startDriver
  split
  · split
    · exact worked_endSweep _ _ _
    · exact (worked_handLocator _ _).after (worked_setBench rfl)
  · exact .refl s

theorem worked_isolationStart (x : Station) (s : State) : Worked s (isolationStart x s) := by
  unfold isolationStart
  simp only
  split
  · exact worked_holdRead _ _ _
  · split
    · exact (worked_startDriver _ _ _).after (worked_setSweep _ _ _)
    · exact .refl s

theorem worked_isolationNext (x : Station) (w : Sweep) (r : List Entry × List Entry) (s : State) : Worked s (isolationNext x w r s) := by
  have h : Worked s (recordAll x w true (r.2.map w.leakGroup)
      (s.setBench x { s.bench x with sweep := some w, locator := r.1 })).1 :=
    (worked_recordAll _ _ _ _ _).after (worked_setBench rfl)
  unfold isolationNext
  simp only
  split
  · exact h
  · split
    · exact (worked_startDriver _ _ _).after h
    · exact (worked_handLocator _ _).after h

theorem worked_onGroup (x : Station) (w : Sweep) (r : MeasResult) (s : State) : Worked s (onGroup x w r s) := by
  unfold onGroup
  split <;> exact worked_isolationNext _ _ _ _

theorem worked_onConfirm (x : Station) (w : Sweep) (e : Entry) (r : MeasResult) (s : State) : Worked s (onConfirm x w e r s) := by
  have h : ∀ w1 ds, Worked s (recordAll x w1 true ds (setSweep x w1 s)).1 := fun w1 ds =>
    (worked_recordAll _ _ _ _ _).after (worked_setSweep _ _ _)
  unfold onConfirm
  simp only
  split
  · exact h _ _
  · exact (worked_isolationNext _ _ _ _).after (h _ _)

theorem worked_connectionEnd (x : Station) (s : State) : Worked s (connectionEnd x s) := by
  unfold connectionEnd
  split
  · split
    · exact worked_endSweep _ _ _
    · exact (worked_isolationStart _ _).after (worked_setBench rfl)
  · exact .refl s

theorem worked_handPair (x : Station) (s : State) : Worked s (handPair x s) := by
  unfold handPair
  simp only
  split
  · exact worked_holdRead _ _ _
  · split
    · exact (worked_handConfig _ _ _).after (worked_setSweep _ _ _)
    · exact .refl s

theorem worked_beginNet (x : Station) (i : Nat) (s : State) : Worked s (beginNet x i s) := by
  unfold beginNet
  split
  · split
    · exact worked_connectionEnd _ _
    · split
      · exact (worked_holdRead _ _ _).after (worked_setSweep _ _ _)
      · split
        · exact (worked_handPair _ _).after (worked_setSweep _ _ _)
        · exact (worked_connectionEnd _ _).after (worked_setSweep _ _ _)
  · exact .refl s

theorem worked_beginSweep (x : Station) (s : State) : Worked s (beginSweep x s) := by
  unfold beginSweep
  simp only
  split
  · exact worked_holdRead _ _ _
  · split
    · exact (worked_beginNet _ _ _).after (worked_setSweep _ _ _)
    · exact .refl s

theorem worked_walkOn (x : Station) (w : Sweep) (k : Nat) (s : State) : Worked s (walkOn x w k s) := by
  unfold walkOn
  split
  · exact (worked_handPair _ _).after (worked_setSweep _ _ _)
  · exact (worked_beginNet _ _ _).after (worked_setSweep _ _ _)

theorem worked_recordThen (x : Station) (w : Sweep) (ds : List Defect) (k : Nat) (s : State) : Worked s (recordThen x w ds k s) := by
  have h : Worked s (recordAll x w false ds (setSweep x w s)).1 := (worked_recordAll _ _ _ _ _).after (worked_setSweep _ _ _)
  unfold recordThen
  simp only
  split
  · exact h
  · exact (worked_walkOn _ _ _ _).after h

theorem worked_onRetest (x : Station) (w : Sweep) (o : PairOutcome) (s : State) : Worked s (onRetest x w o s) := by
  unfold onRetest
  split <;> exact worked_recordThen _ _ _ _ _

theorem worked_onWalkPair (x : Station) (w : Sweep) (o : PairOutcome) (s : State) : Worked s (onWalkPair x w o s) := by
  unfold onWalkPair
  split
  · exact (worked_handPair _ _).after (worked_setSweep _ _ _)
  · split
    · exact (worked_handPair _ _).after (worked_setSweep _ _ _)
    · exact worked_recordThen _ _ _ _ _

theorem worked_onPair (x : Station) (w : Sweep) (r : MeasResult) (s : State) : Worked s (onPair x w r s) := by
  unfold onPair
  simp only
  split
  · exact worked_onRetest _ _ _ _
  · exact worked_onWalkPair _ _ _ _

theorem worked_repeatPair (x : Station) (s : State) : Worked s (repeatPair x s) := worked_handConfig _ _ _

theorem worked_clearTrunk (x : Station) (s : State) : Worked s (clearTrunk x s) := worked_arrive _ _ _

theorem worked_settleMeasured (x : Station) (w : Sweep) (r : MeasResult) (s : State) : Worked s (settleMeasured x w r s) := by
  unfold settleMeasured
  split
  · exact worked_onPair _ _ _ _
  · split
    · exact worked_onConfirm _ _ _ _ _
    · exact worked_onGroup _ _ _ _
  · exact .refl s

theorem worked_onMeasured (x : Station) (r : MeasResult) (s : State) : Worked s (onMeasured x r s) := by
  unfold onMeasured
  simp only
  split
  · split
    · split
      · split
        · exact worked_endSweep _ _ _
        · exact worked_repeatPair _ _
      all_goals
        split
        · exact (worked_endSweep _ _ _).after (worked_setSweep _ _ _)
        · exact worked_settleMeasured _ _ _ _
    · exact .refl s
  · split
    · exact (worked_clearTrunk _ _).after (worked_setBench rfl)
    · exact .refl s

theorem worked_measure (x : Station) (w : Sweep) (s : State) : Worked s (measure x w s) := by
  have h : ∀ m, Worked s (requestMeasurement x m (s.setBench x { s.bench x with wait := .channel })).1 := fun m =>
    (worked_requestMeasurement _ _ _).after (worked_setBench rfl)
  unfold measure
  simp only
  split
  · exact h _
  · exact (worked_repeatPair _ _).after (h _)

theorem worked_onTrunkDone (x : Station) (s : State) : Worked s (onTrunkDone x s) := by
  unfold onTrunkDone
  simp only
  split
  · exact worked_activityDone _ _
  · split
    · split
      · split
        · exact worked_endSweep _ _ _
        · exact worked_measure _ _ _
      · exact .refl s
    · exact worked_stepSettled _ _
    all_goals exact .refl s
  all_goals exact .refl s

theorem worked_tellTrunk {s : State} {r : State × Option TrunkState} (x : Station) (h : Worked s r.1) : Worked s (tellTrunk x r) := by
  unfold tellTrunk
  split
  · exact (worked_onTrunkDone _ _).after h
  · exact h

theorem worked_tellChannel {s : State} {r : State × Option MeasResult} (x : Station) (h : Worked s r.1) : Worked s (tellChannel x r) := by
  unfold tellChannel
  split
  · exact (worked_onMeasured _ _ _).after h
  · exact h

theorem worked_resumeRead (x : Station) (s : State) : Worked s (resumeRead x s) := by
  unfold resumeRead
  split
  · split
    · exact worked_endSweep _ _ _
    · split
      · exact worked_beginSweep _ _
      · exact worked_beginNet _ _ _
      · exact worked_handPair _ _
      · exact worked_isolationStart _ _
      · exact worked_handLocator _ _
      · exact worked_handStep _ _
      · exact worked_handLocate _ _
  all_goals exact .refl s

end Sys2Proof.Machine
end

