-- ==== Sys2Proof/Laws/Aside.lean ====
section
/-! SUPPORT. What a grant to the other station leaves of trunk X: with no trunk's request waiting on a free chain, trunk X stands as it
stood and no load of its own starts. -/

namespace Sys2Proof.Machine

/-- Between s and t trunk X stands aside: the rest of the matrix that it reads is unchanged, no load of its own starts or ends, and station X
does not come to stand in line. -/
structure Aside (x : Station) (s t : State) : Prop where
  ground : t.matrix.ground = s.matrix.ground
  trunk : t.trunk x = s.trunk x
  own : ownLoadRuns t x = ownLoadRuns s x
  served : ChainServed s → ChainServed t
  line : x ∈ t.hv.line → x ∈ s.hv.line

theorem Aside.trans {x : Station} {s t u : State} (h : Aside x s t) (k : Aside x t u) : Aside x s u :=
  ⟨k.ground.trans h.ground, k.trunk.trans h.trunk, k.own.trans h.own, fun c => k.served (h.served c), fun l => h.line (k.line l)⟩

/-- What touches neither the matrix nor the line leaves trunk X aside. -/
theorem aside_of_matrix {x : Station} {s t : State} (h : t.matrix = s.matrix) (l : t.hv.line = s.hv.line) : Aside x s t :=
  ⟨by rw [h], by simp only [State.trunk, h], by simp only [ownLoadRuns, h], by simp only [ChainServed, h]; exact id, by rw [l]; exact id⟩

/-- An update of the other trunk. -/
theorem aside_setTrunk {x y : Station} (h : x ≠ y) (s : State) (t : Trunk) : Aside x s (s.setTrunk y t) :=
  ⟨rfl, State.setTrunk_trunk_ne _ _ _ h, rfl, id, id⟩

/-- The chain's requester after the arbiter has looked, with nothing of trunk X waiting, is trunk X only if it was before. -/
theorem arbitrate_own {m : Matrix} {x : Station} (h : m.load = none → m.slots.get x = none) :
    m.arbitrate.load.map (·.requester) = some (.trunk x) ↔ m.load.map (·.requester) = some (.trunk x) := by
  rcases arbitrate_cases m with e | ⟨k, hl, -, -, e⟩ | ⟨z, r, hl, hz, e⟩
  · rw [e]
  · rw [e, hl]; cases k <;> simp [Matrix.housekeepingLoad, clearingLoad]
  · have hz' : z ≠ x := by
      rintro rfl
      rw [h hl] at hz
      cases hz
    rw [e, hl]; simp [Matrix.trunkLoad, hz']

/-- A request of the other trunk is placed: on a free chain, where nothing of trunk X waits, it is not trunk X's load that starts. -/
theorem aside_requestLoad {x y : Station} (h : x ≠ y) (r : Relays) {s : State} (c : ChainServed s) : Aside x s (requestLoad y r s) := by
  refine ⟨(worked_requestLoad y r s).ground, ?_, ?_, fun _ => arbitrate_served _, id⟩
  · exact congrArg (fun v : Both Trunk => v.get x) (arbitrate_frame _).2.2
  · refine decide_eq_decide.mpr (arbitrate_own (m := { s.matrix with slots := s.matrix.slots.set y (some r) }) fun hl => ?_)
    obtain ⟨ca, cb⟩ := c hl
    show (s.matrix.slots.set y (some r)).get x = none
    rw [Both.get_set_ne _ _ h]
    cases x <;> assumption

theorem aside_connectSource (x y : Station) (s : State) : Aside x s (connectSource y s) := by
  unfold connectSource
  repeat' split
  all_goals exact aside_of_matrix rfl rfl

theorem aside_cutAperture (x y : Station) (s : State) : Aside x s (cutAperture y s) := by
  have a (c : Channel) : Aside x s (s.setChannel y c) := aside_of_matrix rfl rfl
  unfold cutAperture
  dsimp only
  repeat' split
  · exact (a _).trans (aside_connectSource _ _ _)
  · exact a _
  · exact aside_of_matrix rfl rfl

theorem aside_cutEnergisation (x y : Station) (k : CutCause) (s : State) : Aside x s (cutEnergisation y k s).1 := by
  unfold cutEnergisation enterDischarge
  repeat' split
  all_goals exact aside_of_matrix rfl rfl

/-- The cut of a station's energisation and aperture reaches no trunk. -/
theorem aside_leaveSettled (x y : Station) (s : State) : Aside x s (leaveSettled y s) :=
  (aside_cutEnergisation _ _ _ _).trans (aside_cutAperture _ _ _)

theorem aside_takeUp {x y : Station} (h : x ≠ y) (cfg : Configuration) {s : State} (c : ChainServed s) : Aside x s (takeUp y cfg s).1 := by
  have h0 : Aside x s (if (s.trunk y).state = .settled then leaveSettled y s else s) := by
    split
    · exact aside_leaveSettled x y s
    · exact aside_of_matrix rfl rfl
  rcases takeUp_cases y cfg s _ _ rfl rfl with ⟨-, e⟩ | ⟨-, -, e⟩ | ⟨-, -, -, e⟩ | ⟨-, -, -, -, e⟩ | ⟨-, -, -, -, e⟩ <;> rw [e]
  · exact h0.trans (aside_setTrunk h _ _)
  · exact (h0.trans (aside_setTrunk h _ _)).trans (aside_requestLoad h _ (h0.served c))
  · exact (h0.trans (aside_setTrunk h _ _)).trans (aside_requestLoad h _ (h0.served c))
  · exact h0.trans (aside_setTrunk h _ _)
  · exact h0.trans (aside_setTrunk h _ _)

theorem aside_arrive {x y : Station} (h : x ≠ y) (cfg : Configuration) {s : State} (c : ChainServed s) : Aside x s (arrive y cfg s).1 := by
  unfold arrive
  dsimp only
  repeat' split
  all_goals first | exact aside_takeUp h cfg c | exact aside_setTrunk h _ _

theorem aside_handConfig {x y : Station} (h : x ≠ y) (cfg : Configuration) {s : State} (c : ChainServed s) :
    Aside x s (handConfig y cfg s) :=
  have a : Aside x s (s.setBench y { s.bench y with handed := cfg, wait := .trunk }) := aside_of_matrix rfl rfl
  a.trans (aside_arrive h cfg (a.served c))

theorem aside_handStep {x y : Station} (h : x ≠ y) {s : State} (c : ChainServed s) : Aside x s (handStep y s) := by
  unfold handStep
  split
  · exact aside_of_matrix rfl rfl
  · split
    · exact aside_handConfig h _ c
    · exact aside_of_matrix rfl rfl

/-- A step of the other station leaves WAIT-HV. -/
theorem aside_stepMayGo {x y : Station} (h : x ≠ y) {s : State} (c : ChainServed s) : Aside x s (stepMayGo y s) := by
  unfold stepMayGo
  split
  · next st _ =>
    split
    · have a : Aside x s (s.setBench y { s.bench y with step := some { st with state := .configure } }) := aside_of_matrix rfl rfl
      exact a.trans (aside_handStep h (a.served c))
    · exact aside_of_matrix rfl rfl
  · exact aside_of_matrix rfl rfl

/-- A station that is granted leaves the line, and no other joins it. -/
theorem granted_line (h : Hv) (x y : Station) : x ∈ (h.granted y).line → x ∈ h.line := by
  simp only [Hv.granted, Hv.clearAsks, Hv.setReserveAsk, Hv.setStepAsk, Hv.lineUp, Hv.asks, Both.get_set_same]
  repeat' split
  all_goals simp_all

/-- A grant to the other station. -/
theorem aside_grant {x y : Station} (h : x ≠ y) {s : State} (c : ChainServed s) : Aside x s (grant y s) := by
  have a : Aside x s (raise y.port srcHvGranted (s.setHv (s.hv.granted y))) :=
    ⟨rfl, rfl, rfl, id, granted_line s.hv x y⟩
  unfold grant
  dsimp only
  split
  · exact a.trans (aside_stepMayGo h (a.served c))
  · exact a

/-- The arbiter looks for a station to grant while station X does not stand in line. -/
theorem aside_lookForGrant {x : Station} {s : State} (c : ChainServed s) (hx : x ∉ s.hv.line) : Aside x s (lookForGrant s) := by
  rcases lookForGrant_cases s with ⟨-, e⟩ | ⟨y, hy, -, e⟩ <;> rw [e]
  · exact aside_of_matrix rfl rfl
  · have h : x ≠ y := by rintro rfl; exact hx hy
    exact aside_grant h c

/-- A release of the holder while station X does not stand in line. -/
theorem aside_releaseHolder {x : Station} {s : State} (c : ChainServed s) (hx : x ∉ s.hv.line) : Aside x s (releaseHolder s) := by
  rcases releaseHolder_cases s with ⟨-, e⟩ | ⟨-, -, e⟩ | ⟨y, -, -, e⟩ <;> rw [e]
  · exact aside_of_matrix rfl rfl
  · exact aside_of_matrix rfl rfl
  · have a : Aside x s (s.setHv s.hv.released) := aside_of_matrix rfl rfl
    have b : Aside x s (raise y.port srcHvReleased (s.setHv s.hv.released)) := aside_of_matrix rfl rfl
    split
    · exact a.trans (aside_lookForGrant (a.served c) hx)
    · exact b.trans (aside_lookForGrant (b.served c) hx)

/-- A station leaves the line with its asks (R121). -/
theorem clearAsks_line (h : Hv) (x : Station) : x ∉ (h.clearAsks x).line := by
  simp [Hv.clearAsks, Hv.setReserveAsk, Hv.setStepAsk, Hv.lineUp, Hv.asks]

/-- The result of an energisation that the engine does not wait for is discarded. -/
theorem stepResult_idle {x : Station} {s : State} (h : (s.bench x).wait ≠ .energisation) (r : EnergResult) : stepResult x r s = s := by
  unfold stepResult
  dsimp only
  split
  · simp [h]
  · rfl

/-- A cut of trunk X's energisation ends nothing, or an energisation of trunk X, and reaches no engine. -/
theorem cutEnergisation_told (x : Station) (k : CutCause) (s : State) :
    ((cutEnergisation x k s).2 = none ∨ ∃ r, (cutEnergisation x k s).2 = some (x, r)) ∧
    ∀ y, (cutEnergisation x k s).1.bench y = s.bench y := by
  unfold cutEnergisation enterDischarge endDischarge leaveIsolation
  split
  · next e _ =>
    split
    · next he => split <;> (try split) <;> simp [he]
    · simp
  · simp

/-- The HV unit's part of a run end leaves trunk X aside: only the other station can be granted in it (R121). -/
theorem aside_endHolding {x : Station} {s : State} (quiet : Bool) (c : ChainServed s) (h : (s.bench x).wait ≠ .energisation) :
    Aside x s (endHolding x quiet s) := by
  have out := clearAsks_line s.hv x
  have a0 : Aside x s (clearAsks x s) := ⟨rfl, rfl, rfl, id, fun l => absurd l out⟩
  have a1 := a0.trans (aside_cutEnergisation x x .runEnd (clearAsks x s))
  have out1 : x ∉ (cutEnergisation x .runEnd (clearAsks x s)).1.hv.line := fun l =>
    out ((aside_cutEnergisation x x .runEnd (clearAsks x s)).line l)
  obtain ⟨told, kept⟩ := cutEnergisation_told x .runEnd (clearAsks x s)
  have a2 : Aside x s (tellEngine (cutEnergisation x .runEnd (clearAsks x s))) ∧
      x ∉ (tellEngine (cutEnergisation x .runEnd (clearAsks x s))).hv.line := by
    unfold tellEngine
    rcases told with e | ⟨r, e⟩ <;> rw [e]
    · exact ⟨a1, out1⟩
    · dsimp only
      rw [stepResult_idle (by rw [kept]; exact h)]
      unfold releaseIfDue
      split
      · have a := aside_releaseHolder (a1.served c) out1
        exact ⟨a1.trans a, fun l => out1 (a.line l)⟩
      · exact ⟨a1, out1⟩
  unfold endHolding
  dsimp only
  generalize tellEngine (cutEnergisation x .runEnd (clearAsks x s)) = t at a2
  obtain ⟨a, out2⟩ := a2
  split
  · have b : Aside x t (t.setHv { t.hv with
        reserved := false, holderStep := false, holdTimer := none, quiet := t.hv.quiet || quiet }) := aside_of_matrix rfl rfl
    exact (a.trans b).trans (aside_releaseHolder (b.served (a.served c)) out2)
  · exact a

end Sys2Proof.Machine
end

