-- ==== Sys2Proof/Laws/Image.lean ====
section
/-! SUPPORT. The image as an addressed store: a read after a write, the words a write leaves alone, and the canonical form, which every
write keeps. -/

namespace Sys2Proof.Machine

/-- A canonical image lists nothing below its lowest word number. -/
theorem imageRead_below {m : List ImageCell} {lo a : Nat} (h : imageWfFrom lo m = true) (ha : a < lo) : imageRead m a = 0 := by
  induction m generalizing lo with
  | nil => rfl
  | cons c rest ih =>
    simp [imageWfFrom] at h
    simp only [imageRead]
    rw [if_neg (by omega)]
    exact ih h.2 (by omega)

/-- A lower bound of the word numbers can be weakened. -/
theorem imageWfFrom_mono {m : List ImageCell} {lo k : Nat} (h : imageWfFrom k m = true) (hk : lo ≤ k) : imageWfFrom lo m = true := by
  cases m with
  | nil => rfl
  | cons c rest => simp [imageWfFrom] at h ⊢; exact ⟨⟨by omega, h.1.2⟩, h.2⟩

/-- The word written is read back. -/
theorem imageRead_imageWrite_same {m : List ImageCell} {lo : Nat} (a : Nat) (v : Word16) (h : imageWfFrom lo m = true) :
    imageRead (imageWrite m a v) a = v := by
  induction m generalizing lo with
  | nil =>
    simp only [imageWrite]
    split
    · next hv => simp [imageRead, hv]
    · simp [imageRead]
  | cons c rest ih =>
    obtain ⟨b, w⟩ := c
    have hr : imageWfFrom (b + 1) rest = true := by simp [imageWfFrom] at h; exact h.2
    simp only [imageWrite]
    split
    · split
      · next hab hv => rw [hv]; simp only [imageRead]; rw [if_neg (by omega)]; exact imageRead_below hr (by omega)
      · simp [imageRead]
    · split
      · split
        · next hv => rw [hv]; exact imageRead_below hr (by omega)
        · simp [imageRead]
      · simp only [imageRead]
        rw [if_neg (by omega)]
        exact ih hr

/-- Every other word reads as before. -/
theorem imageRead_imageWrite_ne {m : List ImageCell} {lo : Nat} {a c : Nat} (v : Word16) (h : imageWfFrom lo m = true) (hc : c ≠ a) :
    imageRead (imageWrite m a v) c = imageRead m c := by
  induction m generalizing lo with
  | nil =>
    simp only [imageWrite]
    split
    · rfl
    · simp [imageRead, hc]
  | cons d rest ih =>
    obtain ⟨b, w⟩ := d
    have hr : imageWfFrom (b + 1) rest = true := by simp [imageWfFrom] at h; exact h.2
    simp only [imageWrite]
    split
    · split <;> simp [imageRead, hc]
    · split
      · next hab =>
        subst hab
        split
        · simp only [imageRead, if_neg hc]
        · simp [imageRead, hc]
      · simp only [imageRead, ih hr]

/-- A write keeps the canonical form. -/
theorem imageWfFrom_imageWrite {m : List ImageCell} {lo : Nat} {a : Nat} (v : Word16) (h : imageWfFrom lo m = true) (hlo : lo ≤ a)
    (ha : a < Config.imageWords) : imageWfFrom lo (imageWrite m a v) = true := by
  induction m generalizing lo with
  | nil =>
    simp only [imageWrite]
    split
    · rfl
    · next hv => simp only [imageWfFrom, Bool.and_true]; exact decide_eq_true ⟨hlo, ha, hv⟩
  | cons d rest ih =>
    obtain ⟨b, w⟩ := d
    have h0 := h
    simp only [imageWfFrom, Bool.and_eq_true, decide_eq_true_eq] at h
    obtain ⟨⟨hb, hbi, hw⟩, hr⟩ := h
    simp only [imageWrite]
    split
    · split
      · exact h0
      · next hab hv =>
        simp only [imageWfFrom, Bool.and_eq_true, decide_eq_true_eq]
        exact ⟨⟨hlo, ha, hv⟩, ⟨by omega, hbi, hw⟩, hr⟩
    · split
      · next hab =>
        subst hab
        split
        · exact imageWfFrom_mono hr (by omega)
        · next hv =>
          simp only [imageWfFrom, Bool.and_eq_true, decide_eq_true_eq]
          exact ⟨⟨hlo, ha, hv⟩, hr⟩
      · simp only [imageWfFrom, Bool.and_eq_true, decide_eq_true_eq]
        exact ⟨⟨hb, hbi, hw⟩, ih hr (by omega)⟩

/-- Consecutive writes keep the canonical form. -/
theorem imageWf_imageWriteAll {m : List ImageCell} {a : Nat} (ws : List Word16) (h : imageWf m = true)
    (ha : a + ws.length ≤ Config.imageWords) : imageWf (imageWriteAll m a ws) = true := by
  induction ws generalizing m a with
  | nil => exact h
  | cons w ws ih =>
    simp only [List.length_cons] at ha
    exact ih (imageWfFrom_imageWrite w h (Nat.zero_le a) (by omega)) (by omega)

/-- Words outside the written ones read as before. -/
theorem imageRead_imageWriteAll_out {m : List ImageCell} {a c : Nat} (ws : List Word16) (h : imageWf m = true)
    (ha : a + ws.length ≤ Config.imageWords) (hc : c < a ∨ a + ws.length ≤ c) :
    imageRead (imageWriteAll m a ws) c = imageRead m c := by
  induction ws generalizing m a with
  | nil => rfl
  | cons w ws ih =>
    simp only [List.length_cons] at ha hc
    have hw := imageWfFrom_imageWrite w h (Nat.zero_le a) (by omega)
    exact (ih hw (by omega) (by omega)).trans (imageRead_imageWrite_ne w h (by omega))

/-- The written words are read back in order. -/
theorem imageRead_imageWriteAll_in {m : List ImageCell} {a : Nat} (ws : List Word16) (k : Nat) (h : imageWf m = true)
    (ha : a + ws.length ≤ Config.imageWords) (hk : k < ws.length) :
    imageRead (imageWriteAll m a ws) (a + k) = ws.getD k 0 := by
  induction ws generalizing m a k with
  | nil => simp at hk
  | cons w ws ih =>
    simp only [List.length_cons] at ha hk
    have hw := imageWfFrom_imageWrite w h (Nat.zero_le a) (by omega)
    cases k with
    | zero => exact (imageRead_imageWriteAll_out ws hw (by omega) (by omega)).trans (imageRead_imageWrite_same a w h)
    | succ k =>
      have hi := ih (a := a + 1) k hw (by omega) (by omega)
      rw [show a + (k + 1) = a + 1 + k by omega]
      simpa [imageWriteAll] using hi

/-- The image right after reset is in canonical form. -/
theorem wf_reset_store : imageWf Store.reset.words = true := rfl

end Sys2Proof.Machine
end

