-- ==== Sys2Proof/Laws/Ports.lean ====
section
/-! SUPPORT. The ports: what a request does on a port whose slots are empty, and the answers in the terms of the statements. -/

namespace Sys2Proof.Machine

/-- Two updates of one port are the last one. -/
@[simp] theorem setPort_setPort (s : State) (p : Port) (v w : PortState) : (s.setPort p v).setPort p w = s.setPort p w := by
  cases p <;> rfl

@[simp] theorem endPeriod_work (v : PortState) : v.endPeriod.work = v.work := rfl
@[simp] theorem endPeriod_response (v : PortState) : v.endPeriod.response = v.response := rfl
@[simp] theorem endPeriod_dropped (v : PortState) : v.endPeriod.dropped = v.dropped := rfl
@[simp] theorem endPeriod_shifting (v : PortState) : v.endPeriod.shifting = none := rfl
@[simp] theorem endPeriod_occupied (v : PortState) : v.endPeriod.occupied = v.occupied := rfl

/-- While the part runs an event acts. -/
theorem whenRunning_running {s : State} (f : State → State) (h : s.inReset = false) : whenRunning f s = f s := by
  simp [whenRunning, h]

/-- While a reset line is asserted an event does nothing. -/
theorem whenRunning_held {s : State} (f : State → State) (h : s.inReset = true) : whenRunning f s = s := by
  simp [whenRunning, h]

/-- While the part runs a rise of chip select does what the end of its period does. -/
theorem atRise_running {s : State} (p : Port) (f : State → State) (h : s.inReset = false) : atRise p f s = f s := by
  simp [atRise, h]

/-- While a reset line is asserted a rise of chip select ends the period, which delivers nothing. -/
theorem atRise_held {s : State} (p : Port) (f : State → State) (h : s.inReset = true) :
    atRise p f s = periodOver p (s.port p).dropped s := by
  simp [atRise, h, periodOver, PortState.endPeriod]

/-- The code of a request is in the catalogue. -/
theorem codeClass_code (r : Request) : ∃ c, codeClass r.code = some c := by
  cases r <;> exact ⟨_, rfl⟩

/-- Both slots of a ready port are empty. -/
theorem Ready.empty {s : State} {p : Port} (h : Ready s p) : (s.port p).occupied = false := by
  simp [PortState.occupied, h.2.1, h.2.2]

/-- A request that its port may issue and that fits a frame is handed to its block with the period ended. -/
theorem submit_ready {s : State} {p : Port} {r : Request} {c : PortClass} (h : Ready s p) (hc : codeClass r.code = some c)
    (hp : c.holds p = true) (hw : r.wf = true) (h1 : r ≠ .resetDevice) (h2 : r ≠ .stationReset) :
    submit p r s = handOn p r (s.setPort p (s.port p).endPeriod) := by
  have he := h.empty
  cases r <;> first
    | exact absurd rfl h1
    | exact absurd rfl h2
    | simp [submit, takeFrame, judgeRequest, judge, hw, hc, hp, takeGood, he]

/-- A request that its port may not issue is refused by the port. -/
theorem submit_notPermitted {s : State} {p : Port} {r : Request} {c : PortClass} (h : Ready s p) (hc : codeClass r.code = some c)
    (hp : c.holds p = false) (hw : r.wf = true) : submit p r s = plainly p r.code .notPermitted s := by
  have he := h.empty
  simp [submit, takeFrame, judgeRequest, judge, hw, hc, hp, portRefuses, he, respond, plainly, answered, Reply.plain, Reply.response]
  rfl

/-- A reply on a port whose period has just ended is the answer of the statements. -/
theorem respond_endPeriod (s : State) (p : Port) (echo : Byte) (r : Reply) :
    respond p echo r (s.setPort p (s.port p).endPeriod) = answered p echo r.status r.clamped r.more r.payload s := by
  simp [respond, answered, Reply.response, PortState.endPeriod]

/-- Words written as bytes are read back. -/
theorem wordsOf_bytesOf (ws : List Word16) : wordsOf (bytesOf ws) = some ws := by
  induction ws with
  | nil => rfl
  | cons w ws ih =>
    have hw : word16 (w.extractLsb' 8 8) (w.extractLsb' 0 8) = w := by
      apply BitVec.eq_of_getLsbD_eq
      intro i hi
      refine (BitVec.getLsbD_append (x := w.extractLsb' 8 8) (y := w.extractLsb' 0 8)).trans ?_
      by_cases h8 : i < 8
      · simp [h8]
      · simp [h8, show i - 8 < 8 by omega, show 8 + (i - 8) = i by omega]
    simp [bytesOf, be16, wordsOf, ih, hw]

/-- The bytes of words are two a word. -/
theorem bytesOf_length (ws : List Word16) : (bytesOf ws).length = 2 * ws.length := by
  induction ws with
  | nil => rfl
  | cons w ws ih => simp [bytesOf, be16, ih]; omega

end Sys2Proof.Machine
end

