-- ==== Sys2Proof/Tests/Slice0.lean ====
section
/-! SUPPORT. Tests. First values and frames that the spec writes out, then single commands on small states, then for each statement a
state and operands that meet the hypotheses of its clauses (`witness_…`). -/

-- One test at a time: each is a kernel evaluation, and all at once they outgrow the memory limit.
set_option Elab.async false

namespace Sys2Proof.Tests

open Sys2Proof Sys2Proof.Machine

/-! ## Helpers -/

/-- The state a command leaves. -/
def after (i : Instr) (s : State) : State :=
  match exec i s with
  | .next t => t
  | .fault _ | .refused _ => s

/-- The part right after reset. -/
def base : State := State.reset

/-- The part with a READY matrix whose image is all-open. -/
def idle : State :=
  base.setMatrix { base.matrix with
    state := .ready, load := none, presence := BitVec.allOnes 64, image := some { relays := .allOpen, sel := .none },
    windows := ⟨{ base := 0, limit := 1, lock := false }, { base := 2, limit := 2, lock := false }⟩ }

/-- A reference of two nets, 1-2 and 3, over a span of 4. -/
def words : List ImageCell :=
  [(0, 0x4648), (1, 4), (2, 2), (3, 3), (5, 2000), (6, 10000), (8, 500), (9, 1000), (10, 100), (16, 2), (20, 1), (21, 2), (4112, 1),
   (4113, 2), (4114, 3), (6161, 7), (6162, 3)]

/-- The store in a state, with those words. -/
def atStore (v : RefState) (s : State) : State := s.setStore { s.store with state := v, words := words }

/-- A run record on bank 0. -/
def run0 : RunRecord := .create .reset .zero

/-- Station A with a run in a state. -/
def atRun (v : RunState) (s : State) : State :=
  s.setBench .a { s.bench .a with
    run := v, record := some run0, banks := (s.bench .a).banks.set .zero { Bank.reset with state := .recording } }

/-- Trunk A in a state, with a configuration that drives point 1 and returns point 2. -/
def atTrunk (v : TrunkState) (part : OpeningPart) (s : State) : State :=
  s.setTrunk .a { s.trunk .a with
    state := v, part := part, config := some { drive := 2, ret := 4 }, target := { drive := 2, ret := 4 } }

/-- Monitor A reads hot. -/
def hotA (s : State) : State := s.setMatrix { s.matrix with hot := ⟨true, false⟩ }

/-- An HV unit that may lend the source. -/
def lending : Hv := { Hv.reset .v1500 ⟨true, true⟩ false with permission := .permitted }

/-- The HV unit held by station A. -/
def heldA : Hv := { lending with holder := some .a }

/-- A step record on net 0, of 500 V. -/
def step0 (v : StepState) : StepRecord :=
  { selection := .net 0, selected := [0], returned := [.net 1, .point 0], voltage := 500, dwell := 1000, threshold := 100,
    locate := false, state := v, energisations := 0, lastRins := none, clamped := false, interrupted := false }

/-- Station A on an insulation step. -/
def atStep (v : StepState) (w : EngineWait) (s : State) : State :=
  (atRun .insulation s).setBench .a { (atRun .insulation s).bench .a with step := some (step0 v), wait := w }

/-- An energisation of trunk A in a stage. -/
def energ0 (g : Stage) : Energisation :=
  { trunk := .a, setpoint := 500, clamped := false, dwell := 1000, ramp := 2, trip := 1000, stage := g, outcome := none }

/-- The source on trunk A in a stage, for the step of station A. -/
def lit (g : Stage) (v : SourceState) : State :=
  (hotA (atTrunk .settled .load (atStep .energise .energisation idle))).setHv
    { heldA with holderStep := true, source := v, sw := .to .a, energ := some (energ0 g) }

/-- A sweep record in a phase, on net 0. -/
def sweep0 (v : Phase) : Sweep :=
  { Sweep.create .full 0 with phase := v, nets := 2, netCount := 2, netThreshold := 2000, anchor := 1, pairA := 1, pairB := 2 }

/-- Station A on a sweep. -/
def atSweep (v : Phase) (w : EngineWait) (s : State) : State :=
  (atRun .continuity s).setBench .a { (atRun .continuity s).bench .a with sweep := some (sweep0 v), wait := w }

/-- Channel A with an aperture running. -/
def measuring (m : Measurement) (range : Nat) (s : State) : State :=
  s.setChannel .a { Channel.reset with state := .measuring, range := range, inHand := some m }

/-- The part with relays of station A's window closed. -/
def closedA (s : State) : State :=
  s.setMatrix { s.matrix with image := some { relays := { drive := 2, ret := 4 }, sel := .none } }

/-- Station A on a sweep whose aperture runs, with a sweep record, a run record, a locator stack and a measurement; relays are closed. -/
def sweeping (w : Sweep) (r : RunRecord) (stack : List Entry) (m : Measurement) (range : Nat) : State :=
  measuring m range
    ((atSweep w.phase .channel (atStore .valid (closedA (atTrunk .settled .load idle)))).setBench .a
      { (atSweep w.phase .channel (atStore .valid (closedA (atTrunk .settled .load idle)))).bench .a with
        sweep := some w, record := some r, locator := stack })

/-- The source discharging trunk A with an outcome, for a step that waits for its result; relays are closed. -/
def ending (o : Option EnergOutcome) (st : StepRecord) (stack : List Entry) : State :=
  let s := closedA (lit .discharging .discharging)
  (s.setBench .a { s.bench .a with step := some st, locator := stack }).setHv
    { s.hv with energ := some { energ0 .discharging with outcome := o } }

/-- A run in READY of station A that may take an insulation step. -/
def mayStep (s : State) : State :=
  (atRun .ready s).setBench .a { (atRun .ready s).bench .a with record := some { run0 with continuity := .done } }

/-- A job of station A's bank 0. -/
def job0 : Job :=
  { station := .a, bank := .zero, serial := 1, verdict := .pass, found := 0, crc := none, code := ascii "FH0001", revision := 1,
    cancelled := none }

/-- The part with that job at the head of the queue, its bank PRINTING. -/
def printing : State :=
  (base.setBench .a { base.bench .a with banks := (base.bench .a).banks.set .zero { Bank.reset with state := .printing } }).setPrinter
    { base.printer with queue := [job0], link := .waitAck, risen := true, busy := true, started := true }

/-- The part with PORN asserted. -/
def inPorn : State := { base with porn := true, matrix := .reset ⟨false, false⟩ }

/-- LINERST asserted inside a chip-select period of port PA, whose fall fixed the response OK: the slot now holds ABANDONED. -/
def cutPeriod : State :=
  after (.lineReset .v1000)
    (after (.chipSelectFall .pa) (base.setPort .pa { PortState.reset with response := some ((Reply.plain .ok).response 0x30) }))

/-! ## Values the spec writes out -/

/-- R45: the source forces 100 mA, 10 mA, 1 mA and 100 µA in an aperture of range 0 to 3, and is off otherwise. -/
theorem test_forcedCurrent :
    [0, 1, 2, 3].map forcedCurrent = [100000, 10000, 1000, 100] ∧
    (({ Channel.reset with state := .measuring, range := 2 } : Channel).current = some 1000) ∧ Channel.reset.current = none := by decide

/-- R48: code 2,412 on range 0 is 1,508 mΩ (2,412 × 625 = 1,507,500). -/
theorem test_rawResistance : rawResistance 2412 0 = 1508 := by decide

/-- R48, R54: the largest code that is not over range, 65,519 on range 3, is 40,949,375 mΩ, and 40,949 Ω. -/
theorem test_largest_group : rawResistance 65519 3 = 40949375 ∧ groupOhms 40949375 = 40949 := by decide

/-- R132: 500 V with 3,700 nA are 135 MΩ; no current is 60,000 MΩ, and a tiny one never more. -/
theorem test_insulationResistance :
    insulationResistance 500 3700 = 135 ∧ insulationResistance 500 0 = 60000 ∧ insulationResistance 1000 12 = 60000 := by decide

/-- R122: a request is rounded down to 10 V and then clamped into 50 V to the cap. -/
theorem test_setpointOf : setpointOf 1500 1237 = 1230 ∧ setpointOf 1000 1237 = 1000 ∧ setpointOf 1000 9 = 50 := by decide

/-- R37: CRC of polynomial 0x8005, most significant bit first, started with 0xFFFF: 0x31, 0x32, 0x33, 0x34 leave 0xFD7D. -/
theorem test_crcWord : crcWord (crcWord 0xFFFF 0x3132) 0x3334 = 0xFD7D := by decide +kernel

/-- R27: the points of the span in no net are the unused ones. -/
theorem test_unusedPoints : unusedPoints words 4 3 = [0] := by decide +kernel

/-- R102: the lower half of a range of five candidates holds three, of two candidates one. -/
theorem test_lowerHalf : (Entry.due 3 7).mid = 5 ∧ (Entry.due 3 4).mid = 3 := by decide

/-! ## Frames written out byte by byte (R175) -/

theorem test_frame_takeNotice : parseRequest 0x01 [] = some .takeNotice := by decide
theorem test_frame_setWindow : parseRequest 0x10 [1, 4, 63] = some (.setWindow 1 4 63) := by decide
theorem test_frame_readPoints : parseRequest 0x14 [0x07, 0xFF, 1] = some (.readPoints 2047 1) := by decide
theorem test_frame_writeImage : parseRequest 0x21 [0x20, 0x0E, 0x12, 0x34, 0x00, 0x01] = some (.writeImage 8206 [0x1234, 1]) := by decide
theorem test_frame_readChannel : parseRequest 0x28 [1] = some (.readChannel 1) := by decide
theorem test_frame_startContinuity : parseRequest 0x34 [1, 128] = some (.startContinuity 1 128) := by decide
theorem test_frame_startInsulation :
    parseRequest 0x35 [1, 0xA5, 0x0F, 0x01, 0xF4, 0x03, 0xE8, 0x00, 0x64, 1] = some (.startInsulation 1 0xA50F 500 1000 100 1) := by
  decide
theorem test_frame_setSerial : parseRequest 0x37 [0, 0x00, 0x0F, 0x42, 0x3F] = some (.setSerial 0 999999) := by decide
theorem test_frame_setHvLimit : parseRequest 0x41 [4, 0, 64] = some (.setHvLimit 4 64) := by decide
theorem test_frame_readDefects : parseRequest 0x52 [1, 1, 127] = some (.readDefects 1 1 127) := by decide
theorem test_frame_written : (Request.setHvLimit 0 1500).frame = [0x41, 3, 0, 0x05, 0xDC] := by decide

/-- R175: an OK of SET HV LIMIT with CLAMPED, on a port with DROPPED; a READ IMAGE of one word, high byte first. -/
theorem test_frame_out :
    ({ response := { status := .ok, echo := 0x41, clamped := true, more := false, payload := .empty }, dropped := true } : Frame).bytes? =
      some [0x00, 0x41, 3, 0] ∧
    ({ response := { status := .ok, echo := 0x25, clamped := false, more := false, payload := .words [0x4648] },
       dropped := false } : Frame).bytes? = some [0x00, 0x25, 0, 2, 0x46, 0x48] ∧
    ({ response := { status := .notQueued, echo := 0x51, clamped := false, more := true, payload := .empty }, dropped := false } :
      Frame).bytes? = some [0x2F, 0x51, 4, 0] := by decide

/-- R161: an odd number of payload bytes is no WRITE IMAGE. -/
theorem test_frame_odd : parseRequest 0x21 [0, 0, 1] = none := by decide

/-! ## What well-formedness refuses -/

/-- A WRITE IMAGE of 123 words fits a frame, one of 124 does not (R175). -/
theorem test_wf_writeImage :
    (Instr.writeImage .ps 0 (List.replicate 123 1)).wf = true ∧ (Instr.writeImage .ps 0 (List.replicate 124 1)).wf = false := by
  decide +kernel

/-- No word of the table spells a command: its rows give no bits. -/
theorem test_decodeTableWord : decodeTableWord 16 0xFFFF = none ∧ base.withFetchWord 16 0xFFFF = base := ⟨rfl, rfl⟩

/-! ## Single commands -/

/-- R166, R168: a notice raised at level 1 brings ATTN, and TAKE NOTICE hands it out with base and level. -/
theorem test_takeNotice :
    ((after (.takeNotice .pa)
      (raise .pa srcDefect (after (.fetch .pa) (after (.setNoticeLevel .pa 2 2) base)))).port .pa).response.map (·.payload)
      = some (.bytes [2, 1]) := by decide +kernel

/-- R161, R162: a rise inside a line reset ends the period with the frame of its own fall, and the ABANDONED response stays. -/
theorem test_riseInReset :
    let v := (after (.fetch .pa) cutPeriod).port .pa
    v.shifting = none ∧ v.lastFrame.map (·.response.status) = some .ok ∧ v.response = some (abandonedResponse 0x30) := by decide +kernel

/-- R162: a fall inside a line reset fixes the frame of its own period, which is the ABANDONED response. -/
theorem test_fallInReset :
    ((after (.chipSelectFall .pa) (after (.fetch .pa) cutPeriod)).port .pa).shifting.map (fun f => (f.frame.response, f.fromSlot)) =
      some (abandonedResponse 0x30, true) := by decide +kernel

/-- R6: the clearing load is followed by the release wait, after which presence is read and the matrix is READY. -/
theorem test_clearing :
    (after (.housekeepingReleaseWaitExpiry 5) (after .chainLoadComplete base)).matrix.state = .ready ∧
    (after (.housekeepingReleaseWaitExpiry 5) (after .chainLoadComplete base)).matrix.presence = 5 := by decide +kernel

/-- R19: SET WINDOW on a READY matrix sets the selectors and requests a window load. -/
theorem test_setWindow :
    (after (.setWindow .ps 0 3 4) idle).matrix.selTable.a = 0x18 ∧
    (after (.setWindow .ps 0 3 4) idle).matrix.load.map (·.requester) = some (.housekeeping .window) := by decide +kernel

/-- R161: a frame of a code that the catalogue does not name is answered UNKNOWN-REQUEST with its code. -/
theorem test_unknownRequest :
    ((after (.requestFrame .pb [0x27, 0]) base).port .pb).response.map (fun r => (r.status, r.echo)) = some (.unknownRequest, 0x27) := by
  decide +kernel

/-- R51: the two offsets, 7 and 3 mΩ, are taken off the raw value 1,508 mΩ. -/
theorem test_compensation :
    ((after (.apertureEnd .a 2412) (measuring (.pair 1 2 0) 0 (atStore .valid idle))).channel .a).lastResult
      = some (.pairValue 1498 0) := by decide +kernel

/-- R142, R147: an INS-LOW of a step at 60 MΩ against a threshold of 100 MΩ is recorded. -/
theorem test_insLow :
    (((after (.monitorFall .a) (after (.sampleEnd 500000 8333000) (lit .sampling .sampling))).bench .a).banks.zero.records.map
      (fun d => (d.kind, d.value))) = [(.insLow, some 60)] := by decide +kernel

/-- R143, R147: a locate's candidate that is a net is recorded with its first point: net 1, whose only member is point 3. -/
theorem test_insLowCandidate :
    let st := { step0 .energise with returned := [.net 1], locate := true };
    ((((after (.monitorFall .a) (atStore .valid (ending (some (.sampled 500 5051 99)) st []))).bench .a).banks.zero.records).map
      (fun d => (d.kind, d.b))) = [(.insLow, .single { net := some 1, point := 3 })] := by decide +kernel

/-- R73, R81: a pair measurement that completes under an abort records nothing and is counted. -/
theorem test_abortCounts :
    let s := sweeping (sweep0 .connection) { run0 with abortPending := true } [] (.pair 1 2 0) 0;
    let b := (after (.apertureEnd .a 100) s).bench .a;
    b.sweep.map (·.pairs) = some ((sweep0 .connection).pairs + 1) ∧ b.record.map (·.continuity) = some .cutShort ∧
      b.banks.zero.records = [] := by decide +kernel

/-- R158: a ticket cancelled in its first line goes on with the cancel line. -/
theorem test_cancelTicket :
    (after (.cancelTicket .ps 0 0) printing).printer.queue.map (·.cancelled) = [some 1] ∧
    (ticketLine { job0 with cancelled := some 1 } .reset 2).take 16 = ascii "TICKET CANCELLED" := by decide +kernel

/-- R158: a cancel taken in STALLED makes the link restart its line when BUSY falls (log 34). -/
theorem test_cancelStalled :
    let s := printing.setPrinter { printing.printer with link := .stalled, char := 20 };
    (after .busyFall (after (.cancelTicket .ps 0 0) s)).printer.char = 1 ∧ (after .busyFall s).printer.char = 20 := by decide +kernel

/-- R13: the monitor of a SETTLING trunk rises and falls: the configuration in work is taken up again, and the one behind it waits on. -/
theorem test_guardSettling :
    let s := closedA (atTrunk .settling .load idle);
    let t := after (.monitorFall .a) (after (.monitorRise .a) (s.setTrunk .a { s.trunk .a with waiting := some .empty }));
    (t.trunk .a).config = some { drive := 2, ret := 4 } ∧ (t.trunk .a).waiting = some .empty := by decide +kernel

/-- R163, R164: a STATION RESET with a payload on an occupied port is BAD-ARGUMENT, and what the port held is lost (log 11). -/
theorem test_resetMisfit :
    let s := base.setPort .pa { PortState.reset with work := some (.readImage 0 1) };
    let t := after (.requestFrame .pa [0x33, 1, 0]) s;
    (t.port .pa).work = none ∧ (t.port .pa).dropped = true ∧ (t.port .pa).response.map (·.status) = some .badArgument := by decide +kernel

/-- R13, R62: a trunk that holds the empty configuration when its monitor falls under a closing load of its own is not IDLE while that
load or the relays it closes stand: it opens them after the load. -/
theorem test_fallUnderLoad :
    let l : ChainLoad := { requester := .trunk .a, contents := { relays := { drive := 2, ret := 4 }, sel := .none } };
    let s := hotA (idle.setTrunk .a { idle.trunk .a with state := .guarded, config := some .empty });
    let t := after (.monitorFall .a) (s.setMatrix { s.matrix with load := some l });
    (t.trunk .a).state = .opening ∧ ((after .chainLoadComplete t).trunk .a).state = .opening ∧
      ((after .chainLoadComplete t).matrix.load.map (·.contents.relays)) = some .allOpen := by decide +kernel

/-- R4: of two trunks that wait behind a load the one not last served is served first. -/
theorem test_twoTrunksWait :
    let s := idle.setMatrix { idle.matrix with load := some clearingLoad, slots := ⟨some .allOpen, some .allOpen⟩, lastServed := .a };
    let t := after .chainLoadComplete s;
    t.matrix.load.map (·.requester) = some (.trunk .b) ∧ t.matrix.lastServed = .b ∧ t.matrix.slots.a.isSome = true := by decide +kernel

/-- R16: a station reset lets a load of the trunk in progress run out, and the trunk is made all-open after it. -/
theorem test_resetUnderLoad :
    let l : ChainLoad := { requester := .trunk .a, contents := { relays := { drive := 2, ret := 4 }, sel := .none } };
    let t := after (.stationReset .pa) (idle.setMatrix { idle.matrix with load := some l });
    (t.trunk .a).state = .opening ∧ ((after .chainLoadComplete t).matrix.load.map (·.contents.relays)) = some .allOpen := by decide +kernel

/-- R78: a station reset in NO-RUN raises RUN-ENDED-A on port PS, where its level is set. -/
theorem test_resetInNoRun :
    let s := base.setUnit .ps { base.unit .ps with levels := (base.unit .ps).levels.set 4 .l1 };
    ((after (.stationReset .pa) s).unit .ps).pending = 0x10 := by decide +kernel

/-- R174: RESET DEVICE leaves SUPERVISOR in the reset cause record, and a line reset after it LINE. -/
theorem test_cause :
    (after (.resetDevice .ps) idle).cause = .supervisor ∧ (after (.lineReset .v1500) (after (.resetDevice .ps) idle)).cause = .line := by
  decide +kernel

/-! ## Witnesses: the hypotheses of the statements can be met

Each theorem names the statement; its parts are the clauses' hypotheses in order, at concrete states and operands. -/

theorem witness_StepTakesFront :
    { base with pending := [.armAlarm .ps] }.pending = Instr.armAlarm .ps :: [] ∧ base.pending = [] := by decide

theorem witness_ImageStaysCanonical :
    ∃ t, Memory.wf (atStore .valid { base with pending := [.armAlarm .ps] }) = true ∧
      step (atStore .valid { base with pending := [.armAlarm .ps] }) = .next t := ⟨_, by decide +kernel, rfl⟩

theorem witness_ChainStaysSafe :
    ∃ t, step { printing with pending := [.faultRise] } = .next t ∧ RelaysApart { printing with pending := [.faultRise] } ∧
      ChainServed { printing with pending := [.faultRise] } := by
  refine ⟨_, rfl, ⟨?_, ?_, ?_, ?_⟩, ?_⟩
  · intro m h; exact nomatch h
  · intro l h; cases h; show (0#2048 &&& 0#2048 = 0); decide +kernel
  · intro x r h; cases x <;> exact nomatch h
  · intro x; cases x <;> (show (0#2048 &&& 0#2048 = 0); decide +kernel)
  · intro h; exact ⟨rfl, rfl⟩

theorem witness_NoticesStayOrdered :
    ∃ t, step { base.setUnit .pa { Attention.reset with stack := [.top, .l1], pending := 3 } with pending := [.endNotice .pa] } = .next t ∧
      StacksRise { base.setUnit .pa { Attention.reset with stack := [.top, .l1], pending := 3 } with pending := [.endNotice .pa] } ∧
      AlarmStands { base.setUnit .pa { Attention.reset with stack := [.top, .l1], pending := 3 } with pending := [.endNotice .pa] } := by
  refine ⟨_, rfl, ?_, ?_⟩
  · intro p; cases p <;> exact ⟨by decide, by decide⟩
  · intro h; exact absurd h (by decide)

theorem witness_CountsStayInRange :
    ∃ t, step { atRun .ready base with pending := [.closeRun .pa] } = .next t ∧
      LimitsInRange { atRun .ready base with pending := [.closeRun .pa] } ∧
      SerialsInRange { atRun .ready base with pending := [.closeRun .pa] } ∧
      SettleTimesInRange { atRun .ready base with pending := [.closeRun .pa] } ∧
      CountersSum { atRun .ready base with pending := [.closeRun .pa] } ∧ BanksMatch { atRun .ready base with pending := [.closeRun .pa] } ∧
      WorkWaits { atRun .ready base with pending := [.closeRun .pa] } := by
  refine ⟨_, rfl, ?_, ?_, ?_, ?_, ?_, ?_⟩
  · show _ ∧ _; decide
  · intro x; cases x <;> decide
  · intro x; cases x <;> decide
  · intro x; cases x <;> (show _ = _; decide)
  · intro x r h; cases x <;> first | (cases h; decide) | exact nomatch h
  · intro p r h; cases p <;> exact nomatch h

theorem witness_SourceStaysSafe :
    ∃ t, SourceSafe { lit .dwelling .dwelling with pending := [.dwellExpiry] } ∧
      step { lit .dwelling .dwelling with pending := [.dwellExpiry] } = .next t := by
  refine ⟨_, ⟨?_, ?_, ?_, ?_, ?_, ?_, ?_, ?_, ?_, ?_, ?_, ?_, ?_, ?_, ?_⟩, rfl⟩
  · intro e h; cases h; exact ⟨rfl, rfl, rfl⟩
  · intro h; exact nomatch h
  · decide
  · intro x h; cases h; rfl
  · intro h; exact absurd h (by decide)
  · intro x h _; cases h; exact ⟨rfl, rfl, rfl, rfl⟩
  · intro e h; cases h; exact .inl ⟨.inr rfl, ⟨rfl, _, rfl, rfl⟩, rfl⟩
  · intro x h; cases x <;> first | exact ⟨⟨rfl, _, rfl, rfl⟩, rfl⟩ | exact nomatch h
  · intro x h
    cases x with
    | a => exact ⟨rfl, rfl, fun h => absurd h (by decide), .inl rfl⟩
    | b => exact nomatch h.1
  · intro x st h; cases x <;> exact nomatch h
  · intro x h; cases x <;> first | rfl | exact absurd rfl h
  · intro x h; cases x <;> first | exact ⟨rfl, rfl⟩ | exact nomatch h
  · intro x h; cases x <;> exact nomatch h
  · intro h; exact absurd h (by decide)
  · intro h; exact absurd h (by decide)

theorem witness_QueuesStayOrdered :
    ∃ t, step { printing with pending := [.busyFall] } = .next t ∧ AsksSettled { printing with pending := [.busyFall] } ∧
      QueueOrdered { printing with pending := [.busyFall] } := by
  refine ⟨_, rfl, ⟨by decide, ?_, ?_, ?_⟩, ⟨by decide, ?_, ?_, ?_, ?_, ?_⟩⟩
  · intro x; cases x <;> decide
  · intro _ x; cases x <;> decide
  · intro h; exact absurd h (by decide)
  · intro j h; cases h; rfl
  · intro j h; exact nomatch h
  · intro x k h
    cases x <;> cases k <;> first | exact ⟨job0, List.mem_singleton.mpr rfl, rfl, rfl⟩ | (rcases h with h | h <;> exact nomatch h)
  · intro x r h; cases x <;> exact nomatch h
  · intro h; exact absurd h (by decide)

theorem witness_RequestRowIsFrame :
    (Instr.setWindow .ps 0 63 0).request? = some (.ps, .setWindow 0 63 0) ∧ (Instr.setWindow .ps 0 63 0).wf = true ∧
    (Instr.writeImage .pa 8207 (List.replicate 123 7)).wf = true := by decide +kernel

theorem witness_FramesJudged :
    (base.inReset = false ∧ (0x20 : Byte) ≠ 0 ∧
      ((base.setPort .pa { PortState.reset with response := some (waitResponse 1) }).port .pa).occupied = true ∧
      (0x20 : Byte) ≠ 0x08 ∧ (0x20 : Byte) ≠ 0x33) ∧
    ((base.port .pa).occupied = false ∧ ¬ ((249 : Byte).toNat ≤ 248 ∧ (List.replicate 249 (0 : Byte)).length = (249 : Byte).toNat)) ∧
    ((248 : Byte).toNat ≤ 248 ∧ (List.replicate 248 (0 : Byte)).length = (248 : Byte).toNat) ∧
    codeClass 0x27 = none ∧ (codeClass 0x30 = some .station ∧ PortClass.station.holds .ps = false) ∧
    (codeClass 0x05 = some .any ∧ PortClass.any.holds .pa = true ∧ parseRequest 0x05 [] = none) ∧
    (codeClass 0x33 = some .station ∧ PortClass.station.holds .pa = true ∧ PortClass.station.holds .ps = false ∧
      codeClass 0x08 = some .supervisor ∧ PortClass.supervisor.holds .ps = true ∧ [(0 : Byte)].length = (1 : Byte).toNat) := by
  decide +kernel

theorem witness_PeriodsDeliver :
    base.inReset = false ∧
    ((base.setPort .pa { PortState.reset with response := some (waitResponse 1) }).port .pa).response = some (waitResponse 1) ∧
    (((base.setPort .pa { PortState.reset with work := some (.readImage 0 1) }).port .pa).response = none ∧
      ((base.setPort .pa { PortState.reset with work := some (.readImage 0 1) }).port .pa).work = some (.readImage 0 1)) ∧
    ((base.port .pa).response = none ∧ (base.port .pa).work = none) ∧
    ((after (.chipSelectFall .pa) base).port .pa).shifting.isSome = true ∧
    (cutPeriod.inReset = true ∧ (cutPeriod.port .pa).shifting.isSome = true) ∧
    (Port.pa ≠ .ps ∧ (after (.chipSelectFall .pa) base).inReset = false) ∧
    Payload.bytes? (.words [0x1234]) = some [0x12, 0x34] := by decide +kernel

theorem witness_TakeNoticePicks :
    (Ready (base.setUnit .pa { Attention.reset with pending := 0xC000 }) .pa ∧
      eligible { Attention.reset with pending := 0xC000 } 14 = true ∧
      ∀ m, m < 16 → eligible { Attention.reset with pending := 0xC000 } m = true →
        levelRank (sourceLevel { Attention.reset with pending := 0xC000 } m)
            ≤ levelRank (sourceLevel { Attention.reset with pending := 0xC000 } 14) ∧
        (levelRank (sourceLevel { Attention.reset with pending := 0xC000 } m)
            = levelRank (sourceLevel { Attention.reset with pending := 0xC000 } 14) → 14 ≤ m)) ∧
    (Ready base .pa ∧ ∀ n, n < 16 → eligible (base.unit .pa) n = false) := by decide +kernel

theorem witness_EndNoticePops :
    (Ready (base.setUnit .pb { Attention.reset with stack := [.top, .l0] }) .pb ∧
      ((base.setUnit .pb { Attention.reset with stack := [.top, .l0] }).unit .pb).stack = .top :: [.l0]) ∧
    (Ready base .pb ∧ (base.unit .pb).stack = []) := by decide

theorem witness_PendingWritten :
    Ready base .ps ∧ Ready base .pa ∧ (2 : Byte) ≠ 0 ∧ (2 : Byte) ≠ 1 ∧ Port.pa ≠ .ps := by decide

theorem witness_NoticeSettings :
    Ready base .pa ∧ (levelOf 3 = some .l2 ∧ (8 : Byte).toNat < (if Port.pa = .ps then 6 else 9)) ∧
    (levelOf 4 = none ∨ ¬ (9 : Byte).toNat < (if Port.pa = .ps then 6 else 9)) ∧ (0xF0 : Byte).toNat % 16 = 0 ∧
    (0xF1 : Byte).toNat % 16 ≠ 0 := by decide

theorem witness_SettleTimeSet :
    Ready base .ps ∧ (2 : Byte) ≠ 0 ∧ (2 : Byte) ≠ 1 ∧ (Ready base .pa ∧ Port.pa ≠ .ps) ∧ base.porn = false ∧ base.inReset = false := by
  decide

theorem witness_LockedWindowStays :
    Ready base .ps ∧
    (((after (.lockWindow .ps 0) idle).window .a).lock = true ∧ (∃ t, exec (.lockWindow .ps 1) (after (.lockWindow .ps 0) idle) = .next t) ∧
      (∀ b, Instr.lockWindow .ps 1 ≠ .powerOnReset b) ∧ ∀ b, Instr.lockWindow .ps 1 ≠ .lineReset b) ∧
    (Ready (after (.fetch .ps) (after (.lockWindow .ps 0) idle)) .ps ∧ (63 : Byte).toNat ≤ 63 ∧
      runOpen (after (.fetch .ps) (after (.lockWindow .ps 0) idle)) .a = false ∧
      windowsOverlap { base := 63, limit := 63, lock := true } ((after (.fetch .ps) (after (.lockWindow .ps 0) idle)).window .b) = false) ∧
    base.inReset = false := by
  refine ⟨by decide, ⟨by decide +kernel, ⟨_, rfl⟩, ?_, ?_⟩, by decide +kernel, by decide⟩
  · intro b h; exact nomatch h
  · intro b h; exact nomatch h

theorem witness_WindowSet :
    Ready idle .ps ∧ 63 < (64 : Byte).toNat ∧ ((63 : Byte).toNat ≤ 63 ∧ runOpen (atRun .ready idle) .a = true) ∧
    (runOpen idle .a = false ∧
      (0 ≤ 2 ∧ (idle.window .b).base ≤ (idle.window .b).limit ∧ 0 ≤ (idle.window .b).limit ∧ (idle.window .b).base ≤ 2)) ∧
    (¬ (0 ≤ 1 ∧ (idle.window .b).base ≤ (idle.window .b).limit ∧ 0 ≤ (idle.window .b).limit ∧ (idle.window .b).base ≤ 1) ∧
      ((after (.lockWindow .ps 0) idle).window .a).lock = true ∧
      ((idle.window .a).lock = false ∧ ((atTrunk .settled .load idle).trunk .a).state ≠ .idle) ∧
      ((idle.trunk .a).state = .idle ∧ base.matrix.state ≠ .ready ∧
        idle.matrix.selTable.take .a (Window.cards { base := 0, limit := 1, lock := false }) ≠ idle.matrix.selTable ∧
        idle.matrix.state = .ready ∧ idle.matrix.hk ≠ some .clearing ∧
        idle.matrix.selTable.a &&& idle.matrix.selTable.b = 0)) := by decide +kernel

theorem witness_TrunkLoadsMoveOn :
    (base.inReset = false ∧ base.matrix.load = some clearingLoad ∧ base.matrix.slots.a = none ∧ base.matrix.slots.b = none ∧
      base.matrix.hk = none ∧ clearingLoad.requester = .housekeeping .clearing) ∧
    (after (.setWindow .ps 0 3 4) idle).matrix.load.map (·.requester) = some (.housekeeping .window) ∧
    ((requestLoad .a .allOpen (atTrunk .opening .load idle)).matrix.load.map (·.requester) = some (.trunk .a) ∧
      ((requestLoad .a .allOpen (atTrunk .opening .load idle)).trunk .a).state = .opening ∧
      ((requestLoad .a .allOpen (atTrunk .opening .load idle)).trunk .a).part = .load) ∧
    ((requestLoad .a .allOpen (atTrunk .closing .load idle)).matrix.load.map (·.requester) = some (.trunk .a) ∧
      ((requestLoad .a .allOpen (atTrunk .closing .load idle)).trunk .a).state = .closing) ∧
    ((atTrunk .opening .releaseWait idle).inReset = false ∧ ((atTrunk .opening .releaseWait idle).trunk .a).part = .releaseWait ∧
      (trunkRelays (atTrunk .opening .releaseWait idle) .a).closesSome ((atTrunk .opening .releaseWait idle).trunk .a).target = true) ∧
    ((trunkRelays (idle.setTrunk .a { idle.trunk .a with state := .opening, part := .releaseWait }) .a).closesSome .allOpen = false ∧
      (idle.trunk .a).config ≠ some .empty) := by decide +kernel

/-- Trunk A at the end of its release wait for the empty configuration. -/
def cleared (s : State) : State :=
  s.setTrunk .a { s.trunk .a with state := .opening, part := .releaseWait, config := some .empty }

/-- Station A with its step at its end and another one queued, and an HV unit. -/
def chained (h : Hv) : State :=
  (cleared ((atStep .finish .allOpen idle).setBench .a
    { (atStep .finish .allOpen idle).bench .a with queued := some (step0 .waitHv) })).setHv h

theorem witness_TrunkLoadsMoveOn_empty :
    ((cleared idle).inReset = false ∧ ((cleared idle).trunk .a).state = .opening ∧ ((cleared idle).trunk .a).part = .releaseWait ∧
      (trunkRelays (cleared idle) .a).closesSome ((cleared idle).trunk .a).target = false ∧
      ((cleared idle).trunk .a).config = some .empty ∧ ((cleared idle).trunk .a).waiting = none ∧
      ((cleared idle).bench .a).wait ≠ .trunk ∧ ((cleared idle).bench .a).wait ≠ .allOpen) ∧
    (((cleared (atSweep .connection .allOpen idle)).bench .a).wait = .allOpen ∧
      ((cleared (atSweep .connection .allOpen idle)).bench .a).run = .continuity) ∧
    (((cleared (atStep .finish .allOpen idle)).bench .a).run = .insulation ∧
      ((cleared (atStep .finish .allOpen idle)).bench .a).queued = none) ∧
    (((chained heldA).bench .a).queued = some (step0 .waitHv) ∧ ((chained heldA).bench .a).wait = .allOpen ∧
      (trunkRelays (chained heldA) .a).closesSome ((chained heldA).trunk .a).target = false ∧
      (chained (lending.setStepAsk .a true)).hv.stepAsk.get .a = true ∧
      (chained { lending with holder := some .b }).hv.holder = some Station.a.other ∧
      (chained heldA).hv.stepAsk.get .a = false ∧ (chained heldA).hv.holder = some .a ∧ (chained heldA).hv.releasePending = false ∧
      (step0 .waitHv).state = .waitHv) := by decide +kernel

theorem witness_SettledTrunkMeasures :
    ((atTrunk .settling .load idle).inReset = false ∧ ((atTrunk .settling .load idle).trunk .a).state = .settling ∧
      ((atTrunk .settling .load idle).trunk .a).waiting = none ∧ ((atTrunk .settling .load idle).bench .a).wait ≠ .trunk ∧
      ((atTrunk .settling .load idle).bench .a).wait ≠ .allOpen) ∧
    (((atSweep .connection .trunk (atTrunk .settling .load idle)).bench .a).wait = .trunk ∧
      ((atSweep .connection .trunk (atTrunk .settling .load idle)).bench .a).run = .continuity ∧
      ((atSweep .connection .trunk (atTrunk .settling .load idle)).bench .a).sweep = some (sweep0 .connection) ∧
      ((atSweep .connection .trunk (atTrunk .settling .load idle)).bench .a).record = some run0 ∧ run0.abortPending = false ∧
      (idle.channel .a).state = .idle ∧ (idle.channel .a).isoPending = false ∧ idle.hot .a = false) ∧
    ((sweep0 .isolation).phase = .isolation ∧ [Entry.due 1 2].head?.map (·.state) ≠ some .confirm) := by decide +kernel

/-- The part with a load of a requester in progress, which closes points 1 and 2. -/
def loading (q : Requester) (s : State) : State :=
  s.setMatrix { s.matrix with load := some { requester := q, contents := { relays := { drive := 2, ret := 4 }, sel := .none } } }

/-- The known image, and loads that complete while requests wait: a housekeeping request that may start, one that may not with one trunk
waiting, two trunks, and a trunk that lets its own load run out. -/
theorem witness_TrunkLoadsMoveOn_chain :
    idle.matrix.image = some { relays := .allOpen, sel := .none } ∧
    (let s := loading (.housekeeping .window) idle;
      s.inReset = false ∧ s.matrix.load.isSome = true ∧ s.matrix.load.map (·.requester) ≠ some (.trunk .a) ∧
      { s.matrix with hk := some .allOpen }.mayStart .allOpen = true ∧
      { (hotA s).matrix with hk := some .allOpen }.mayStart .allOpen = false ∧ s.matrix.slots = ⟨none, none⟩ ∧
      ({ s.matrix with slots := ⟨some .allOpen, none⟩ } : Matrix).slots.get .b = none ∧ s.matrix.lastServed ≠ .a) ∧
    (let s := loading (.trunk .a) (atTrunk .opening .earlierLoad idle);
      s.inReset = false ∧ (s.trunk .a).state = .opening ∧ (s.trunk .a).part = .earlierLoad ∧ s.matrix.slots.get .a = none ∧
      (s.trunk .a).config = some { drive := 2, ret := 4 } ∧ ¬ DoneAtOnce s .a { drive := 2, ret := 4 }) ∧
    (let s := cleared (idle.setTrunk .a { idle.trunk .a with waiting := some { drive := 2, ret := 4 } });
      s.inReset = false ∧ (s.trunk .a).state = .opening ∧ (s.trunk .a).part = .releaseWait ∧
      (s.trunk .a).waiting = some { drive := 2, ret := 4 } ∧ (trunkRelays s .a).closesSome (s.trunk .a).target = false ∧
      (s.trunk .a).config = some .empty ∧ ¬ DoneAtOnce s .a { drive := 2, ret := 4 } ∧ s.matrix.load = none ∧ s.matrix.hk = none ∧
      s.matrix.slots.get Station.a.other = none ∧ s.hot .a = false ∧
      (trunkRelays s .a).opensSome (targetOf (s.window .a) { drive := 2, ret := 4 }) = false ∧
      (trunkRelays s .a).closesSome (targetOf (s.window .a) { drive := 2, ret := 4 }) = true) := by decide +kernel

/-- A configuration that waits at the end of the settle time: it opens a relay, it is GUARDED on a hot trunk, it settles afresh, and the
empty one is complete at once. -/
theorem witness_SettledTrunkMeasures_superseded :
    let w (c : Configuration) (s : State) : State := s.setTrunk .a { s.trunk .a with state := .settling, waiting := some c };
    ((w .empty (closedA idle)).inReset = false ∧ ((w .empty (closedA idle)).trunk .a).waiting = some .empty ∧
      ¬ DoneAtOnce (w .empty (closedA idle)) .a .empty ∧ Closed (w .empty (closedA idle)) .a ∧
      ¬ DoneAtOnce (w .empty (hotA idle)) .a .empty ∧ (hotA idle).hot .a = true) ∧
    (let c : Configuration := { drive := 2, ret := 4 };
      ¬ DoneAtOnce (w c (closedA idle)) .a c ∧ c ≠ .empty ∧
      (trunkRelays (w c (closedA idle)) .a).opensSome (targetOf (idle.window .a) c) = false ∧
      (trunkRelays (w c (closedA idle)) .a).closesSome (targetOf (idle.window .a) c) = false) ∧
    DoneAtOnce (w .empty idle) .a .empty ∧ ((w .empty idle).bench .a).wait ≠ .trunk ∧ ((w .empty idle).bench .a).wait ≠ .allOpen := by
  decide +kernel

/-- A housekeeping request is placed: it may start, it waits for a hot trunk, and a load is in progress. -/
theorem witness_HousekeepingPlaced :
    let w := Instr.setWindow .ps 0 0 2;
    let go : State := (idle.setMatrix { idle.matrix with windows := ⟨.reset, .reset⟩ });
    (go.matrix.load = none ∧ (after w go).matrix.mayStart .window = true ∧ (after w (hotA go)).matrix.mayStart .window = false ∧
      (hotA go).matrix.slots = ⟨none, none⟩ ∧ (loading (.trunk .b) go).matrix.load.isSome = true ∧
      (go.trunk .a).state = .idle ∧ go.matrix.image = some { relays := .allOpen, sel := .none }) ∧
    (let s := after .chainLoadComplete (after (.setWindow .ps 0 0 63) base);
      s.matrix.load = none ∧ s.matrix.image.isSome = true ∧
      (after (.housekeepingReleaseWaitExpiry 0) s).matrix.mayStart .window = true ∧
      (after (.housekeepingReleaseWaitExpiry 0) (hotA s)).matrix.mayStart .window = false) ∧
    (after (.resetDevice .ps) idle).matrix.mayStart .allOpen = true ∧ (after (.resetDevice .ps) (hotA idle)).matrix.mayStart .allOpen = false ∧
    (base.matrix.state ≠ .ready ∧ base.matrix.load.isSome = true) := by decide +kernel

theorem witness_HousekeepingEnds :
    (base.inReset = false ∧ (base.trunk .a).waiting = none ∧ (base.trunk .b).waiting = none ∧
      (after .chainLoadComplete base).matrix.hkWait = some .clearing ∧ (after .chainLoadComplete base).matrix.selTable = .none) ∧
    ((after .chainLoadComplete (after (.setWindow .ps 0 0 63) base)).matrix.hkWait = some .clearing ∧
      (after .chainLoadComplete (after (.setWindow .ps 0 0 63) base)).matrix.selTable ≠ .none ∧
      (after .chainLoadComplete (after (.setWindow .ps 0 0 63) base)).matrix.hk ≠ some .clearing) ∧
    ((after .chainLoadComplete (after (.resetDevice .ps) idle)).matrix.hkWait = some .allOpen ∧
      ((after .chainLoadComplete (after (.resetDevice .ps) idle)).trunk .a).part = .deviceAllOpen ∧
      ((after .chainLoadComplete (after (.resetDevice .ps) idle)).trunk .b).part = .deviceAllOpen) := by decide +kernel

theorem witness_MonitorRiseGuards :
    (idle.inReset = false ∧ idle.hot .a = false ∧ (idle.channel .a).state ≠ .measuring ∧ (idle.trunk .a).state = .idle) ∧
    (((atTrunk .opening .releaseWait idle).trunk .a).state = .opening ∧ ((atTrunk .opening .releaseWait idle).trunk .a).part = .releaseWait) ∧
    (((measuring (.group 100) 3 (atTrunk .settled .load idle)).channel .a).state = .measuring ∧
      ((measuring (.group 100) 3 (atTrunk .settled .load idle)).channel .a).isoPending = false ∧
      ((measuring (.group 100) 3 (atTrunk .settled .load idle)).trunk .a).state = .settled ∧
      ((measuring (.group 100) 3 (atTrunk .settled .load idle)).bench .a).wait ≠ .channel) ∧
    (((atTrunk .settling .load idle).trunk .a).state = .settling ∧ ((atTrunk .settling .load idle).trunk .a).part = .load) ∧
    (let s := sweeping (sweep0 .connection) run0 [] (.pair 1 2 0) 0;
      s.hot .a = false ∧ (s.channel .a).state = .measuring ∧ (s.channel .a).isoPending = false ∧ (s.trunk .a).state = .settled ∧
      (s.bench .a).record = some run0 ∧ (s.bench .a).wait = .channel ∧ (s.bench .a).sweep.isSome = true ∧
      (s.bench .a).run = .continuity ∧ run0.abortPending = false ∧ s.matrix.state = .ready ∧ s.hv.energ = none) ∧
    ∀ v ∈ [OpeningPart.deviceAllOpen, .earlierLoad],
      (((atTrunk .opening v idle).trunk .a).state = .opening ∧ ((atTrunk .opening v idle).trunk .a).part = v) := by decide +kernel

/-- The hypotheses of a GUARDED trunk's clauses where its target opens no relay: it closes one, it stands, and it is the empty one. -/
theorem witness_MonitorFallReleases_guarded :
    let c : Configuration := { drive := 2, ret := 4 };
    (∀ s ∈ [hotA (atTrunk .guarded .load idle), hotA (atTrunk .guarded .load (closedA idle)),
            hotA (idle.setTrunk .a { Trunk.reset with state := .guarded, config := some .empty })],
      s.inReset = false ∧ s.hot .a = true ∧ (s.trunk .a).state = .guarded ∧ (s.trunk .a).part ≠ .deviceAllOpen ∧
      ownLoadRuns s .a = false ∧ s.hv.energ = none ∧
      s.hv.source ≠ .faulted ∧ (s.trunk .a).waiting = none ∧ (s.bench .a).wait = .nothing) ∧
    (trunkRelays idle .a).opensSome (targetOf (idle.window .a) c) = false ∧
    (trunkRelays idle .a).closesSome (targetOf (idle.window .a) c) = true ∧
    (trunkRelays (closedA idle) .a).opensSome (targetOf (idle.window .a) c) = false ∧
    (trunkRelays (closedA idle) .a).closesSome (targetOf (idle.window .a) c) = false ∧ c ≠ .empty ∧
    (trunkRelays idle .a).opensSome (targetOf (idle.window .a) .empty) = false ∧
    (trunkRelays idle .a).closesSome (targetOf (idle.window .a) .empty) = false := by decide +kernel

/-- What else waits for a fall: a housekeeping request, the clearing pass, and a GUARDED trunk that waits for the supervisor all-open load
or for a load of its own. -/
theorem witness_MonitorFallReleases_waiting :
    (let s := hotA (idle.setMatrix { idle.matrix with hk := some .allOpen });
      s.hot .a = true ∧ (s.trunk .a).state ≠ .guarded ∧ s.hv.energ = none ∧ s.hv.source ≠ .faulted ∧ s.matrix.load = none ∧
      s.matrix.state = .ready ∧ { s.matrix with hot := s.matrix.hot.set .a false }.mayStart .allOpen = true) ∧
    (let s := hotA (idle.setMatrix { idle.matrix with state := .unknown });
      (s.trunk .a).state ≠ .guarded ∧ s.matrix.load = none ∧ s.matrix.state = .unknown ∧ s.hot Station.a.other = false) ∧
    ((hotA (atTrunk .guarded .deviceAllOpen idle)).trunk .a).part = .deviceAllOpen ∧
    (let s := loading (.trunk .a) (hotA (atTrunk .guarded .load idle));
      (s.trunk .a).state = .guarded ∧ (s.trunk .a).part ≠ .deviceAllOpen ∧ ownLoadRuns s .a = true ∧ s.hot .a = true) ∧
    (let s := hotA (atTrunk .guarded .load idle);
      ownLoadRuns s .a = false ∧ (s.trunk .a).config = some { drive := 2, ret := 4 } ∧
      ¬ DoneAtOnce (s.setMatrix { s.matrix with hot := s.matrix.hot.set .a false }) .a { drive := 2, ret := 4 }) := by decide +kernel

theorem witness_MonitorFallReleases :
    ((hotA idle).inReset = false ∧ (hotA idle).hot .a = true ∧ ((hotA idle).trunk .a).state ≠ .guarded ∧ (hotA idle).hv.energ = none ∧
      (hotA idle).hv.source ≠ .faulted ∧ (hotA idle).matrix.state = .ready ∧ (hotA idle).matrix.hk = none ∧
      (hotA idle).matrix.slots = ⟨none, none⟩) ∧
    (let s := hotA (closedA (idle.setTrunk .a { Trunk.reset with state := .guarded, config := some .empty }));
      s.hot .a = true ∧ (s.trunk .a).config = some .empty ∧ (s.trunk .a).state = .guarded ∧ (s.trunk .a).part ≠ .deviceAllOpen ∧
      ownLoadRuns s .a = false ∧
      s.hv.energ = none ∧ s.hv.source ≠ .faulted ∧ (trunkRelays s .a).opensSome (targetOf (s.window .a) .empty) = true) ∧
    (let s := (hotA idle).setHv { heldA with source := .faulted, sw := .to .a, releasePending := true, latch := some .a };
      s.inReset = false ∧ s.hot .a = true ∧ s.hv.energ = none ∧ s.hv.source = .faulted ∧ s.hv.sw = .to .a ∧ s.hv.holder = some .a ∧
      s.hv.releasePending = true ∧ s.hv.latch = some .a ∧ s.hv.quiet = false) ∧
    (let s := (lit .discharging .discharging).setHv { (lit .discharging .discharging).hv with releasePending := true };
      let u := s.setBench .a .reset;
      u.hot .a = true ∧ u.hv.energ = some (energ0 .discharging) ∧ (u.bench .a).run = .noRun ∧ u.hv.holder = some .a ∧
      u.hv.releasePending = true ∧ u.hv.line = [] ∧ u.hv.quiet = false) := by decide +kernel

/-- The hypotheses of the locate's clauses: a range test above the lower half of its range, above the upper half of the whole, and above
the upper half of a range that is itself a lower half. -/
theorem witness_MonitorFallReleases_locate :
    (∀ v ∈ [EntryState.lower, .upper], ∀ o : EnergOutcome, o ∈ [.sampled 500 5051 99, .sampled 500 5000 100] →
      let st := { step0 .locate with locate := true };
      let s := ending (some o) st [Entry.due 0 0, { Entry.due 0 1 with state := v }];
      StepDischarges s .a { energ0 .discharging with outcome := some o } st ∧ (s.bench .a).record.isSome = true ∧
      st.interrupted = false ∧ (s.bench .a).locator.head? = some (Entry.due 0 0) ∧ (Entry.due 0 0).first = (Entry.due 0 0).last ∧
      (Entry.due 0 0).state = .toMeasure ∧ (s.bench .a).locator.tail.head? = some { Entry.due 0 1 with state := v } ∧
      (s.bench .a).locator.tail.tail = []) ∧
    (let st := { step0 .locate with locate := true, returned := [.net 1, .point 0, .point 4, .point 5] };
      let s := ending (some (.sampled 500 5000 100)) st
        [Entry.due 1 1, { Entry.due 0 1 with state := .upper }, { Entry.due 0 3 with state := .lower }];
      StepDischarges s .a { energ0 .discharging with outcome := some (.sampled 500 5000 100) } st ∧
      (s.bench .a).locator.tail.tail.head? = some { Entry.due 0 3 with state := .lower } ∧
      (Entry.due 0 3).first < (Entry.due 0 3).last) := by decide +kernel

/-- The hypotheses of the step's clauses, at each outcome. -/
theorem witness_MonitorFallReleases_step :
    (∀ o : Option EnergOutcome, o ∈ [none, some (.arc .sag), some (.sampled 500 5000 100), some (.sampled 500 5051 99)] →
      StepDischarges (ending o (step0 .energise) []) .a { energ0 .discharging with outcome := o } (step0 .energise)) ∧
    ((ending none (step0 .energise) []).bench .a).record.isSome = true ∧
    ((EnergOutcome.cut .trunk).isCut = true ∧ (step0 .energise).interrupted = false ∧ (step0 .energise).locate = false ∧
      (step0 .energise).threshold ≤ 100 ∧ 99 < (step0 .energise).threshold) ∧
    (let st := { step0 .energise with locate := true };
      StepDischarges (ending (some (.sampled 500 5051 99)) st []) .a
        { energ0 .discharging with outcome := some (.sampled 500 5051 99) } st ∧ st.locate = true ∧ 2 ≤ st.returned.length ∧
      ({ st with returned := [.net 1] } : StepRecord).returned = [.net 1]) ∧
    (let st := { step0 .locate with locate := true };
      StepDischarges (ending (some (.sampled 500 5051 99)) st [Entry.due 0 1]) .a
        { energ0 .discharging with outcome := some (.sampled 500 5051 99) } st ∧ st.state = .locate ∧
      (Entry.due 0 1).first < (Entry.due 0 1).last ∧ (Entry.due 1 1).first = (Entry.due 1 1).last) ∧
    (let st := { step0 .energise with interrupted := true };
      let s := ending (some (.cut .lid)) st [];
      let u := s.setHv { s.hv with releasePending := true };
      StepDischarges u .a { energ0 .discharging with outcome := some (.cut .lid) } st ∧ u.hv.holder = some .a ∧
      u.hv.releasePending = true ∧ u.hv.line = [] ∧ u.hv.asks .a = false ∧ u.hv.quiet = false) :=
  ⟨by decide +kernel, by decide +kernel, by decide +kernel, by decide +kernel, by decide +kernel, by decide +kernel⟩

theorem witness_LoadsOpenAndClose :
    Ready base .ps ∧ (∀ v : RefState, (Ready (atStore v base) .ps ∧ (atStore v base).store.state = v)) ∧
    runOpen (atRun .ready (atStore .valid base)) .a = true ∧ runOpen (atStore .valid base) .a = false ∧
    runOpen (atStore .valid base) .b = false := by
  refine ⟨by decide, fun v => ⟨by cases v <;> decide, by cases v <;> rfl⟩, by decide, by decide, by decide⟩

theorem witness_ImageWritten :
    (Ready (atStore .loading base) .ps ∧ Memory.wf (atStore .loading base) = true ∧ (List.replicate 120 (7 : Word16)).length ≤ 120) ∧
    (atStore .valid base).store.state ≠ .loading ∧ (atStore .loading base).store.state = .loading ∧
    8208 < (8207 : Word16).toNat + [(1 : Word16), 2].length ∧ (8206 : Word16).toNat + [(1 : Word16), 2].length ≤ 8208 ∧
    (8208 < (8209 : Word16).toNat + ([] : List Word16).length ∧ (8208 : Word16).toNat + ([] : List Word16).length ≤ 8208) ∧
    (120 < (List.replicate 121 (7 : Word16)).length ∧ (List.replicate 123 (7 : Word16)).length ≤ 123) := by decide +kernel

theorem witness_ImageReads :
    Ready base .pa ∧ ((0 : Byte).toNat = 0 ∨ 120 < (121 : Byte).toNat ∨ 8208 < (8208 : Word16).toNat + 1) ∧
    (1 ≤ (120 : Byte).toNat ∧ (120 : Byte).toNat ≤ 120 ∧ (8088 : Word16).toNat + (120 : Byte).toNat ≤ 8208 ∧ base.store.state = .empty) ∧
    (Ready (atStore .checking base) .pa ∧ (atStore .checking base).store.state = .checking) ∧
    (Ready (atStore .faulted base) .pa ∧ (atStore .faulted base).store.state = .faulted) := by decide +kernel

/-- The store CHECKING with a check at a position. -/
def atCheck (pos : Nat) (k : Check) (s : State) : State :=
  (atStore .checking s).setStore { (atStore .checking s).store with check := some { k with pos := pos } }

theorem witness_CheckerReadsWord :
    (base.inReset = false ∧ ({ Check.start .full with pos := 2075 } : Check).complete words = true) ∧
    (∀ p ∈ [0, 14, 15, 16, 17, 18, 23, 24, 26, 27, 2074], ({ Check.start .full with pos := p } : Check).complete words = false) ∧
    (({ Check.start .full with fault := some ⟨7, .memberOrder, .net 0⟩, pos := 26 } : Check).complete words = false ∧
      ({ Check.start .checksum with pos := 2074 } : Check).complete words = false ∧ (Check.start .full).fault = none) ∧
    ((imageRead [] 0 ≠ 0x4648 ∧ imageRead words 0 = 0x4648) ∧
      (hdrSpan [(1, 2049)] = 2049 ∧ hdrSpan [] = 0 ∧ 1 ≤ hdrSpan [(1, 2048)] ∧ hdrSpan [(1, 2048)] ≤ 2048) ∧
      (hdrNets [(2, 1025)] = 1025 ∧ hdrNets [(2, 1024)] ≤ 1024) ∧ (hdrMembers [(3, 2049)] = 2049 ∧ hdrMembers [(3, 2048)] ≤ 2048)) ∧
    (hdrNets words = 2 ∧ hdrMembers words = 3 ∧ 23 < 16 + 4 * 2 ∧ (16 - 16) % 4 = 0 ∧ (17 - 16) % 4 = 1 ∧ 2 ≤ (18 - 16) % 4 ∧
      24 < 16 + 4 * 2 + 3 ∧ 16 + 4 * 2 + 3 ≤ 27) := by decide +kernel

/-- A kept fault of item 9, with which the pass goes on to the net records, the members and the offsets. -/
theorem witness_CheckerReadsWord_kept :
    let k : Check := { Check.start .full with fault := some ⟨9, .headerLimits, .field .dwell⟩ };
    (∀ p ∈ [16, 17, 18, 23, 24, 26, 27], ({ k with pos := p } : Check).complete words = false) ∧ k.kind = .full ∧
    6 < (k.fault.map (·.item)).getD 11 ∧ (({ k with fault := some ⟨6, .contiguity, .none⟩ } : Check).fault.map (fun f => f.item)).getD 11 ≤ 6 := by
  decide +kernel

/-- R36: a fault of item 5 found later in the pass is recorded in the place of one of item 9, and a fault of item 10 is not. -/
theorem test_keptHeaderLimits :
    let k : Check := { Check.start .full with fault := some ⟨9, .headerLimits, .field .dwell⟩ };
    let at_ (p : Nat) : State := base.setStore { base.store with
      state := .checking, words := (16, (513 : Word16)) :: words.filter (fun c => c.1 ≠ 16), check := some { k with pos := p } };
    ((after .checkerWordRead (at_ 16)).store.check.map (·.fault)) = some (some ⟨5, .netSize, .net 0⟩) ∧
      ((after .checkerWordRead (at_ 27)).store.check.map (·.fault)) = some k.fault := by decide +kernel

theorem witness_CheckPassTakesEffect :
    WorkWaits (atCheck 2075 { Check.start .full with rem := 0 } (atRun .checking idle)) ∧
    ((atCheck 2075 { Check.start .full with rem := 0 } (atRun .checking idle)).inReset = false ∧
      ({ Check.start .full with rem := 0, pos := 2075 } : Check).complete words = true ∧ imageRead words 15 = 0 ∧
      ((atRun .checking idle).bench .a).wait = .nothing ∧ ((atRun .checking idle).port .pa).work = none) := by
  refine ⟨?_, by decide +kernel⟩
  intro p r h; cases p <;> exact nomatch h

/-- The part at the end of a check of the words, passed where the stored checksum is the remainder. -/
def checked (rem : Word16) (s : State) : State := atCheck 2075 { Check.start .checksum with rem := rem } s

/-- What waits behind a check goes on: the hypotheses of each such clause. -/
theorem witness_CheckPassTakesEffect_waits :
    (let s := checked 0 (idle.setPort .pb { PortState.reset with work := some (.readImage 8088 120) });
      s.inReset = false ∧ s.store.state = .checking ∧ (s.port .pb).work = some (.readImage 8088 120) ∧ 1 ≤ (120 : Byte).toNat ∧
      (120 : Byte).toNat ≤ 120 ∧ (8088 : Word16).toNat + (120 : Byte).toNat ≤ 8208 ∧ Station.a ∉ s.store.joined ∧
      s.hv.stepAsk.get .a = false) ∧
    (let s := checked 0 (idle.setChannel .a
        { Channel.reset with state := .compensating, inHand := some (.pair 1 2 0), lastRaw := some 1508 });
      (s.channel .a).inHand = some (.pair 1 2 0) ∧ (s.channel .a).lastRaw = some 1508 ∧ (s.channel .a).state = .compensating ∧
      s.hv.energ = none) ∧
    (let s := checked 0 (atSweep .connection (.read .pair) idle);
      (s.bench .a).record = some run0 ∧ run0.abortPending = false ∧ (s.bench .a).sweep = some (sweep0 .connection) ∧
      (s.bench .a).wait = .read .pair ∧ (s.bench .a).run = .continuity) ∧
    (let s := checked 0 (atStep .configure (.read .step) idle);
      (s.bench .a).step = some (step0 .configure) ∧ (s.bench .a).wait = .read .step ∧ (s.bench .a).run = .insulation) ∧
    (let s := checked 0 (closedA ((atSweep .connection (.read .pair) idle).setBench .a
        { (atSweep .connection (.read .pair) idle).bench .a with record := some { run0 with abortPending := true } }));
      (s.bench .a).record = some { run0 with abortPending := true } ∧ (s.bench .a).wait = .read .pair ∧
      (s.bench .a).sweep.isSome = true ∧ Closed s .a) ∧
    (let s := checked 0 ((mayStep idle).setPort .pa { PortState.reset with work := some (.startInsulation 0 0 0 0 0 0) });
      (s.bench .a).record = some { run0 with continuity := .done } ∧ (s.bench .a).run = .ready ∧ (s.bench .a).wait = .nothing ∧
      (s.port .pa).work = some (.startInsulation 0 0 0 0 0 0) ∧ selectionOf 0 0 = some (.net 0) ∧
      selectedNets s.store.words (.net 0) ≠ [] ∧ returnedSet s.store.words (.net 0) ≠ [] ∧
      selectedNets s.store.words (.net 1023) = []) := by decide +kernel

theorem witness_CheckFailEndsRuns_waits :
    (let s := checked 1 (idle.setPort .pb { PortState.reset with work := some (.readImage 0 1) });
      s.inReset = false ∧ s.store.state = .checking ∧ (1 : Word16) ≠ imageRead s.store.words 15 ∧
      (s.port .pb).work = some (.readImage 0 1) ∧ (0 : Word16).toNat + (1 : Byte).toNat ≤ 8208) ∧
    (let s := checked 1 (idle.setChannel .a
        { Channel.reset with state := .compensating, inHand := some (.pair 1 2 0), lastRaw := some 1508 });
      (s.channel .a).inHand = some (.pair 1 2 0) ∧ (s.channel .a).state = .compensating ∧ (s.channel .a).isoPending = false) ∧
    (let s := checked 1 ((mayStep idle).setPort .pa { PortState.reset with work := some (.startInsulation 0 0 0 0 0 0) });
      (s.port .pa).work = some (.startInsulation 0 0 0 0 0 0) ∧ (selectionOf 0 0).isSome = true) ∧
    (∀ m : Measurement, m ∈ [.group 10000, .pair 1 2 0] →
      let s := checked 1 (sweeping (sweep0 .isolation) run0 [] m 3);
      s.inReset = false ∧ s.store.state = .checking ∧ (1 : Word16) ≠ imageRead s.store.words 15 ∧ (s.bench .a).run = .continuity ∧
      (s.channel .a).state = .measuring ∧ s.hv.energ = none ∧ (s.channel .a).inHand = some m ∧ (s.channel .a).isoPending = false ∧
      (s.trunk .a).state = .settled ∧ s.matrix.state = .ready ∧ s.hot .a = false ∧ Closed s .a) := by decide +kernel

/-- R58, R112: the group measurement of a run that a failed check has ended runs on to its own aperture, and its trunk opens then. -/
theorem test_groupOutlivesRun :
    let t := after .checkEnd (checked 1 (sweeping (sweep0 .isolation) run0 [] (.group 10000) 3));
    (t.bench .a).run = .noRun ∧ (t.channel .a).state = .measuring ∧ (t.trunk .a).state = .settled ∧
    (after (.apertureEnd .a 4) t).trunk .a = { t.trunk .a with state := .opening, config := some .empty, target := .allOpen } ∧
    ((after (.apertureEnd .a 4) t).channel .a).lastResult = some (.fail 2500) := by decide +kernel

theorem witness_CheckFailEndsRuns :
    WorkWaits (atCheck 2075 (.start .full) (atRun .ready idle)) ∧
    ((atCheck 2075 (.start .full) (atRun .ready idle)).inReset = false ∧
      ({ Check.start .full with pos := 2075 } : Check).complete words = true ∧ (Check.start .full).rem ≠ imageRead words 15) ∧
    ∀ x, ((atCheck 2075 (.start .full) (atRun .ready idle)).bench x).run ≠ .noRun →
      ((atCheck 2075 (.start .full) (atRun .ready idle)).bench x).record.isSome = true := by
  refine ⟨?_, by decide +kernel, ?_⟩
  · intro p r h; cases p <;> exact nomatch h
  · intro x h; cases x <;> first | rfl | exact absurd rfl h

/-- A failed check over an insulation step: its energisation runs on a hot trunk, and an idle holding. -/
theorem witness_CheckFailEndsRuns_step :
    (∀ g ∈ [(Stage.dwelling, SourceState.dwelling), (.discharging, .discharging)],
      let s := checked 1 (lit g.1 g.2);
      s.inReset = false ∧ s.store.state = .checking ∧ (1 : Word16) ≠ imageRead s.store.words 15 ∧ (s.bench .a).run = .insulation ∧
      (s.bench .a).record.isSome = true ∧ s.matrix.state = .ready ∧ (s.trunk .a).state = .settled ∧
      (s.channel .a).state ≠ .measuring ∧ s.hot .a = true ∧ s.hv.energ = some (energ0 g.1) ∧ s.hv.holder = some .a ∧
      s.hv.sw = .to .a ∧ (energ0 g.1).stage ≠ .isolating ∧ (energ0 g.1).stage ≠ .connecting) ∧
    (let s := checked 1 ((atRun .ready idle).setHv heldA);
      (s.bench .a).run ≠ .noRun ∧ s.hv.holder = some .a ∧ s.hv.sw = .off ∧ s.hv.energ = none ∧ ¬ Station.a.other ∈ s.hv.line ∧
      s.hv.quiet = false) := by decide +kernel

theorem witness_ApertureJudged :
    (let s := sweeping (sweep0 .connection) run0 [] (.pair 1 2 0) 2;
      s.inReset = false ∧ (s.channel .a).state = .measuring ∧ (s.channel .a).isoPending = false ∧
      (s.channel .a).inHand = some (.pair 1 2 0) ∧ (s.bench .a).wait = .channel) ∧
    (60000 ≤ (60000 : Word16).toNat ∧ 2 < 3) ∧ (65520 ≤ (65520 : Word16).toNat ∧ 3 ≤ 3) ∧
    ((59999 : Word16).toNat < 60000 ∧ (65519 : Word16).toNat < 65520) ∧ (atStore .checking idle).store.state = .checking ∧
    (atStore .valid idle).store.state ≠ .checking ∧
    (((measuring (.group 100) 3 idle).channel .a).inHand = some (.group 100) ∧ ((measuring (.group 100) 3 idle).channel .a).range = 3) ∧
    (let s := measuring (.group 100) 3 (closedA (atTrunk .settled .load (idle.setBench .a { idle.bench .a with wait := .channel })));
      s.inReset = false ∧ (s.bench .a).run = .noRun ∧ (s.bench .a).wait = .channel ∧ (s.bench .a).sweep = none ∧
      (s.channel .a).state = .measuring ∧ (s.channel .a).isoPending = false ∧ (s.channel .a).inHand = some (.group 100) ∧
      (s.trunk .a).state = .settled ∧ s.matrix.state = .ready ∧ s.hot .a = false ∧ Closed s .a ∧ s.hv.energ = none) := by
  decide +kernel

/-- A sweep record of the isolation phase with two nets and two unused points: four drivers. -/
def isolation0 : Sweep := { sweep0 .isolation with span := 5, members := 3, unused := [0, 4], short := 10000 }

/-- The hypotheses of the isolation phase's clauses: a CLEAN above a lower half, above an upper half, and alone; a confirm with a value
and without one; a driver with a successor, and the last one. -/
theorem witness_ApertureJudged_isolation :
    (let s := sweeping isolation0 run0 [Entry.due 1 2, { Entry.due 1 3 with state := .lower }] (.group 10000) 3;
      SweepWaits s .a isolation0 run0 ∧ isolation0.phase = .isolation ∧ isolation0.limit = 0 ∧ run0.abortPending = false ∧
      apertureResult s .a 65520 = some (.clean none) ∧ apertureResult s .a 65519 = some (.clean (some 40949375)) ∧
      (s.bench .a).locator.head? = some (Entry.due 1 2) ∧ (Entry.due 1 2).state = .toMeasure) ∧
    (({ Entry.due 1 3 with state := .lower } : Entry).first < 3 ∧ ({ Entry.due 1 3 with state := .upper } : Entry).state = .upper) ∧
    (let s := sweeping isolation0 run0 [{ Entry.due 2 2 with state := .confirm }] (.pair 1 3 0) 3;
      SweepWaits s .a isolation0 run0 ∧ apertureResult s .a 65520 = some .openWire ∧
      apertureResult s .a 1 = some (.pairValue 618 3)) ∧
    (isolation0.driver + 2 < isolation0.nets + (isolation0.span - isolation0.members) ∧
      isolation0.nets + (isolation0.span - isolation0.members) ≤ ({ isolation0 with driver := 2 } : Sweep).driver + 2 ∧
      Closed (sweeping isolation0 run0 [] (.group 10000) 3) .a) := by decide +kernel

theorem witness_GroupOhmsRounded :
    (Ready base .pa ∧ (base.setChannel .a { Channel.reset with lastResult := some (.fail 40949375) }).channel .a
      = { Channel.reset with lastResult := some (.fail 40949375) }) ∧
    ((base.setChannel .b { Channel.reset with lastResult := some (.clean none) }).channel .b).lastResult = some (.clean none) ∧
    ({ Entry.due 0 1 with value := some 500 } : Entry).value = some 500 := by decide

/-- The part with everything an OPEN RUN of station A needs. -/
def opening : State := atStore .valid idle

theorem witness_RunOpened :
    (Ready opening .pa ∧ runOpen (atRun .ready opening) .a = true ∧ runOpen opening .a = false) ∧
    ((atStore .faulted idle).store.state ≠ .valid ∧ (atStore .faulted idle).store.state ≠ .checking) ∧
    ((atStore .valid base).matrix.state ≠ .ready ∧ opening.store.state = .valid ∧ opening.matrix.state = .ready ∧
      (opening.trunk .a).state = .idle) ∧
    (Window.size { base := 1, limit := 0, lock := false } < hdrSpan words) ∧
    ((opening.window .a).base ≤ (opening.window .a).limit ∧ hdrSpan opening.store.words ≤ (opening.window .a).size ∧
      spanCards (opening.window .a) (hdrSpan opening.store.words) &&& ~~~ opening.matrix.presence = 0 ∧
      spanCards (opening.window .a) (hdrSpan opening.store.words) &&& ~~~ (0 : CardSet) ≠ 0) ∧
    (((opening.bench .a).banks.get .zero).state = .free ∧ BankNo.zero ≠ (opening.bench .a).lastBank) ∧
    (BankState.queued ≠ .free ∧ BankState.queued ≠ .kept) := by decide +kernel

theorem witness_RunClosed :
    (Ready base .pa ∧ (base.bench .a).run = .noRun) ∧ ((atRun .checking base).bench .a).run = .checking ∧
    (((atRun .ready base).bench .a).run = .ready ∧ ((atRun .ready base).bench .a).record = some run0 ∧
      (atRun .ready base).hv.holder ≠ some .a ∧ (atRun .ready base).hv.energ = none) ∧
    (needsTicket .none .pass = false ∧ needsTicket run0.policy (verdictOf run0) = true) ∧
    (heldA.holder = some .a ∧ heldA.sw = .off ∧ heldA.quiet = false ∧ heldA.line.contains Station.a.other = false ∧
      ({ heldA with sw := .to .a } : Hv).sw ≠ .off) ∧
    (let h := heldA.setStepAsk .b true;
      ({ h with holder := none } : Hv).grantable Station.a.other = true ∧ h.asks Station.a.other = true ∧
      h.line.contains Station.a.other = true ∧ ({ h with holder := none, estop := true } : Hv).grantable Station.a.other = false) := by
  decide

theorem witness_VerdictTests :
    ({ run0 with refFault := true } : RunRecord).refFault = true ∧ (0 < ({ run0 with found := 1 } : RunRecord).found) ∧
    (run0.continuity = .notDone ∧ run0.found = 0) ∧ ({ run0 with continuity := .done } : RunRecord).stepInterrupted = false ∧
    (Ready (atRun .ready base) .pa ∧ ((atRun .ready base).bench .a).run = .ready ∧ ((atRun .ready base).bench .a).record = some run0) := by
  decide

theorem witness_AbortAnswered :
    (Ready base .pa ∧ (base.bench .a).run = .noRun) ∧ ((atRun .checking base).bench .a).run = .checking ∧
    (((atSweep .connection .allOpen base).bench .a).run = .continuity ∧ ((atSweep .connection .allOpen base).bench .a).wait = .allOpen) ∧
    (((atSweep .connection .trunk base).bench .a).wait ≠ .allOpen ∧ ((atSweep .connection .trunk base).bench .a).record = some run0) ∧
    (((atStep .finish .allOpen base).bench .a).run = .insulation ∧ ((atStep .finish .allOpen base).bench .a).step = some (step0 .finish)) ∧
    (((atStep .waitHv .hv base).bench .a).step = some (step0 .waitHv) ∧ (step0 .waitHv).state = .waitHv ∧
      ((atStep .waitHv .hv base).bench .a).wait = .hv ∧ ((atStep .waitHv .hv base).bench .a).record = some run0) := by decide

/-- The hypotheses of ABORT's clauses on a step that has left WAIT-HV: one that waits for its trunk, and an energisation in each stage. -/
theorem witness_AbortAnswered_step :
    (let s := atTrunk .closing .load (atStep .configure .trunk idle);
      (s.bench .a).run = .insulation ∧ (s.bench .a).step = some (step0 .configure) ∧ (step0 .configure).state = .configure ∧
      (s.bench .a).record = some run0 ∧ (s.bench .a).wait ≠ .energisation ∧ (s.trunk .a).state = .closing) ∧
    (heldA.holder = some .a ∧ heldA.sw = .off ∧ heldA.line = [] ∧ heldA.asks .a = false ∧ heldA.reserved = false ∧
      ({ heldA with reserved := true } : Hv).reserved = true ∧ heldA.releasePending = false ∧ heldA.quiet = false) ∧
    (let s := lit .dwelling .dwelling;
      (s.bench .a).step = some (step0 .energise) ∧ (s.bench .a).wait = .energisation ∧ s.hv.energ = some (energ0 .dwelling) ∧
      s.hv.holder = some .a ∧ s.hot .a = true ∧ (energ0 .dwelling).stage ≠ .isolating ∧ s.hv.sw = .to .a) ∧
    (let s := closedA (lit .isolating .off);
      s.hv.energ = some (energ0 .isolating) ∧ (energ0 .isolating).stage = .isolating ∧ (energ0 .isolating).outcome = none ∧
      (s.trunk .a).state = .settled ∧ s.matrix.state = .ready ∧ Closed s .a) := by decide +kernel

theorem witness_AbortAnswered_taken :
    (let r := { run0 with abortPending := true };
      let s := sweeping (sweep0 .connection) r [] (.pair 1 2 0) 0;
      Closed s .a ∧ SweepWaits s .a (sweep0 .connection) r ∧ (apertureResult s .a 100).isSome = true ∧
      (sweep0 .connection).phase = .connection) ∧
    (let r := { run0 with abortPending := true };
      ∀ e ∈ [Entry.due 1 2, { Entry.due 2 2 with state := .confirm }],
        let s := sweeping isolation0 r [e] (.group 10000) 3;
        Closed s .a ∧ SweepWaits s .a isolation0 r ∧ (apertureResult s .a 100).isSome = true ∧ isolation0.phase = .isolation ∧
        (s.bench .a).locator.head? = some e ∧ (e.state = .toMeasure ∨ e.state = .confirm)) ∧
    (let r := { run0 with abortPending := true };
      let s := closedA (atTrunk .settling .load (atSweep .connection .trunk idle));
      let u := s.setBench .a { s.bench .a with record := some r };
      Closed u .a ∧ (u.bench .a).record = some r ∧ (u.bench .a).sweep.isSome = true ∧ u.inReset = false ∧
      (u.trunk .a).state = .settling ∧ (u.trunk .a).waiting = none ∧ (u.bench .a).wait = .trunk ∧
      (u.bench .a).run = .continuity) := by decide +kernel

theorem witness_StationResetActs :
    (atRun .insulation base).inReset = false ∧
    (∀ x, ((atRun .insulation base).bench x).run ≠ .noRun → ((atRun .insulation base).bench x).record.isSome = true) ∧
    ((atRun .insulation base).bench .a).record = some run0 ∧ ChainServed (atRun .insulation base) := by
  refine ⟨by decide, ?_, by decide, fun _ => by decide⟩
  intro x h; cases x <;> first | rfl | exact absurd rfl h

theorem witness_StationResetActs_idle :
    idle.inReset = false ∧ (idle.bench .a).run = .noRun ∧ (idle.bench .a).record = none ∧ ChainServed idle :=
  ⟨by decide, by decide, by decide, fun _ => by decide⟩

theorem witness_StationResetActs_blocks :
    (idle.trunk .a).state = .idle ∧
    (let s := atTrunk .opening .deviceAllOpen idle; (s.trunk .a).state ≠ .idle ∧ (s.trunk .a).part = .deviceAllOpen) ∧
    (let s := closedA (atTrunk .settled .load idle);
      (s.trunk .a).state ≠ .idle ∧ (s.trunk .a).part ≠ .deviceAllOpen ∧ s.hot .a = false ∧ Closed s .a ∧ (hotA s).hot .a = true) ∧
    (let s := atTrunk .settled .load idle; s.hot .a = false ∧ ¬ Closed s .a ∧ ownLoadRuns s .a = false) ∧
    (let s := base.setHv heldA; s.hv.holder = some .a ∧ s.hv.sw = .off ∧ s.hv.energ = none ∧ s.hv.line = []) ∧
    (let s := lit .dwelling .dwelling;
      s.hv.energ = some (energ0 .dwelling) ∧ s.hv.holder = some .a ∧ s.hv.sw = .to .a ∧ s.hot .a = true ∧
      (energ0 .dwelling).stage ≠ .isolating) ∧
    ((measuring (.group 100) 3 idle).channel .a).inHand.isSome = true ∧
    (¬ Closed idle .a ∧ ownLoadRuns idle .a = false) ∧
    (let l : ChainLoad := { requester := .trunk .a, contents := { relays := .allOpen, sel := .none } };
      let s := idle.setMatrix { idle.matrix with load := some l };
      (s.trunk .a).state = .idle ∧ (s.trunk .a).part ≠ .deviceAllOpen ∧ ownLoadRuns s .a = true ∧ s.hot .a = false) := by
  decide +kernel

theorem witness_SerialsAndCounters : Ready base .ps ∧ (2 : Byte) ≠ 0 ∧ (2 : Byte) ≠ 1 := by decide

theorem witness_SweepStarted :
    Ready base .pa ∧ (1 < (2 : Byte).toNat ∨ 128 < (129 : Byte).toNat) ∧ (scopeOf 1 = some .full ∧ (128 : Byte).toNat ≤ 128) ∧
    (base.bench .a).run ≠ .ready ∧
    (((atRun .ready (atStore .checking base)).bench .a).run = .ready ∧ (atRun .ready (atStore .checking base)).store.state = .checking) ∧
    ((atRun .ready (atStore .valid base)).store.state ≠ .checking ∧ nextPaired words (hdrNets words) 0 = some 0) := by decide +kernel

theorem witness_SweepResultsTaken :
    (∃ s : State, s.inReset = false ∧ s.store.state ≠ .checking ∧ (s.bench .a).run = .continuity ∧ (s.bench .a).wait = .channel ∧
      (s.bench .a).sweep = some (sweep0 .connection) ∧ (sweep0 .connection).retest = false ∧ (sweep0 .connection).held = [] ∧
      (sweep0 .connection).limit = 0 ∧ (s.bench .a).record = some run0 ∧ run0.abortPending = false ∧ run0.found < 65535 ∧
      (s.channel .a).state = .measuring ∧ (s.channel .a).isoPending = false ∧ (s.channel .a).inHand = some (.pair 1 2 0) ∧
      (59999 : Word16).toNat < 60000 ∧
      (sweep0 .connection).netThreshold < ((59999 : Word16).toNat * multiplier (s.channel .a).range + 500) / 1000
        - offsetOf s.store.words 1 - offsetOf s.store.words 2) ∧
    ∃ s : State, s.inReset = false ∧ (s.bench .a).run = .continuity ∧ (s.bench .a).wait = .channel ∧
      (s.bench .a).sweep = some (sweep0 .isolation) ∧ (s.bench .a).record = some run0 ∧ (s.bench .a).locator = [Entry.due 1 2] ∧
      (Entry.due 1 2).state = .toMeasure ∧ (Entry.due 1 2).first < (Entry.due 1 2).last ∧ (s.channel .a).state = .measuring ∧
      (s.channel .a).isoPending = false ∧ (s.channel .a).inHand = some (.group 10000) ∧ (100 : Word16).toNat < 65520 ∧
      rawResistance (100 : Word16).toNat 3 < 10000 * 1000 := by
  refine ⟨⟨measuring (.pair 1 2 0) 0 (atSweep .connection .channel (atStore .valid idle)), by decide +kernel⟩,
    ⟨measuring (.group 10000) 3 ((atSweep .isolation .channel idle).setBench .a
      { (atSweep .isolation .channel idle).bench .a with locator := [Entry.due 1 2] }), by decide +kernel⟩⟩

/-- A sweep record of the connection phase on a net of four members. -/
def walk0 : Sweep := { sweep0 .connection with netCount := 4 }

/-- The hypotheses of the clauses of a walk: the first pair OPEN, a pass and a HIGH-R, an OPEN while one is held, the re-selection test,
the last member with a net behind it, and the defect limit. -/
theorem witness_SweepResultsTaken_walk :
    (let s := sweeping walk0 run0 [] (.pair 1 2 0) 3;
      SweepWaits s .a walk0 run0 ∧ walk0.phase = .connection ∧ s.store.state ≠ .checking ∧ run0.abortPending = false ∧
      walk0.limit = 0 ∧ walk0.retest = false ∧ walk0.pos = 1 ∧ 3 ≤ walk0.netCount ∧ walk0.pos + 1 < walk0.netCount ∧
      walk0.held = [] ∧ apertureResult s .a 65520 = some .openWire ∧ apertureResult s .a 1 = some (.pairValue 615 3) ∧
      615 ≤ walk0.netThreshold ∧ apertureResult s .a 65519 = some (.pairValue 40949365 3) ∧ walk0.netThreshold < 40949365) ∧
    (let w := { walk0 with pos := 2, held := [⟨1, 2⟩] };
      let s := sweeping w run0 [] (.pair 1 2 0) 3;
      SweepWaits s .a w run0 ∧ w.pos ≠ 1 ∧ w.held ≠ [] ∧ apertureResult s .a 65520 = some .openWire) ∧
    (let w := { walk0 with pos := 2, held := [⟨1, 2⟩, ⟨1, 3⟩], retest := true };
      let s := sweeping w run0 [] (.pair 1 2 0) 3;
      SweepWaits s .a w run0 ∧ w.retest = true ∧ 3 < w.netCount ∧ apertureResult s .a 1 = some (.pairValue 615 3)) ∧
    (let w := { walk0 with pos := 3, net := 0, nets := 2 };
      let m := (20, (2 : Word16)) :: words;
      let s := sweeping w run0 [] (.pair 1 2 0) 3;
      let u := s.setStore { s.store with words := m };
      SweepWaits u .a w run0 ∧ w.netCount ≤ w.pos + 1 ∧ nextPaired u.store.words w.nets (w.net + 1) = some 1 ∧
      apertureResult u .a 1 = some (.pairValue 615 3)) ∧
    (let w := { walk0 with pos := 2, held := [⟨1, 2⟩], limit := 1 };
      let s := sweeping w run0 [] (.pair 1 2 0) 3;
      SweepWaits s .a w run0 ∧ w.held = [⟨1, 2⟩] ∧ w.limit = run0.found + 1 ∧ w.limit ≤ 128 ∧ Closed s .a ∧
      apertureResult s .a 1 = some (.pairValue 615 3)) :=
  ⟨by decide +kernel, by decide +kernel, by decide +kernel, by decide +kernel, by decide +kernel⟩

/-- The hypotheses of the clause on a failed range test, of one candidate and of more. -/
theorem witness_SweepResultsTaken_fail :
    (let s := sweeping isolation0 run0 [Entry.due 1 1] (.group 10000) 3;
      SweepWaits s .a isolation0 run0 ∧ isolation0.phase = .isolation ∧ (s.bench .a).locator.head? = some (Entry.due 1 1) ∧
      (s.channel .a).inHand = some (.group 10000)) ∧
    ((Entry.due 1 1).state = .toMeasure ∧ (Entry.due 1 1).first = (Entry.due 1 1).last ∧
      (Entry.due 1 3).first < (Entry.due 1 3).last ∧ (100 : Word16).toNat < 65520 ∧
      rawResistance (100 : Word16).toNat 3 < 10000 * 1000) := by decide +kernel

/-- The hypotheses of the end of the connection phase: a last pair that passes or reads OPEN, both scopes, three drivers and one. -/
theorem witness_SweepResultsTaken_end :
    let w := sweep0 .connection;
    let only := { w with scope := .connectionOnly };
    let s := sweeping w run0 [] (.pair 1 2 0) 3;
    (SweepWaits s .a w run0 ∧ w.limit = 0 ∧ w.retest = false ∧ w.netCount ≤ w.pos + 1 ∧ w.held = [] ∧
      nextPaired s.store.words w.nets (w.net + 1) = none ∧ s.store.state ≠ .checking ∧ Closed s .a ∧
      ¬ (w.pos = 1 ∧ 3 ≤ w.netCount) ∧ apertureResult s .a 65520 = some .openWire ∧
      apertureResult s .a 1 = some (.pairValue 615 3) ∧ 615 ≤ w.netThreshold ∧
      apertureResult s .a 65519 = some (.pairValue 40949365 3) ∧ w.netThreshold < 40949365) ∧
    (w.scope = .full ∧ 2 ≤ w.nets + (hdrSpan words - hdrMembers words) ∧
      ({ w with nets := 0 } : Sweep).nets + (hdrSpan words - hdrMembers words) ≤ 1) ∧
    SweepWaits (sweeping only run0 [] (.pair 1 2 0) 3) .a only run0 ∧
    (let u := sweeping isolation0 run0 [Entry.due 1 1] (.group 10000) 3;
      locatorWait u isolation0 isolation0.driver 1 = .trunk) := by decide +kernel

/-- R93, R97, R98: after the last pair net 0 is tested against net 1 and the unused point 0. -/
theorem test_isolationBegins :
    let t := after (.apertureEnd .a 1) (sweeping (sweep0 .connection) run0 [] (.pair 1 2 0) 3);
    (t.bench .a).run = .continuity ∧ (t.bench .a).locator = [Entry.due 1 2] ∧
      (t.bench .a).handed = { drive := 6, ret := 9 } := by decide +kernel

theorem witness_StepAnswered :
    Ready base .pa ∧ (selectionOf 0 1024 = none ∧ selectionOf 0 1023 = some (.net 1023) ∧ selectionOf 0 0 = some (.net 0)) ∧
    (base.bench .a).record = none ∧ (((atRun .ready base).bench .a).record = some run0 ∧ run0.continuity ≠ .done) ∧
    ((mayStep (atStore .checking base)).store.state = .checking ∧
      ((mayStep (atStore .valid base)).bench .a).record = some { run0 with continuity := .done }) ∧
    (selectedNets words (.net 1023) = [] ∧ selectedNets words (.net 0) ≠ [] ∧ returnedSet words (.net 0) ≠ []) ∧
    ((atStep .waitHv .hv base).bench .a).queued = none ∧
    (((mayStep (atStore .valid base)).bench .a).run = .ready ∧ (mayStep (atStore .valid base)).hv.holder ≠ some .a ∧
      ((mayStep (atStore .valid base)).hv.setStepAsk .a true).next = none) ∧
    (heldA.holder = some .a ∧ heldA.releasePending = false ∧ heldA.energ = none) ∧
    ((lending.setStepAsk .a true).next = some .a ∧ lending.energ = none) := by decide +kernel

theorem witness_LimitsSet : Ready base .ps ∧ 4 < (5 : Byte).toNat := by decide

theorem witness_PermissionSet :
    Ready base .ps ∧ permissionOf 4 = none ∧ permissionOf 3 = some .barredLocked ∧
    ((after (.setHvPermission .ps 2) base).hv.permission = .permittedLocked) ∧
    (base.hv.permission = .barred ∧ Permission.allows .barredLocked = base.hv.permission.allows) ∧
    ((base.setHv heldA).hv.permission = .permitted ∧ (base.setHv heldA).hv.holder = some .a ∧ (base.setHv heldA).hv.sw = .off ∧
      (base.setHv heldA).hv.quiet = false ∧ ((base.setHv heldA).bench .a).step = none) ∧
    (((atStep .finish .allOpen idle).bench .a).step = some (step0 .finish) ∧ (step0 .finish).state = .finish) ∧
    (let s := (atTrunk .closing .load (atStep .configure .trunk idle)).setHv { heldA with holderStep := true };
      s.hv.permission = .permitted ∧ s.hv.holder = some .a ∧ (s.bench .a).step = some (step0 .configure) ∧
      (step0 .configure).state ≠ .finish ∧ (s.bench .a).wait ≠ .energisation ∧ s.hv.sw = .off ∧ (s.trunk .a).state = .closing) ∧
    (let s := lit .sampling .sampling;
      s.hv.permission = .permitted ∧ s.hv.energ = some (energ0 .sampling) ∧ (energ0 .sampling).stage = .sampling ∧ s.hv.sw = .to .a ∧
      (energ0 .sampling).outcome = none ∧ s.hot .a = true ∧ (s.bench .a).wait = .energisation) := by decide +kernel

/-- Each grant: a station asks and is next once the command has acted. -/
theorem witness_Grants :
    (let h := { lending with permission := .barred }.setStepAsk .a true;
      ({ h with permission := .permitted } : Hv).next = some .a ∧ h.permission = .barred ∧ Permission.allows .permitted = true) ∧
    (let h := { (heldA.setReserveAsk .b true) with holdTimer := some 1000 };
      ({ h with holder := none } : Hv).next = some .b ∧ h.holder = some .a ∧ h.sw = .off ∧ h.holdTimer.isSome = true ∧
      h.quiet = false ∧ h.holderStep = false ∧ h.releasePending = false) ∧
    (let h := { (lending.setStepAsk .b true) with latch := some .a, source := .faulted };
      ({ h with latch := none } : Hv).next = some .b ∧ h.latch = some .a ∧ h.energ = none) ∧
    (let h := { (lending.setStepAsk .b true) with lidClosed := ⟨true, false⟩ };
      h.lidClosed.get .b = false ∧ ({ h with lidClosed := h.lidClosed.set .b true } : Hv).next = some .b) ∧
    (let h := { (lending.setStepAsk .b true) with estop := true };
      h.estop = true ∧ ({ h with estop := false } : Hv).next = some .b) := by decide +kernel

theorem witness_ReserveAnswered :
    (Ready base .pa ∧ base.hv.permission.allows = false) ∧ (lending.permission.allows = true ∧ ({ lending with estop := true } : Hv).estop = true) ∧
    (lending.estop = false ∧ lending.lidClosed.get .a = true ∧ ({ lending with latch := some .b } : Hv).latch ≠ none ∧ lending.latch = none) ∧
    (heldA.holder = some .a ∧ heldA.releasePending = false ∧ ({ heldA with releasePending := true } : Hv).releasePending = true) ∧
    (({ lending with holder := some .b } : Hv).holder = some Station.a.other ∧ lending.reserveAsk.get .a = false ∧
      (lending.setReserveAsk .a true).reserveAsk.get .a = true) ∧
    (lending.holder = none ∧ lending.stepAsk.get .a = false) := by decide

theorem witness_HoldingReleased :
    (base.inReset = false ∧ ({ heldA with holdTimer := some 1000 } : Hv).holdTimer.isSome = true ∧ heldA.sw = .off ∧ heldA.line = [] ∧
      heldA.quiet = false ∧ heldA.holdTimer = none) ∧
    (Ready (base.setHv heldA) .pa ∧ heldA.holder = some .a ∧ heldA.holderStep = false ∧ heldA.releasePending = false) ∧
    ({ heldA with holderStep := true } : Hv).holderStep = true ∧
    (((lending.setStepAsk .a true).setReserveAsk .a true).stepAsk.get .a = true ∧ (lending.setStepAsk .a true).line.contains .a = true) ∧
    lending.asks .a = false ∧
    (({ lending with holder := some .a } : Hv).next = none ∧ ({ heldA with holder := none } : Hv).next = none ∧
      ({ heldA.setStepAsk .b true with holder := none } : Hv).next = some .b ∧
      ({ heldA.setStepAsk .b true with holder := none, lidClosed := ⟨true, false⟩ } : Hv).next = none) ∧
    ({ heldA with releasePending := true } : Hv).releasePending = true ∧
    ((lending.setReserveAsk .a true).stepAsk.get .a = false ∧ (lending.setReserveAsk .a true).reserveAsk.get .a = true ∧
      (lending.setReserveAsk .a true).holder ≠ some .a) := by decide

/-- The hypotheses of the decisions at a step end: kept, at the string limit, and with nothing to keep the source for. -/
theorem witness_HoldingReleased_stepEnd :
    (let s := ending (some (.sampled 500 5000 100)) (step0 .energise) [];
      StepDischarges s .a { energ0 .discharging with outcome := some (.sampled 500 5000 100) } (step0 .energise) ∧
      s.hv.holder = some .a ∧ s.hv.releasePending = false ∧ (step0 .energise).interrupted = false ∧
      (step0 .energise).state = .energise ∧ s.hv.asks .a = false ∧ (step0 .energise).threshold ≤ 100 ∧
      (s.bench .a).queued = none ∧ s.hv.reserved = false ∧ s.hv.line = [] ∧ s.hv.quiet = false) ∧
    (let s := ending (some (.sampled 500 5000 100)) (step0 .energise) [];
      let h := { (s.hv.setStepAsk .b true) with reserved := true };
      h.asks .a = false ∧ h.reserved = true ∧ h.line = [Station.a.other] ∧ min (h.string + 1) 64 < h.limits.string ∧
      ({ h with limits := { h.limits with string := 1 } } : Hv).limits.string ≤ min (h.string + 1) 64 ∧
      ({ h with holder := none } : Hv).grantable .b = true ∧
      (({ h with holder := none, lidClosed := ⟨true, false⟩ } : Hv).grantable .b = false ∧
        ({ h with holder := none, lidClosed := ⟨true, false⟩ } : Hv).grantable .a = true) ∧
      (({ h with holder := none, estop := true } : Hv).grantable .b = false ∧
        ({ h with holder := none, estop := true } : Hv).grantable .a = false)) := by decide +kernel

theorem witness_EnergisationBegins :
    let s := (atTrunk .settling .load (atStep .configure .trunk idle)).setHv { heldA with holderStep := true };
    s.inReset = false ∧ (s.trunk .a).state = .settling ∧ (s.trunk .a).waiting = none ∧ (s.bench .a).wait = .trunk ∧
    (s.bench .a).run = .insulation ∧ (s.bench .a).step = some (step0 .configure) ∧ s.hv.holder = some .a ∧
    s.hv.releasePending = false ∧ s.hv.energ = none ∧ (s.channel .a).state = .idle ∧ 50 ≤ s.hv.limits.cap ∧
    ((atTrunk .settling .load (atStep .locate .trunk idle)).bench .a).step = some (step0 .locate) := by decide +kernel

/-- R143: a range test of a locate dwells 200 ms. -/
theorem test_locateDwell :
    let s := (atTrunk .settling .load (atStep .locate .trunk idle)).setHv { heldA with holderStep := true };
    (after (.settleTimeExpiry .a) s).hv.energ.map (·.dwell) = some 200 ∧
      ((after (.settleTimeExpiry .a) s).bench .a).step.map (·.state) = some .locate := by decide +kernel

theorem witness_StagesAdvance :
    ((lit .ramping .ramping).inReset = false ∧ (lit .ramping .ramping).hv.energ = some (energ0 .ramping) ∧ (energ0 .connecting).stage = .connecting ∧
      (energ0 .ramping).setpoint ≤ 500 ∧ 499 < (energ0 .ramping).setpoint) ∧ base.hv.energ = none ∧
    ((lit .sampling .sampling).hv.energ = some (energ0 .sampling) ∧ (lit .sampling .sampling).hot .a = true) := by decide +kernel

theorem witness_ArcsEnd :
    ((lit .dwelling .dwelling).inReset = false ∧ (lit .dwelling .dwelling).hv.energ = some (energ0 .dwelling) ∧
      (lit .dwelling .dwelling).hot .a = true) ∧
    ((energ0 .dwelling).trip * 1000 ≤ 1000000 ∧ 999999 < (energ0 .dwelling).trip * 1000) ∧
    (399 * 10 < (energ0 .dwelling).setpoint * 8 ∧ (energ0 .dwelling).setpoint * 8 ≤ 400 * 10) := by decide +kernel

theorem witness_DischargeFault :
    (let s := lit .discharging .discharging; s.inReset = false ∧ s.hv.energ = some (energ0 .discharging) ∧ s.hot .a = true ∧ s.hv.holder = some .a ∧ s.hv.sw = .to .a) ∧
    ((lit .discharging .discharging).setMatrix idle.matrix).hot .a = false ∧
    (Ready base .ps ∧ base.hv.latch = none) ∧
    ((hotA (base.setHv { lending with latch := some .a, source := .faulted })).hv.latch = some .a ∧ base.hot .a = false ∧ lending.line = []) ∧
    Port.pa ≠ .ps := by decide +kernel

theorem witness_DischargeFault_step :
    let s := closedA (lit .discharging .discharging);
    let u := s.setBench .a { s.bench .a with step := some { step0 .energise with interrupted := true }, queued := some (step0 .waitHv) };
    StepDischarges u .a (energ0 .discharging) { step0 .energise with interrupted := true } ∧ u.hv.holder = some .a ∧ u.hv.sw = .to .a ∧
    (u.bench .a).record = some run0 ∧ (u.bench .a).queued.isSome = true := by decide +kernel

theorem witness_LidsAct :
    (base.inReset = false ∧ lending.lidClosed.get .a = true ∧ lending.holder ≠ some .a) ∧
    (heldA.holder = some .a ∧ (base.bench .a).step = none ∧ heldA.source = .off ∧ heldA.sw = .off ∧ heldA.line = []) ∧
    (let s := lit .sampling .sampling; s.hv.lidClosed.get .a = true ∧ s.hv.energ = some (energ0 .sampling) ∧ s.hv.source.outputOn = true ∧ s.hv.sw = .to .a ∧
      (energ0 .sampling).outcome = none ∧ s.hot .a = true ∧ (s.bench .a).step = some (step0 .energise) ∧
      (s.bench .a).wait = .energisation) ∧
    base.hv.lidClosed.get .a = false := by decide +kernel

theorem witness_EstopActs :
    (let s := base.setHv lending; s.hv.estop = false ∧ s.hv.holder = none ∧ s.hv.releasePending = false ∧ s.hv.reserved = false ∧ s.hv.holdTimer = none ∧
      s.hv.stepAsk = ⟨false, false⟩ ∧ s.hv.reserveAsk = ⟨false, false⟩ ∧ s.hv.line = [] ∧ (s.bench .a).step = none ∧ (s.bench .b).step = none) ∧
    (∀ g ∈ [(Stage.ramping, SourceState.ramping), (.dwelling, .dwelling), (.sampling, .sampling)],
      let s := lit g.1 g.2;
      s.hv.estop = false ∧ s.hv.holder = some .a ∧ s.hv.energ = some (energ0 g.1) ∧ s.hv.sw = .to .a ∧ s.hot .a = true ∧
      ((energ0 g.1).stage = .ramping ∨ (energ0 g.1).stage = .dwelling ∨ (energ0 g.1).stage = .sampling) ∧
      (s.bench .a).step = some (step0 .energise) ∧ (step0 .energise).state ≠ .finish ∧ (s.bench .a).wait = .energisation) ∧
    ({ lending with estop := true } : Hv).estop = true := by decide +kernel

/-- What else an E-STOP meets: an idle holder with the switch OFF and with a failed discharge behind it, and steps that work with no
energisation: configuring, standing all-open, SETTLED with relays closed, and in FINISH. -/
theorem witness_EstopActs_idle :
    (let s := base.setHv heldA; s.hv.holder = some .a ∧ (s.bench .a).step = none ∧ (s.bench .b).step = none ∧ s.hv.sw = .off ∧
      s.hv.quiet = false ∧ s.hv.estop = false ∧ s.hv.energ = none ∧ ({ heldA with sw := .to .a } : Hv).sw ≠ .off) ∧
    (let s := atTrunk .closing .load (atStep .configure .trunk idle);
      (s.bench .a).step = some (step0 .configure) ∧ (step0 .configure).state ≠ .finish ∧ (s.bench .a).wait ≠ .energisation ∧
      (s.trunk .a).state = .closing) ∧
    (let s := atStep .waitHv .hv idle; (s.trunk .a).state = .idle ∧ s.matrix.state = .ready ∧ s.hot .a = false ∧ ¬ Closed s .a ∧
      (s.bench .a).run = .insulation ∧ (s.bench .a).step = some (step0 .waitHv)) ∧
    (let s := closedA (atTrunk .settled .load (atStep .locate .trunk idle)); (s.trunk .a).state = .settled ∧ Closed s .a) ∧
    (step0 .finish).state = .finish := by decide +kernel

/-- R130, R144: an E-STOP takes a step in WAIT-HV over an all-open trunk to its end at once. -/
theorem test_estopEndsWait :
    let t := after .estopActive ((atStep .waitHv .hv idle).setHv ({ lending with lidClosed := ⟨false, false⟩ }.setStepAsk .a true));
    (t.bench .a).run = .ready ∧ (t.bench .a).step = none ∧ ((t.bench .a).record.map (·.stepInterrupted)) = some true ∧
      t.hv.line = [] := by decide +kernel

theorem witness_TicketRequests :
    Ready printing .ps ∧ (policyOf 2 = some .all ∧ policyOf 3 = none) ∧
    (((base.setBench .a { base.bench .a with banks := (base.bench .a).banks.set .one { Bank.reset with state := .queued } }).bench .a).banks.get
      .one).state = .queued ∧
    (((printing.bench .a).banks.get .zero).state = .printing ∧ printing.printer.queue = job0 :: [] ∧ job0.cancelled = none ∧
      printing.printer.line < (jobBank printing job0).records.length + 6) ∧
    ((base.bench .a).banks.get .zero).state = .free ∧
    (127 < (128 : Byte).toNat ∧ (127 : Byte).toNat ≤ 127 ∧ ((printing.bench .a).banks.get .zero).state ≠ .free) := by decide +kernel

theorem witness_LinkMoves :
    base.inReset = false ∧ base.printer.busy = false ∧
    ({ printing.printer with link := .stalled } : Printer).busy = true ∧
    (printing.printer.link = .waitAck ∧ printing.printer.risen = true ∧ printing.printer.queue = job0 :: [] ∧ printing.printer.char < 42) ∧
    ({ printing.printer with char := 41 } : Printer).char < 42 ∧
    ({ printing.printer with risen := false } : Printer).risen = false ∧ ({ printing.printer with busy := false } : Printer).link = .waitAck ∧
    base.printer.fault = false ∧
    ((after .faultRise base).printer.fault = true ∧ (after .faultRise base).printer.link = .paused ∧ (after .faultRise base).printer.queue = []) ∧
    ((after .faultRise printing).printer.link = .paused ∧ (after .faultRise printing).printer.queue = job0 :: []) := by decide +kernel

theorem witness_LinkMoves_lines :
    (({ printing.printer with link := .stalled } : Printer).restart = false ∧
      ({ printing.printer with link := .stalled, restart := true } : Printer).restart = true) ∧
    (printing.printer.queue.head? = some job0 ∧ printing.printer.busy = true ∧ printing.printer.link = .waitAck ∧
      printing.printer.risen = true ∧ 42 ≤ ({ printing.printer with char := 42 } : Printer).char ∧
      printing.printer.line < ticketLines job0 (jobBank printing job0) ∧
      ticketLines job0 (jobBank printing job0) ≤ ({ printing.printer with line := 9 } : Printer).line ∧
      printing.printer.queue.tail = [] ∧
      ({ printing.printer with queue := [job0, { job0 with bank := .one }] } : Printer).queue.tail.head? =
        some { job0 with bank := .one } ∧ BankNo.one ≠ job0.bank) := by decide +kernel

theorem witness_TicketLinesFit : job0.code.length = 6 ∧ job0.cancelled = none := by decide

theorem witness_LinesReset :
    base.inReset = false ∧ base.store.state = .empty ∧ (atStore .valid base).store.state = .valid ∧
    ((base.setPort .pa { PortState.reset with work := some (.readImage 0 1) }).port .pa).work = some (.readImage 0 1) ∧
    ((base.setPort .pb { PortState.reset with response := some (waitResponse 1) }).port .pb).response = some (waitResponse 1) := by
  decide

theorem witness_ResetEnds :
    ({ inPorn with linerst := true }.porn = true ∧ { inPorn with linerst := true }.linerst = true) ∧
    (inPorn.porn = true ∧ inPorn.linerst = false ∧ inPorn.matrix.state = .unknown ∧ inPorn.matrix.load = none ∧ inPorn.matrix.hk = none) ∧
    base.inReset = false ∧
    (Instr.readCause .pa).request? = some (.pa, .readCause) ∧
    (inPorn.inReset = true ∧ (∀ b, Instr.busyRise ≠ .powerOnReset b) ∧ (∀ b, Instr.busyRise ≠ .lineReset b) ∧
      (∀ l v, Instr.busyRise ≠ .resetEnd l v) ∧ Instr.busyRise.request? = none ∧ (∀ p, Instr.busyRise ≠ .fetch p) ∧
      (∀ p bytes, Instr.busyRise ≠ .requestFrame p bytes) ∧ ∀ p, Instr.busyRise ≠ .chipSelectFall p) := by
  refine ⟨by decide, by decide, by decide, by decide, by decide, ?_, ?_, ?_, by decide, ?_, ?_, ?_⟩ <;> intros <;> nofun

theorem witness_DeviceReset :
    idle.inReset = false ∧ (idle.matrix.state = .ready ∧ idle.matrix.hk ≠ some .clearing) ∧
    ((base.setPort .pa { PortState.reset with work := some (.readImage 0 1) }).port .pa).work = some (.readImage 0 1) ∧
    ((base.setPort .pb { PortState.reset with response := some (waitResponse 1) }).port .pb).response = some (waitResponse 1) := by decide

theorem witness_CauseWritten :
    (base.porn = false ∧ base.linerst = false ∧ inPorn.porn = true ∧ base.inReset = false) ∧
    ((∃ t, exec .busyRise base = .next t) ∧ (∀ b, Instr.busyRise ≠ .powerOnReset b) ∧ (∀ b, Instr.busyRise ≠ .lineReset b) ∧
      Instr.busyRise ≠ .resetDevice .ps ∧ ∀ bytes, Instr.busyRise ≠ .requestFrame .ps (0x08 :: bytes)) ∧ Ready base .pa := by
  refine ⟨by decide, ⟨⟨_, rfl⟩, ?_, ?_, by decide, ?_⟩, by decide⟩
  · intro b h; exact nomatch h
  · intro b h; exact nomatch h
  · intro b h; exact nomatch h

theorem witness_PointsRead :
    Ready base .pa ∧ (240 < (241 : Byte).toNat ∧ 2048 < (2048 : Word16).toNat + (1 : Byte).toNat) ∧
    (1 ≤ (240 : Byte).toNat ∧ (240 : Byte).toNat ≤ 240 ∧ (1808 : Word16).toNat + (240 : Byte).toNat ≤ 2048) ∧
    base.matrix.image = none ∧ idle.matrix.image = some { relays := .allOpen, sel := .none } := by decide +kernel

theorem witness_ReadsAnswer :
    Ready base .pa ∧ (base.setHv { heldA with holdTimer := some 1000 }).hv.holdTimer = some 1000 ∧
    ∀ v ∈ [MeasResult.pairValue 7 2, .openWire, .fail 3, .clean none],
      ((base.setChannel .a { Channel.reset with lastResult := some v }).channel .a).lastResult = some v := by decide

end Sys2Proof.Tests
end

/-! The settle time of a trunk (R15): what SET SETTLE TIME answers, and what the resets make of the value. -/

namespace Sys2Proof.Machine

/-! ## The clamp -/

/-- The clamp is the nearest value of the range. -/
theorem clampTo_eq_max_min {lo hi : Nat} (h : lo ≤ hi) (v : Nat) : clampTo lo hi v = max lo (min hi v) := by
  unfold clampTo
  split
  · omega
  · split <;> omega

/-- The clamp changes a value exactly where it lies outside the range. -/
theorem clampTo_ne_iff {lo hi : Nat} (h : lo ≤ hi) (v : Nat) : clampTo lo hi v ≠ v ↔ v < lo ∨ hi < v := by
  rw [clampTo_eq_max_min h]
  omega

/-! ## The request -/

theorem exec_setSettleTime (p : Port) (a v : Byte) (s : State) :
    exec (.setSettleTime p a v) s = .next (atRise p (submit p (.setSettleTime a v)) s) := rfl

@[simp] theorem stationOf_stationByte (x : Station) : stationOf (stationByte x) = some x := by
  cases x <;> rfl

/-- Every other byte names no station. -/
theorem stationOf_none {a : Byte} (h0 : a ≠ 0) (h1 : a ≠ 1) : stationOf a = none := by
  rw [stationOf, if_neg h0, if_neg h1]

/-- The block sets the clamped time and reports whether the clamp changed it. -/
theorem serveSetSettleTime_named (x : Station) (v : Byte) (s : State) :
    serveSetSettleTime (stationByte x) v s =
      (s.setTrunk x { s.trunk x with settleTime := max 1 (min 20 v.toNat) },
        some (.okClamped (decide (v.toNat < 1 ∨ 20 < v.toNat)))) := by
  have range : 1 ≤ 20 := by decide
  simp only [serveSetSettleTime, withStation, stationOf_stationByte, clampTo_ne_iff range]
  rw [clampTo_eq_max_min range]

/-- A byte that names no trunk is BAD-ARGUMENT. -/
theorem serveSetSettleTime_unnamed {a : Byte} (h0 : a ≠ 0) (h1 : a ≠ 1) (v : Byte) (s : State) :
    serveSetSettleTime a v s = same .badArgument s := by
  simp only [serveSetSettleTime, withStation, stationOf_none h0 h1]

/-- On a ready supervisor port the request reaches its block, with the period ended. -/
theorem exec_setSettleTime_ready {s : State} (a v : Byte) (h : Ready s .ps) :
    exec (.setSettleTime .ps a v) s = .next (handOn .ps (.setSettleTime a v) (s.setPort .ps (s.port .ps).endPeriod)) := by
  rw [exec_setSettleTime, atRise_running _ _ h.1]
  exact congrArg _ (submit_ready (c := .supervisor) h rfl rfl rfl nofun nofun)

theorem exec_setSettleTime_named {s : State} (x : Station) (v : Byte) (h : Ready s .ps) :
    exec (.setSettleTime .ps (stationByte x) v) s =
      .next (answered .ps 0x12 .ok (decide (v.toNat < 1 ∨ 20 < v.toNat)) false .empty
        (s.setTrunk x { s.trunk x with settleTime := max 1 (min 20 v.toNat) })) := by
  rw [exec_setSettleTime_ready _ _ h]
  simp only [handOn, serve, serveSetSettleTime_named]
  exact congrArg _ (respond_endPeriod (s.setTrunk x { s.trunk x with settleTime := max 1 (min 20 v.toNat) }) .ps 0x12
    (.okClamped (decide (v.toNat < 1 ∨ 20 < v.toNat))))

theorem exec_setSettleTime_unnamed {s : State} {a : Byte} (v : Byte) (h : Ready s .ps) (h0 : a ≠ 0) (h1 : a ≠ 1) :
    exec (.setSettleTime .ps a v) s = .next (plainly .ps 0x12 .badArgument s) := by
  rw [exec_setSettleTime_ready _ _ h]
  simp only [handOn, serve, serveSetSettleTime_unnamed h0 h1, same]
  exact congrArg _ (respond_endPeriod s .ps 0x12 (.plain .badArgument))

theorem exec_setSettleTime_notPermitted {s : State} {p : Port} (a v : Byte) (h : Ready s p) (hp : p ≠ .ps) :
    exec (.setSettleTime p a v) s = .next (plainly p 0x12 .notPermitted s) := by
  rw [exec_setSettleTime, atRise_running _ _ h.1]
  exact congrArg _ (submit_notPermitted (c := .supervisor) h rfl (by simp [PortClass.holds, hp]) rfl)

/-! ## The resets that set it -/

/-- The two resets of the whole part put every trunk at its reset value. -/
theorem reset_trunk (hot : Both Bool) (x : Station) : (Matrix.reset hot).trunks.get x = Trunk.reset := by
  cases x <;> rfl

theorem powerOn_trunk (b : BuildMax) (s : State) (x : Station) : (powerOn b s).trunk x = Trunk.reset :=
  reset_trunk s.matrix.hot x

theorem lineReset_trunk {s : State} (b : BuildMax) (x : Station) (h : s.porn = false) : (lineReset b s).trunk x = Trunk.reset := by
  simp only [lineReset, h]
  exact reset_trunk s.matrix.hot x

theorem exec_powerOnReset {s : State} (b : BuildMax) (h : s.porn = false) : exec (.powerOnReset b) s = .next (powerOn b s) :=
  congrArg Host.Outcome.next (if_neg (by simp [h]))

theorem exec_lineReset {s : State} (b : BuildMax) (h : s.linerst = false) : exec (.lineReset b) s = .next (lineReset b s) :=
  congrArg Host.Outcome.next (if_neg (by simp [h]))

/-- Outside a reset neither line is asserted. -/
theorem lines_of_running {s : State} (h : s.inReset = false) : s.porn = false ∧ s.linerst = false := by
  simpa [State.inReset] using h

/-! ## The resets that keep it -/

/-- The work of the engines, trunks, channels and source keeps each trunk's settle time. -/
theorem Worked.settleTime {s t : State} (h : Worked s t) (x : Station) : (t.trunk x).settleTime = (s.trunk x).settleTime := by
  have e : t.matrix.settleTimes.get x = s.matrix.settleTimes.get x := by rw [h.settleTimes]
  cases x <;> exact e

theorem settleTime_of_matrix {s t : State} (h : t.matrix = s.matrix) (x : Station) :
    (t.trunk x).settleTime = (s.trunk x).settleTime := by
  simp only [State.trunk, h]

/-- A run's end by a station reset queues no ticket: it writes the station and the attention unit of PS, and not the matrix (R71, R78). -/
theorem resetRun_matrix (x : Station) (s : State) : (resetRun x s).matrix = s.matrix := by
  unfold resetRun
  split
  · rfl
  · rfl

theorem worked_endHolding (x : Station) (q : Bool) (s : State) : Worked s (endHolding x q s) := by
  have told : Worked s (tellEngine (cutEnergisation x .runEnd (clearAsks x s))) :=
    worked_tellEngine ((worked_cutEnergisation _ _ _).after (worked_clearAsks _ _))
  unfold endHolding
  dsimp only
  split
  · refine (worked_releaseHolder _).after (told.trans (worked_setHv ?_))
    rfl
  · exact told

theorem settleTime_stationReset (x y : Station) (s : State) :
    ((stationReset x s).trunk y).settleTime = (s.trunk y).settleTime := by
  have run : ((resetRun x (leaveCheck x s)).trunk y).settleTime = (s.trunk y).settleTime :=
    settleTime_of_matrix (resetRun_matrix x (leaveCheck x s)) y
  have work := (worked_stationResetTrunk x _).after
    ((worked_stationResetChannel x _).after (worked_endHolding x true (resetRun x (leaveCheck x s))))
  exact (work.settleTime y).trans run

theorem settleTime_supervisorReset (y : Station) (s : State) :
    ((supervisorReset s).trunk y).settleTime = (s.trunk y).settleTime := by
  have trunks (u : State) : Worked u (supervisorResetTrunk .b (supervisorResetTrunk .a u)) :=
    (worked_supervisorResetTrunk _ _).after (worked_supervisorResetTrunk _ _)
  unfold supervisorReset
  dsimp only
  split
  · exact ((worked_requestHousekeeping _ _).after (trunks _)).settleTime y
  · exact ((worked_chainStart _).after (trunks _)).settleTime y

/-- A rise of chip select keeps the settle times where the end of its period does: held in a reset, it only ends the period. -/
theorem settleTime_atRise {s : State} {p : Port} {f : State → State} {x : Station}
    (h : ((f s).trunk x).settleTime = (s.trunk x).settleTime) : ((atRise p f s).trunk x).settleTime = (s.trunk x).settleTime := by
  unfold atRise
  split
  · rfl
  · exact h

/-- Port PS takes RESET DEVICE whatever its slots hold (R164). -/
theorem submit_resetDevice (s : State) :
    submit .ps .resetDevice s = takeResetDevice .ps (s.setPort .ps (s.port .ps).endPeriod) := rfl

/-- A station port takes STATION RESET whatever its slots hold (R164). -/
theorem submit_stationReset (y : Station) (s : State) :
    submit y.port .stationReset s = takeStationReset y.port y (s.setPort y.port (s.port y.port).endPeriod) := by
  cases y <;> rfl

theorem exec_resetDevice_settleTime (s : State) :
    ∃ t, exec (.resetDevice .ps) s = .next t ∧ ∀ x, (t.trunk x).settleTime = (s.trunk x).settleTime := by
  refine ⟨_, rfl, fun x => settleTime_atRise ?_⟩
  rw [submit_resetDevice]
  exact settleTime_supervisorReset x _

theorem exec_stationReset_settleTime (s : State) (y : Station) :
    ∃ t, exec (.stationReset y.port) s = .next t ∧ ∀ x, (t.trunk x).settleTime = (s.trunk x).settleTime := by
  refine ⟨_, rfl, fun x => settleTime_atRise ?_⟩
  rw [submit_stationReset]
  exact settleTime_stationReset y x _

/-- Settles O17: the request by the port's judgement and the block's clamp, the resets by the trunk's reset value or by the frame
`Worked` of the work they do. -/
theorem settleTimeSet : Obligations.SettleTimeSet := by
  refine ⟨fun _ => exec_setSettleTime_named, fun _ _ => exec_setSettleTime_unnamed, fun _ _ => exec_setSettleTime_notPermitted,
    fun _ => ⟨rfl, rfl⟩, fun s b h => ?_, fun s b h => ?_,
    exec_resetDevice_settleTime, exec_stationReset_settleTime⟩
  · exact ⟨_, exec_powerOnReset b h, fun x => by rw [powerOn_trunk]; rfl⟩
  · obtain ⟨hporn, hline⟩ := lines_of_running h
    exact ⟨_, exec_lineReset b hline, fun x => by rw [lineReset_trunk b x hporn]; rfl⟩

end Sys2Proof.Machine

/-! The verdict of a run (R70): the four tests, and the summary that a closed run and a run ended by a station reset leave behind. -/

namespace Sys2Proof.Machine

/-! ## The four tests, in their order -/

/-- Test 1 of R70: a reference fault hides every other finding. -/
theorem verdictOf_refFault {r : RunRecord} (h : r.refFault = true) : verdictOf r = .invalidReference := if_pos h

/-- Past test 1, the record's own tests judge. -/
theorem verdictOf_sound {r : RunRecord} (h : r.refFault = false) :
    verdictOf r = if 0 < r.found then .fail else if r.continuity ≠ .done ∨ r.stepInterrupted then .incomplete else .pass :=
  if_neg (by simp [h])

/-- Test 2 of R70: a found defect decides, even on a sweep cut short. -/
theorem verdictOf_found {r : RunRecord} (h : r.refFault = false) (hf : 0 < r.found) : verdictOf r = .fail := by
  rw [verdictOf_sound h, if_pos hf]

/-- Past test 2, the work done judges. -/
theorem verdictOf_faultless {r : RunRecord} (h : r.refFault = false) (hf : r.found = 0) :
    verdictOf r = if r.continuity ≠ .done ∨ r.stepInterrupted then .incomplete else .pass := by
  rw [verdictOf_sound h, if_neg (by simp [hf])]

/-- Test 3 of R70: a sweep that was not completed, or an interrupted step. -/
theorem verdictOf_unfinished {r : RunRecord} (h : r.refFault = false) (hf : r.found = 0)
    (hw : r.continuity = .notDone ∨ r.continuity = .cutShort ∨ r.stepInterrupted = true) : verdictOf r = .incomplete := by
  rw [verdictOf_faultless h hf, if_pos]
  obtain hn | hc | hi := hw
  · simp [hn]
  · simp [hc]
  · exact .inr hi

/-- Test 4 of R70: what is left; no insulation step is demanded. -/
theorem verdictOf_finished {r : RunRecord} (h : r.refFault = false) (hf : r.found = 0) (hd : r.continuity = .done)
    (hi : r.stepInterrupted = false) : verdictOf r = .pass := by
  rw [verdictOf_faultless h hf, if_neg (by simp [hd, hi])]

/-! ## What the printer leaves of the books

A run end writes the books of its station and hands the bank to the printer; nothing after that write touches them. -/

theorem Bench.summary_of_books {b c : Bench} (h : b.books = c.books) : b.summary = c.summary :=
  congrArg (fun k => k.2.2.2.1) h

theorem setBankState_books (x y : Station) (n : BankNo) (v : BankState) (s : State) :
    ((setBankState x n v s).bench y).books = (s.bench y).books :=
  (worked_setBench rfl : Worked s (setBankState x n v s)).books y

theorem composerHand_bench (y : Station) (s : State) : (composerHand s).bench y = s.bench y := by
  unfold composerHand
  dsimp only
  split
  · split
    · rfl
    · rfl
  · rfl

theorem beginHead_books (y : Station) (s : State) : ((beginHead s).bench y).books = (s.bench y).books := by
  unfold beginHead
  split
  · rw [composerHand_bench, setBankState_books, State.setPrinter_bench]
  · rfl

theorem queueJob_books (j : Job) (y : Station) (s : State) : ((queueJob j s).bench y).books = (s.bench y).books := by
  unfold queueJob
  dsimp only
  split
  · rw [beginHead_books, setBankState_books, State.setPrinter_bench]
  · rw [setBankState_books, State.setPrinter_bench]

theorem endBank_books (x y : Station) (r : RunRecord) (v : Verdict) (ticket : Bool) (s : State) :
    ((endBank x r v ticket s).bench y).books = (s.bench y).books := by
  unfold endBank
  split
  · exact queueJob_books _ y s
  · exact setBankState_books x y _ _ s

/-! ## The summary of an ended run -/

/-- A counted run end closes the books of its station, whatever becomes of the bank (R71). -/
theorem endRun_books (x : Station) (r : RunRecord) (cause : RunEndCause) (v : Verdict) (s : State) :
    ((endRun x r cause v s).bench x).books = ((s.bench x).ended r cause v).books := by
  have bank (ticket : Bool) := endBank_books x x r v ticket (s.setBench x ((s.bench x).ended r cause v))
  rw [State.setBench_bench_same] at bank
  unfold endRun
  dsimp only
  split
  · exact bank _
  · exact bank _

theorem endRun_summary (x : Station) (r : RunRecord) (cause : RunEndCause) (v : Verdict) (s : State) :
    ((endRun x r cause v s).bench x).summary = some { serial := r.serial, bank := r.bank, verdict := v, cause := cause } :=
  Bench.summary_of_books (endRun_books x r cause v s)

theorem Worked.summary {s t : State} (h : Worked s t) (x : Station) : (t.bench x).summary = (s.bench x).summary :=
  Bench.summary_of_books (h.books x)

/-! ## CLOSE RUN -/

/-- A request handed on changes the benches as its block does. -/
theorem handOn_bench (p : Port) (r : Request) (s : State) (y : Station) : (handOn p r s).bench y = (serve p r s).1.bench y := by
  unfold handOn
  dsimp only
  split
  · rfl
  · rfl

theorem serve_closeRun (x : Station) (s : State) : serve x.port .closeRun s = serveCloseRun x s := by
  cases x <;> rfl

/-- On a ready station port the request reaches its block, with the period ended. -/
theorem exec_closeRun_ready {s : State} {x : Station} (h : Ready s x.port) :
    exec (.closeRun x.port) s = .next (handOn x.port .closeRun (s.setPort x.port (s.port x.port).endPeriod)) := by
  have class_holds : PortClass.station.holds x.port = true := by cases x <;> rfl
  have rise : exec (.closeRun x.port) s = .next (atRise x.port (submit x.port .closeRun) s) := rfl
  rw [rise, atRise_running _ _ h.1]
  exact congrArg _ (submit_ready h rfl class_holds rfl nofun nofun)

/-- A run closed in READY is summed up with the verdict of its record. -/
theorem serveCloseRun_summary {s : State} {x : Station} {r : RunRecord} (hrun : (s.bench x).run = .ready)
    (hrec : (s.bench x).record = some r) :
    ((serveCloseRun x s).1.bench x).summary =
      some { serial := r.serial, bank := r.bank, verdict := verdictOf r, cause := .closeRun } := by
  simp only [serveCloseRun, hrun, hrec]
  rw [(worked_endHolding x false _).summary, endRun_summary]

theorem exec_closeRun_verdict {s : State} {x : Station} {r : RunRecord} (h : Ready s x.port) (hrun : (s.bench x).run = .ready)
    (hrec : (s.bench x).record = some r) :
    ∃ t, exec (.closeRun x.port) s = .next t ∧ (t.bench x).summary.map (·.verdict) = some (verdictOf r) := by
  refine ⟨_, exec_closeRun_ready h, ?_⟩
  rw [handOn_bench, serve_closeRun]
  have summed := serveCloseRun_summary (s := s.setPort x.port (s.port x.port).endPeriod) hrun hrec
  rw [summed, Option.map_some]

/-! ## STATION RESET -/

/-- An open run that a station reset ends is summed up INCOMPLETE: its record is not asked (R70, R78). -/
theorem stationReset_summary {s : State} {x : Station} {r : RunRecord} (hrec : (s.bench x).record = some r) :
    ((stationReset x s).bench x).summary =
      some { serial := r.serial, bank := r.bank, verdict := .incomplete, cause := .stationReset } := by
  have run : resetRun x (leaveCheck x s) = endRun x r .stationReset .incomplete (leaveCheck x s) := by
    have joined : ((leaveCheck x s).bench x).record = some r := hrec
    simp only [resetRun, joined]
  have work := (worked_stationResetTrunk x _).after
    ((worked_stationResetChannel x _).after (worked_endHolding x true (resetRun x (leaveCheck x s))))
  calc ((stationReset x s).bench x).summary
      = ((resetRun x (leaveCheck x s)).bench x).summary := work.summary x
    _ = _ := by rw [run, endRun_summary]

theorem exec_stationReset_verdict {s : State} {x : Station} {r : RunRecord} (h : s.inReset = false)
    (hrec : (s.bench x).record = some r) :
    ∃ t, exec (.stationReset x.port) s = .next t ∧ (t.bench x).summary.map (·.verdict) = some .incomplete := by
  refine ⟨_, rfl, ?_⟩
  rw [atRise_running _ _ h, submit_stationReset, takeStationReset, resetResponse, State.setPort_bench]
  have summed := stationReset_summary (s := s.setPort x.port (s.port x.port).endPeriod) hrec
  rw [summed, Option.map_some]

/-- Settles O35: the tests by their order in `verdictOf`, the two ends of a run by the summary that `endRun` writes and that the source's
release and the trunk's work keep. -/
theorem verdictTests : Obligations.VerdictTests :=
  ⟨fun _ => ⟨verdictOf_refFault, verdictOf_found, verdictOf_unfinished, verdictOf_finished⟩,
    fun _ _ _ => exec_closeRun_verdict, fun _ _ _ => exec_stationReset_verdict⟩

end Sys2Proof.Machine

/-! The end of a notice (R170): what END NOTICE takes from the serving stack and answers, and the ATTN line it leaves. -/

namespace Sys2Proof.Machine

/-! ## The ATTN line -/

theorem eligible_iff (u : Attention) (n : Nat) :
    eligible u n = true ↔ u.pending.getLsbD n = true ∧ stackRank u < levelRank (sourceLevel u n) := by
  rw [eligible, Bool.and_eq_true, decide_eq_true_iff]

/-- ATTN is asserted while alarm active is set, or while a pending source lies above the top of the serving stack (R168). -/
theorem attnLine_iff (u : Attention) (alarm : Bool) :
    attnLine u alarm = true ↔
      alarm = true ∨ ∃ n, n < 16 ∧ u.pending.getLsbD n = true ∧ stackRank u < levelRank (sourceLevel u n) := by
  simp only [attnLine, Bool.or_eq_true, List.any_eq_true, List.mem_range, eligible_iff]

/-- An answer leaves the ATTN lines as they are. -/
@[simp] theorem answered_attn (p : Port) (echo : Byte) (v : Status) (clamped more : Bool) (d : Payload) (s : State) (q : Port) :
    (answered p echo v clamped more d s).attn q = s.attn q := rfl

/-- ATTN of a port whose serving stack has changed is judged against the new top (R168). -/
theorem setUnit_stack_attn_iff (s : State) (p : Port) (stack : List Level) :
    (s.setUnit p { s.unit p with stack := stack }).attn p = true ↔
      s.store.active = true ∨
        ∃ n, n < 16 ∧ (s.unit p).pending.getLsbD n = true ∧
          (stack.head?.map levelRank).getD 0 < levelRank (sourceLevel (s.unit p) n) := by
  rw [State.attn, State.setUnit_unit_same, State.setUnit_store]
  exact attnLine_iff _ _

/-! ## The request -/

/-- A request that the port answers at once: the block's reply on the state the block leaves. -/
theorem handOn_endPeriod_of_serve {s t : State} {p : Port} {r : Request} {a : Reply}
    (h : serve p r (s.setPort p (s.port p).endPeriod) = (t.setPort p (t.port p).endPeriod, some a)) :
    handOn p r (s.setPort p (s.port p).endPeriod) = answered p r.code a.status a.clamped a.more a.payload t := by
  simp only [handOn, h]
  exact respond_endPeriod t p r.code a

theorem serveEndNotice_cons {s : State} {p : Port} {l : Level} {rest : List Level} (h : (s.unit p).stack = l :: rest) :
    serveEndNotice p s = (s.setUnit p { s.unit p with stack := rest }, some (.data (.bytes [levelByte l]))) := by
  simp only [serveEndNotice, h]

theorem serveEndNotice_nil {s : State} {p : Port} (h : (s.unit p).stack = []) :
    serveEndNotice p s = answerData (.bytes [0xFF]) s := by
  simp only [serveEndNotice, h]

/-- On a ready port the request reaches its block, with the period ended; every port may issue it. -/
theorem exec_endNotice_of_serve {s t : State} {p : Port} {a : Reply} (h : Ready s p)
    (served : serveEndNotice p (s.setPort p (s.port p).endPeriod) = (t.setPort p (t.port p).endPeriod, some a)) :
    exec (.endNotice p) s = .next (answered p 0x02 a.status a.clamped a.more a.payload t) := by
  have rise : exec (.endNotice p) s = .next (atRise p (submit p .endNotice) s) := rfl
  rw [rise, atRise_running _ _ h.1, submit_ready (r := .endNotice) (c := .any) h rfl rfl rfl nofun nofun]
  exact congrArg _ (handOn_endPeriod_of_serve (r := .endNotice) served)

theorem exec_endNotice_cons {s : State} {p : Port} {l : Level} {rest : List Level} (h : Ready s p)
    (hs : (s.unit p).stack = l :: rest) :
    exec (.endNotice p) s =
      .next (answered p 0x02 .ok false false (.bytes [levelByte l]) (s.setUnit p { s.unit p with stack := rest })) :=
  exec_endNotice_of_serve (t := s.setUnit p { s.unit p with stack := rest }) (a := .data (.bytes [levelByte l])) h
    (serveEndNotice_cons hs)

theorem exec_endNotice_nil {s : State} {p : Port} (h : Ready s p) (hs : (s.unit p).stack = []) :
    exec (.endNotice p) s = .next (answered p 0x02 .ok false false (.bytes [0xFF]) s) :=
  exec_endNotice_of_serve (a := .data (.bytes [0xFF])) h (serveEndNotice_nil hs)

/-- Settles O14, by the two cases of the serving stack; ATTN is read off the stack that the removal leaves. -/
theorem endNoticePops : Obligations.EndNoticePops :=
  fun s p ready =>
    ⟨fun _ rest hs => ⟨_, exec_endNotice_cons ready hs, rfl, by rw [answered_attn]; exact setUnit_stack_attn_iff s p rest⟩,
      exec_endNotice_nil ready⟩

end Sys2Proof.Machine

/-! The elementary acts that all work of engines, trunk controllers, channels and source is made of. `Worked` says what such work
leaves alone; the acts say what it does, so that an invariant need only be looked at act by act. -/

namespace Sys2Proof.Machine

/-! ## The acts -/

/-- The line holds exactly the asking stations, each once, and with no holder none of them could be granted (R116, R117). -/
structure Hv.AsksOrdered (h : Hv) : Prop where
  once : h.line.Nodup
  line : ∀ x, x ∈ h.line ↔ h.asks x = true
  granted : h.holder = none → ∀ x, h.asks x = true → h.grantable x = false

/-- What of a run record ties it to its bank (R149). -/
def RunRecord.tally (r : RunRecord) : BankNo × Nat := (r.bank, r.found)

/-- One elementary act of engines, trunk controllers, channels and source. -/
inductive Act : State → State → Prop
  | channel (s : State) (x : Station) (c : Channel) : Act s (s.setChannel x c)
  | bench {s : State} {x : Station} {b : Bench} (books : b.books = (s.bench x).books) (banks : b.banks = (s.bench x).banks)
      (record : b.record.map RunRecord.tally = (s.bench x).record.map RunRecord.tally) : Act s (s.setBench x b)
  | defect (x : Station) (short : Bool) (d : Defect) (s : State) : Act s (recordDefect x short d s)
  | raise (p : Port) (n : Nat) (s : State) : Act s (raise p n s)
  | trunk {s : State} {x : Station} {t : Trunk} (settle : t.settleTime = (s.trunk x).settleTime)
      (target : RelaysApart s → t.target.Apart) : Act s (s.setTrunk x t)
  | load {s : State} {x : Station} {r : Relays} (apart : RelaysApart s → r.Apart) : Act s (requestLoad x r s)
  | withdraw (x : Station) (s : State) : Act s (withdrawLoad x s)
  | housekeeping (k : Housekeeping) (s : State) : Act s (requestHousekeeping k s)
  | chain (s : State) : Act s (chainStart s)
  | hv {s : State} {h : Hv} (terms : h.terms = s.hv.terms) (string : s.hv.string ≤ 64 → h.string ≤ 64)
      (asks : s.hv.AsksOrdered → h.AsksOrdered) : Act s (s.setHv h)

/-- Work: acts one after another. -/
abbrev Acts : State → State → Prop := Relation.ReflTransGen Act

theorem Acts.after {s t u : State} (k : Acts t u) (h : Acts s t) : Acts s u := h.trans k

theorem Act.after {s t u : State} (k : Act t u) (h : Acts s t) : Acts s u := h.tail k

theorem Act.acts {s t : State} (h : Act s t) : Acts s t := .single h

/-! ## The arbiter's part of the HV unit -/

/-- What the order of the asks rests on: the holder, the line and the asks, and the terms of a grant. -/
def Hv.asking (h : Hv) : Option Station × List Station × Both Bool × Both Bool := (h.holder, h.line, h.stepAsk, h.reserveAsk)

theorem Hv.AsksOrdered.congr {h k : Hv} (terms : k.terms = h.terms) (asking : k.asking = h.asking) (o : h.AsksOrdered) :
    k.AsksOrdered := by
  simp only [Hv.terms, Hv.asking, Prod.mk.injEq] at terms asking
  obtain ⟨hperm, -, -, hlatch, hlid, hestop⟩ := terms
  obtain ⟨hhold, hline, hstep, hres⟩ := asking
  have same (x : Station) : k.asks x = h.asks x := by simp only [Hv.asks, hstep, hres]
  have grants (x : Station) : k.grantable x = h.grantable x := by simp only [Hv.grantable, hperm, hestop, hlid, hlatch, hhold]
  exact ⟨hline ▸ o.once, fun x => by rw [hline, same]; exact o.line x, fun hn x hx => by
    rw [grants]; exact o.granted (hhold ▸ hn) x (same x ▸ hx)⟩

/-- The line lists the asking stations, each once. -/
def Hv.Lined (h : Hv) : Prop := h.line.Nodup ∧ ∀ x, x ∈ h.line ↔ h.asks x = true

theorem Hv.AsksOrdered.lined {h : Hv} (o : h.AsksOrdered) : h.Lined := ⟨o.once, o.line⟩

/-- With a holder the line alone is to be in order. -/
theorem Hv.Lined.ordered {h : Hv} (l : h.Lined) (held : h.holder ≠ none) : h.AsksOrdered := ⟨l.1, l.2, fun hn => absurd hn held⟩

/-- Lining station X up after a change of its own asks keeps the line in order. -/
theorem Hv.Lined.lineUp {h k : Hv} {x : Station} (l : h.Lined) (line : k.line = h.line) (others : ∀ y, y ≠ x → k.asks y = h.asks y) :
    (k.lineUp x).Lined := by
  obtain ⟨once, mem⟩ := l
  have asks (y : Station) : (k.lineUp x).asks y = k.asks y := rfl
  unfold Hv.Lined
  simp only [asks]
  by_cases hx : k.asks x = true
  · by_cases hc : k.line.contains x = true
    · have e : (k.lineUp x).line = k.line := by simp only [Hv.lineUp, hx, hc, if_true]
      rw [e, line]
      refine ⟨once, fun y => ?_⟩
      by_cases hy : y = x
      · subst hy
        have hm : y ∈ h.line := by simpa [line] using hc
        simp only [hm, hx]
      · rw [mem, others y hy]
    · have hn : x ∉ h.line := by rw [line] at hc; simpa using hc
      have e : (k.lineUp x).line = h.line ++ [x] := by simp [Hv.lineUp, hx, line, hn]
      rw [e]
      refine ⟨by simpa [List.nodup_append] using ⟨once, fun y hy => fun e => hn (e ▸ hy)⟩, fun y => ?_⟩
      by_cases hy : y = x
      · subst hy; simp [hx]
      · simp [hy, mem, others y hy]
  · have e : (k.lineUp x).line = h.line.filter (fun y => decide (y ≠ x)) := by simp only [Hv.lineUp, hx, line]; simp
    rw [e]
    refine ⟨once.filter _, fun y => ?_⟩
    by_cases hy : y = x
    · subst hy; simp [hx]
    · simp [hy, mem, others y hy]

theorem Hv.asks_setStepAsk_ne (h : Hv) {x y : Station} (v : Bool) (hy : y ≠ x) : (h.setStepAsk x v).asks y = h.asks y := by
  simp only [Hv.setStepAsk, Hv.lineUp, Hv.asks, Both.get_set_ne _ _ hy]

theorem Hv.asks_setReserveAsk_ne (h : Hv) {x y : Station} (v : Bool) (hy : y ≠ x) : (h.setReserveAsk x v).asks y = h.asks y := by
  simp only [Hv.setReserveAsk, Hv.lineUp, Hv.asks, Both.get_set_ne _ _ hy]

theorem Hv.Lined.setStepAsk {h : Hv} (l : h.Lined) (x : Station) (v : Bool) : (h.setStepAsk x v).Lined :=
  l.lineUp rfl fun _ hy => h.asks_setStepAsk_ne v hy

theorem Hv.Lined.setReserveAsk {h : Hv} (l : h.Lined) (x : Station) (v : Bool) : (h.setReserveAsk x v).Lined :=
  l.lineUp rfl fun _ hy => h.asks_setReserveAsk_ne v hy

theorem Hv.Lined.clearAsks {h : Hv} (l : h.Lined) (x : Station) : (h.clearAsks x).Lined := (l.setStepAsk x false).setReserveAsk x false

theorem Hv.Lined.congr {h k : Hv} (asking : k.asking = h.asking) (l : h.Lined) : k.Lined := by
  simp only [Hv.asking, Prod.mk.injEq] at asking
  obtain ⟨-, hline, hstep, hres⟩ := asking
  simpa only [Hv.Lined, Hv.asks, hline, hstep, hres] using l

/-- A grant makes the station the holder, and its asks leave the line (R116). -/
theorem Hv.Lined.granted {h : Hv} (l : h.Lined) (x : Station) : (h.granted x).AsksOrdered :=
  Hv.Lined.ordered (h := h.granted x) (l.clearAsks x) nofun

/-- Withdrawing an ask keeps the order: fewer stations ask. -/
theorem Hv.AsksOrdered.fewer {h k : Hv} (o : h.AsksOrdered) (l : k.Lined) (holder : k.holder = h.holder)
    (grants : ∀ x, k.grantable x = h.grantable x) (fewer : ∀ x, k.asks x = true → h.asks x = true) : k.AsksOrdered :=
  ⟨l.1, l.2, fun hn x hx => by rw [grants]; exact o.granted (holder ▸ hn) x (fewer x hx)⟩

/-- The HV unit's part of the arbiter's look: the first in line that meets the conditions is granted (R116, R117). -/
def Hv.look (h : Hv) : Hv :=
  match h.line.find? (fun x => h.grantable x) with
  | some x => h.granted x
  | none => h

theorem Hv.Lined.look {h : Hv} (l : h.Lined) : h.look.AsksOrdered := by
  unfold Hv.look
  split
  · exact l.granted _
  · next hn =>
    refine ⟨l.1, l.2, fun _ x hx => ?_⟩
    simpa using List.find?_eq_none.mp hn x ((l.2 x).mpr hx)

end Sys2Proof.Machine

/-! The work of every shared operation is a chain of acts. -/

namespace Sys2Proof.Machine

/-! ## Source.lean -/

theorem RelaysApart.target {s : State} (h : RelaysApart s) (x : Station) : (s.trunk x).target.Apart := by
  obtain ⟨-, -, -, targets⟩ := h
  exact targets x

theorem allOpen_apart : Relays.allOpen.Apart := BitVec.zero_and

theorem acts_channel (s : State) (x : Station) (c : Channel) : Acts s (s.setChannel x c) := (Act.channel s x c).acts

/-- Work of the source that leaves holder, asks and terms alone. -/
theorem acts_source {s : State} {h : Hv} (terms : h.terms = s.hv.terms) (asking : h.asking = s.hv.asking)
    (string : h.string = s.hv.string) : Acts s (s.setHv h) :=
  (Act.hv terms (fun b => string ▸ b) (.congr terms asking)).acts

theorem acts_bench {s : State} {x : Station} {b : Bench} (books : b.books = (s.bench x).books) (banks : b.banks = (s.bench x).banks)
    (record : b.record.map RunRecord.tally = (s.bench x).record.map RunRecord.tally) : Acts s (s.setBench x b) :=
  (Act.bench books banks record).acts

theorem acts_trunk {s : State} {x : Station} {t : Trunk} (settle : t.settleTime = (s.trunk x).settleTime)
    (target : RelaysApart s → t.target.Apart) : Acts s (s.setTrunk x t) := (Act.trunk settle target).acts

theorem acts_leaveIsolation (x : Station) (s : State) : Acts s (leaveIsolation x s) := acts_channel _ _ _

theorem acts_connectSource (x : Station) (s : State) : Acts s (connectSource x s) := by
  unfold connectSource
  split
  · split
    · exact acts_source rfl rfl rfl
    · exact .refl
  · exact .refl

theorem acts_cutAperture (x : Station) (s : State) : Acts s (cutAperture x s) := by
  unfold cutAperture
  dsimp only
  split
  · split
    · exact (acts_connectSource _ _).after (acts_channel _ _ _)
    · exact acts_channel _ _ _
  · exact .refl

theorem acts_isolateChannel (x : Station) (s : State) : Acts s (isolateChannel x s) := by
  unfold isolateChannel
  dsimp only
  split
  · exact acts_channel _ _ _
  all_goals exact (acts_connectSource _ _).after (acts_channel _ _ _)

theorem acts_endDischarge (e : Energisation) (o : EnergOutcome) (s : State) : Acts s (endDischarge e o s).1 :=
  (acts_leaveIsolation _ _).after (acts_source rfl rfl rfl)

theorem acts_enterDischarge (e : Energisation) (o : EnergOutcome) (s : State) : Acts s (enterDischarge e o s).1 := by
  unfold enterDischarge
  split
  · exact acts_source rfl rfl rfl
  · exact acts_endDischarge _ _ _

theorem acts_cutEnergisation (x : Station) (c : CutCause) (s : State) : Acts s (cutEnergisation x c s).1 := by
  unfold cutEnergisation
  split
  · split
    · split
      · exact (acts_leaveIsolation _ _).after (acts_source rfl rfl rfl)
      iterate 4 exact acts_enterDischarge _ _ _
      · exact .refl
    · exact .refl
  · exact .refl

theorem acts_leaveSettled (x : Station) (s : State) : Acts s (leaveSettled x s) :=
  (acts_cutAperture _ _).after (acts_cutEnergisation _ _ _)

/-! ## Trunk.lean -/

theorem acts_takeUp (x : Station) (c : Configuration) (s : State) : Acts s (takeUp x c s).1 := by
  have left : Acts s (if (s.trunk x).state = .settled then leaveSettled x s else s) := by
    split
    · exact acts_leaveSettled _ _
    · exact .refl
  rcases takeUp_cases x c s _ _ rfl rfl with ⟨-, e⟩ | ⟨-, -, e⟩ | ⟨-, -, -, e⟩ | ⟨-, -, -, -, e⟩ | ⟨-, -, -, -, e⟩ <;> rw [e]
  · exact left.trans (acts_trunk rfl fun _ => targetOf_apart _ _)
  · exact (Act.load fun _ => opened_apart (targetOf_apart _ _)).after (left.trans (acts_trunk rfl fun _ => targetOf_apart _ _))
  · exact (Act.load fun _ => targetOf_apart _ _).after (left.trans (acts_trunk rfl fun _ => targetOf_apart _ _))
  · exact left.trans (acts_trunk rfl fun _ => allOpen_apart)
  · exact left.trans (acts_trunk rfl fun _ => targetOf_apart _ _)

/-- A trunk that keeps its target. -/
theorem acts_sameTarget {s : State} {x : Station} {t : Trunk} (settle : t.settleTime = (s.trunk x).settleTime)
    (target : t.target = (s.trunk x).target) : Acts s (s.setTrunk x t) :=
  acts_trunk settle fun h => target ▸ h.target x

theorem acts_arrive (x : Station) (c : Configuration) (s : State) : Acts s (arrive x c s).1 := by
  unfold arrive
  dsimp only
  split
  · exact acts_sameTarget rfl rfl
  · split
    · exact acts_takeUp _ _ _
    · exact acts_takeUp _ _ _
    · split
      · exact acts_sameTarget rfl rfl
      · exact acts_sameTarget rfl rfl
    all_goals exact acts_sameTarget rfl rfl

/-- A trunk that becomes IDLE. -/
theorem acts_rest {s : State} {x : Station} {t : Trunk} (settle : t.settleTime = (s.trunk x).settleTime) : Acts s (s.setTrunk x t.rest) :=
  acts_trunk settle fun _ => allOpen_apart

theorem acts_completeConfig (x : Station) (b : Bool) (s : State) : Acts s (completeConfig x b s).1 := by
  unfold completeConfig
  dsimp only
  split
  · exact (acts_takeUp _ _ _).after (acts_sameTarget rfl rfl)
  · split
    · exact acts_sameTarget rfl rfl
    · exact acts_rest rfl

theorem acts_trunkLoadDone (x : Station) (s : State) : Acts s (trunkLoadDone x s).1 := by
  unfold trunkLoadDone
  dsimp only
  split
  · exact .refl
  · split
    · exact acts_sameTarget rfl rfl
    · split
      · exact (acts_completeConfig _ _ _).after (acts_takeUp _ _ _)
      · exact acts_takeUp _ _ _
    · exact acts_sameTarget rfl rfl
    · exact .refl

theorem acts_releaseWaitEnds (x : Station) (s : State) : Acts s (releaseWaitEnds x s).1 := by
  unfold releaseWaitEnds
  dsimp only
  split
  · split
    · exact (Act.load fun h => by simpa using h.target x).after (acts_sameTarget rfl rfl)
    · split
      · exact acts_completeConfig _ _ _
      · exact acts_sameTarget rfl rfl
  · exact .refl

theorem acts_settleTimeEnds (x : Station) (s : State) : Acts s (settleTimeEnds x s).1 := by
  unfold settleTimeEnds
  split
  · exact acts_completeConfig _ _ _
  · exact .refl

theorem acts_guardTrunk (x : Station) (s : State) : Acts s (guardTrunk x s) := by
  unfold guardTrunk
  dsimp only
  split
  iterate 3
    split
    · exact acts_sameTarget rfl rfl
    · exact (Act.withdraw _ _).after (acts_sameTarget rfl rfl)
  all_goals exact .refl

theorem acts_unguardTrunk (x : Station) (s : State) : Acts s (unguardTrunk x s).1 := by
  by_cases h : (s.trunk x).state = .guarded
  · rcases unguardTrunk_cases x s h with ⟨-, e⟩ | ⟨-, -, e⟩ | ⟨-, -, e⟩ <;> rw [e]
    · exact acts_sameTarget rfl rfl
    · exact acts_sameTarget rfl rfl
    · split
      · exact (acts_completeConfig _ _ _).after (acts_takeUp _ _ _)
      · exact acts_takeUp _ _ _
  · simp only [unguardTrunk, h, if_false]
    exact .refl

theorem acts_stationResetTrunk (x : Station) (s : State) : Acts s (stationResetTrunk x s) := by
  unfold stationResetTrunk
  dsimp only
  split
  · exact acts_sameTarget rfl rfl
  · have cleared : Acts s (withdrawLoad x (s.setTrunk x { s.trunk x with waiting := none })) :=
      (Act.withdraw _ _).after (acts_sameTarget rfl rfl)
    split
    · refine .trans (cleared.trans ?_) (acts_trunk rfl fun _ => allOpen_apart)
      split
      · exact acts_leaveSettled _ _
      · exact .refl
    · exact (acts_takeUp _ _ _).after cleared

theorem acts_supervisorResetTrunk (x : Station) (s : State) : Acts s (supervisorResetTrunk x s) := by
  unfold supervisorResetTrunk
  dsimp only
  split
  · exact acts_trunk rfl fun _ => allOpen_apart
  · exact acts_trunk rfl fun _ => allOpen_apart

theorem acts_allOpenDone (x : Station) (s : State) : Acts s (allOpenDone x s).1 := by
  unfold allOpenDone
  dsimp only
  split
  · split
    · exact (acts_takeUp _ _ _).after (acts_trunk rfl fun _ => allOpen_apart)
    · exact acts_rest rfl
  · exact .refl

theorem acts_takeWaiting (x : Station) (s : State) : Acts s (takeWaiting x s).1 := by
  unfold takeWaiting
  dsimp only
  split
  · exact (acts_arrive _ _ _).after (acts_sameTarget rfl rfl)
  · exact .refl

/-! ## Measure.lean -/

theorem acts_requestMeasurement (x : Station) (m : Measurement) (s : State) : Acts s (requestMeasurement x m s).1 := by
  unfold requestMeasurement
  dsimp only
  split <;> exact acts_channel _ _ _

theorem acts_compensate (x : Station) (s : State) : Acts s (compensate x s).1 := by
  unfold compensate
  dsimp only
  split
  · exact .refl
  · split
    · exact acts_channel _ _ _
    · exact .refl

theorem acts_isolatePending (x : Station) (s : State) : Acts s (isolatePending x s) := by
  unfold isolatePending
  dsimp only
  split
  · exact (acts_connectSource _ _).after (acts_channel _ _ _)
  · exact .refl

theorem acts_endAperture (x : Station) (code : Word16) (s : State) : Acts s (endAperture x code s).1 := by
  unfold endAperture
  dsimp only
  split
  · split
    · exact (acts_isolatePending _ _).after (acts_channel _ _ _)
    · exact (acts_compensate _ _).after ((acts_isolatePending _ _).after (acts_channel _ _ _))
  · exact .refl

theorem acts_discardCompensation (x : Station) (s : State) : Acts s (discardCompensation x s) := by
  unfold discardCompensation
  dsimp only
  split
  · exact acts_channel _ _ _
  · exact .refl

theorem acts_stationResetChannel (x : Station) (s : State) : Acts s (stationResetChannel x s) := acts_channel _ _ _

/-! ## Arbiter.lean -/

theorem acts_raise (p : Port) (n : Nat) (s : State) : Acts s (raise p n s) := (Act.raise p n s).acts

theorem acts_handConfig (x : Station) (c : Configuration) (s : State) : Acts s (handConfig x c s) :=
  (acts_arrive _ _ _).after (acts_bench rfl rfl rfl)

theorem acts_holdRead (x : Station) (r : ReadPoint) (s : State) : Acts s (holdRead x r s) := acts_bench rfl rfl rfl

theorem acts_handStep (x : Station) (s : State) : Acts s (handStep x s) := by
  unfold handStep
  split
  · exact acts_holdRead _ _ _
  · split
    · exact acts_handConfig _ _ _
    · exact .refl

theorem acts_stepMayGo (x : Station) (s : State) : Acts s (stepMayGo x s) := by
  unfold stepMayGo
  split
  · split
    · exact (acts_handStep _ _).after (acts_bench rfl rfl rfl)
    · exact .refl
  · exact .refl

/-- A grant after the HV unit has been given other asks, in line. -/
theorem acts_grant {s : State} {h : Hv} (x : Station) (terms : h.terms = s.hv.terms) (lined : s.hv.AsksOrdered → h.Lined) :
    Acts s (grant x (s.setHv h)) := by
  have granted : Act s (s.setHv (h.granted x)) := .hv ((terms_granted h x).trans terms) (fun _ => Nat.zero_le _)
    fun o => (lined o).granted x
  have raised : Acts s (raise x.port srcHvGranted (s.setHv (h.granted x))) := granted.acts.tail (.raise _ _ _)
  unfold grant
  dsimp only
  split
  · exact (acts_stepMayGo _ _).after raised
  · exact raised

/-- The arbiter's look after the HV unit has been given other asks or another holder, in line. -/
theorem acts_look {s : State} {h : Hv} (terms : h.terms = s.hv.terms) (string : s.hv.string ≤ 64 → h.string ≤ 64)
    (lined : s.hv.AsksOrdered → h.Lined) : Acts s (lookForGrant (s.setHv h)) := by
  rcases lookForGrant_cases (s.setHv h) with ⟨none, e⟩ | ⟨x, -, -, e⟩ <;> rw [e]
  · refine (Act.hv terms string fun o => ?_).acts
    obtain ⟨once, line⟩ := lined o
    exact ⟨once, line, fun _ x hx => none x ((line x).mpr hx)⟩
  · exact acts_grant x terms lined

/-- A release after the HV unit has been given other asks, in line. -/
theorem acts_release {s : State} {h : Hv} (terms : h.terms = s.hv.terms) (string : s.hv.string ≤ 64 → h.string ≤ 64)
    (lined : s.hv.AsksOrdered → h.Lined) (holder : h.holder = none → h.asking = s.hv.asking) :
    Acts s (releaseHolder (s.setHv h)) := by
  have released (t : State) (ht : t.hv = s.hv) : Acts t (lookForGrant (t.setHv h.released)) := by
    refine acts_look ?_ ?_ ?_ <;> rw [ht]
    · exact (terms_released h).trans terms
    · exact string
    · exact lined
  rcases releaseHolder_cases (s.setHv h) with ⟨hn, e⟩ | ⟨hn, -, e⟩ | ⟨x, -, -, e⟩ <;> rw [e]
  · exact (Act.hv terms string (.congr terms (holder hn))).acts
  · exact (Act.hv (h := { h with releasePending := true }) terms string fun o => Hv.Lined.ordered (lined o) hn).acts
  · split
    · exact released s rfl
    · exact (released (raise x.port srcHvReleased s) rfl).after (acts_raise _ _ _)

theorem acts_releaseHolder (s : State) : Acts s (releaseHolder s) :=
  acts_release (h := s.hv) rfl id Hv.AsksOrdered.lined fun _ => rfl

theorem acts_releaseIfDue (s : State) : Acts s (releaseIfDue s) := by
  unfold releaseIfDue
  split
  · exact acts_releaseHolder _
  · exact .refl

theorem acts_keepSource (s : State) : Acts s (keepSource s) := acts_source rfl rfl rfl

theorem string_countString {h : Hv} (b : h.string ≤ 64) : h.countString.string ≤ 64 := by
  unfold Hv.countString
  dsimp only
  split
  · exact Nat.min_le_right _ _
  · exact b

theorem acts_stepEnd (x : Station) (q : Bool) (s : State) : Acts s (stepEnd x q s) := by
  unfold stepEnd
  dsimp only
  split
  · next held =>
    have counted : s.hv.string ≤ 64 → ({ s.hv.countString with holderStep := false } : Hv).string ≤ 64 := string_countString
    split
    · exact acts_release rfl counted Hv.AsksOrdered.lined fun _ => rfl
    · split
      · split
        · have asked : s.hv.AsksOrdered → Hv.Lined (if ({ s.hv.countString with holderStep := false } : Hv).reserved = true then
              ({ s.hv.countString with holderStep := false } : Hv).setReserveAsk x true else
              { s.hv.countString with holderStep := false }) := fun o => by
            split
            · exact Hv.Lined.setReserveAsk (h := { s.hv.countString with holderStep := false }) o.lined x true
            · exact o.lined
          refine acts_release ?_ ?_ (fun o => ?_) fun hn => ?_
          · split <;> split <;> rfl
          · split <;> split <;> exact counted
          · split
            · exact (asked o).setStepAsk x true
            · exact asked o
          · refine absurd (show s.hv.holder = none from ?_) (by simp [held])
            revert hn
            split <;> split <;> exact id
        · exact (acts_keepSource _).after (Act.hv (h := { s.hv.countString with holderStep := false }) rfl counted (.congr rfl rfl)).acts
      · exact acts_release rfl counted Hv.AsksOrdered.lined fun _ => rfl
  · exact .refl

theorem acts_stepWaits (x : Station) (s : State) : Acts s (stepWaits x s) := by
  unfold stepWaits
  split
  · exact (acts_stepMayGo _ _).after (acts_source rfl rfl rfl)
  · exact acts_look rfl id fun o => o.lined.setStepAsk x true

theorem Hv.asks_setStepAsk_false {h : Hv} {x y : Station} (a : (h.setStepAsk x false).asks y = true) : h.asks y = true := by
  by_cases e : y = x
  · subst e; revert a; simp +contextual [Hv.setStepAsk, Hv.lineUp, Hv.asks]
  · rwa [Hv.asks_setStepAsk_ne h _ e] at a

theorem Hv.asks_setReserveAsk_false {h : Hv} {x y : Station} (a : (h.setReserveAsk x false).asks y = true) : h.asks y = true := by
  by_cases e : y = x
  · subst e; revert a; simp +contextual [Hv.setReserveAsk, Hv.lineUp, Hv.asks]
  · rwa [Hv.asks_setReserveAsk_ne h _ e] at a

theorem Hv.AsksOrdered.dropStepAsk {h : Hv} (o : h.AsksOrdered) (x : Station) : (h.setStepAsk x false).AsksOrdered :=
  o.fewer (o.lined.setStepAsk x false) rfl (fun _ => rfl) fun _ => Hv.asks_setStepAsk_false

theorem Hv.AsksOrdered.dropReserveAsk {h : Hv} (o : h.AsksOrdered) (x : Station) : (h.setReserveAsk x false).AsksOrdered :=
  o.fewer (o.lined.setReserveAsk x false) rfl (fun _ => rfl) fun _ => Hv.asks_setReserveAsk_false

/-- A step ask is withdrawn. -/
theorem act_dropStepAsk {s : State} (x : Station) : Act s (s.setHv (s.hv.setStepAsk x false)) :=
  .hv (terms_setStepAsk _ _ _) id fun o => o.dropStepAsk x

theorem acts_clearAsks (x : Station) (s : State) : Acts s (clearAsks x s) :=
  (Act.hv (terms_clearAsks _ _) id fun o => (o.dropStepAsk x).dropReserveAsk x).acts

theorem acts_energise (x : Station) (v d : Nat) (s : State) : Acts s (energise x v d s).1 := by
  unfold energise
  split
  · exact .refl
  · exact (acts_isolateChannel _ _).after (acts_source rfl rfl rfl)

/-! ## Insulation.lean -/

theorem acts_recordDefect (x : Station) (b : Bool) (d : Defect) (s : State) : Acts s (recordDefect x b d s) := (Act.defect x b d s).acts

theorem acts_mapRecord (x : Station) {f : RunRecord → RunRecord} (s : State) (tally : ∀ r, (f r).tally = r.tally) :
    Acts s (mapRecord x f s) := by
  refine acts_bench rfl rfl ?_
  cases (s.bench x).record
  · rfl
  · exact congrArg some (tally _)

theorem acts_takeUpQueued (x : Station) (q : StepRecord) (s : State) : Acts s (takeUpQueued x q s) := by
  have moved : Acts s (s.setBench x { s.bench x with step := some q, queued := none, wait := .hv }) := acts_bench rfl rfl rfl
  unfold takeUpQueued
  dsimp only
  split
  · exact moved
  · exact (acts_stepWaits _ _).after moved

theorem acts_activityDone (x : Station) (s : State) : Acts s (activityDone x s) := by
  unfold activityDone
  dsimp only
  split
  · exact (acts_raise _ _ _).after (acts_bench rfl rfl rfl)
  · split
    · exact (acts_takeUpQueued _ _ _).after ((acts_raise _ _ _).after (acts_bench rfl rfl rfl))
    · exact (acts_raise _ _ _).after (acts_bench rfl rfl rfl)
  all_goals exact acts_bench rfl rfl rfl

theorem acts_handEmpty (x : Station) (s : State) : Acts s (handEmpty x s) := by
  have handed : Acts s (arrive x .empty (s.setBench x { s.bench x with handed := .empty, wait := .allOpen })).1 :=
    (acts_arrive _ _ _).after (acts_bench rfl rfl rfl)
  unfold handEmpty
  dsimp only
  split
  · exact (acts_activityDone _ _).after handed
  · exact handed

theorem acts_finishStep (x : Station) (s : State) : Acts s (finishStep x s) := by
  unfold finishStep
  dsimp only
  split
  · next st _ =>
    have finished : Acts s (s.setBench x { s.bench x with step := some { st with state := .finish }, locator := [] }) :=
      acts_bench rfl rfl rfl
    refine (acts_handEmpty _ _).after (finished.trans ?_)
    split
    · exact (act_dropStepAsk x).acts
    · exact acts_stepEnd _ _ _
  · exact .refl

theorem acts_dropQueued (x : Station) (s : State) : Acts s (dropQueued x s) := by
  unfold dropQueued
  split
  · exact (acts_bench (b := { s.bench x with queued := none }) rfl rfl rfl).tail (act_dropStepAsk x)
  · exact .refl

theorem acts_markInterrupted (x : Station) (s : State) : Acts s (markInterrupted x s) :=
  (acts_mapRecord x (f := fun r => { r with stepInterrupted := true }) _ fun _ => rfl).after (acts_dropQueued x s)
    |>.trans (acts_bench rfl rfl rfl)

theorem acts_handLocate (x : Station) (s : State) : Acts s (handLocate x s) := by
  unfold handLocate
  split
  · exact acts_holdRead _ _ _
  · split
    · exact acts_handConfig _ _ _
    · exact .refl

theorem acts_recordRanges (x : Station) (st : StepRecord) (es : List Entry) (s : State) : Acts s (recordRanges x st es s) := by
  induction es generalizing s with
  | nil => exact .refl
  | cons e es ih => exact (ih _).after (acts_recordDefect _ _ _ _)

theorem acts_locateNext (x : Station) (st : StepRecord) (r : List Entry × List Entry) (s : State) : Acts s (locateNext x st r s) := by
  have recorded : Acts s (recordRanges x st r.2 (s.setBench x { s.bench x with locator := r.1 })) :=
    (acts_recordRanges _ _ _ _).after (acts_bench rfl rfl rfl)
  unfold locateNext
  dsimp only
  split
  · exact (acts_finishStep _ _).after recorded
  · exact (acts_handLocate _ _).after recorded

theorem acts_locateGoOn (x : Station) (st : StepRecord) (es : List Entry) (s : State) : Acts s (locateGoOn x st es s) := by
  unfold locateGoOn
  split
  · split
    · exact (acts_locateNext _ _ _ _).after (acts_recordDefect _ _ _ _)
    · exact acts_locateNext _ _ _ _
  · exact acts_locateNext _ _ _ _

theorem acts_locateResult (x : Station) (st : StepRecord) (r : Nat) (s : State) : Acts s (locateResult x st r s) := by
  unfold locateResult
  split
  · exact acts_locateNext _ _ _ _
  · exact acts_locateGoOn _ _ _ _

theorem acts_stepReading (x : Station) (st : StepRecord) (r : Nat) (s : State) : Acts s (stepReading x st r s) := by
  unfold stepReading
  split
  · exact acts_finishStep _ _
  · split
    · exact (acts_locateGoOn _ _ _ _).after (acts_bench rfl rfl rfl)
    · exact (acts_finishStep _ _).after (acts_recordDefect _ _ _ _)

theorem acts_repeatConfig (x : Station) (st : StepRecord) (s : State) : Acts s (repeatConfig x st s) :=
  (acts_handConfig _ _ _).after (acts_bench rfl rfl rfl)

theorem acts_stepResult (x : Station) (r : EnergResult) (s : State) : Acts s (stepResult x r s) := by
  unfold stepResult
  dsimp only
  split
  · split
    · split
      · exact (acts_finishStep _ _).after ((acts_markInterrupted _ _).after (acts_bench rfl rfl rfl))
      iterate 3 exact (acts_finishStep _ _).after (acts_bench rfl rfl rfl)
      · split
        · exact (acts_locateResult _ _ _ _).after (acts_bench rfl rfl rfl)
        · exact (acts_stepReading _ _ _ _).after (acts_bench rfl rfl rfl)
      · exact (acts_finishStep _ _).after ((acts_recordDefect _ _ _ _).after (acts_bench rfl rfl rfl))
      · exact (acts_repeatConfig _ _ _).after (acts_bench rfl rfl rfl)
    · exact .refl
  · exact .refl

theorem acts_tellEngine {s : State} {r : State × Ended} (h : Acts s r.1) : Acts s (tellEngine r) := by
  unfold tellEngine
  split
  · exact (acts_releaseIfDue _).after ((acts_stepResult _ _ _).after h)
  · exact h

theorem acts_interruptStep (x : Station) (c : CutCause) (s : State) : Acts s (interruptStep x c s) := by
  unfold interruptStep
  dsimp only
  split
  · split
    · split
      · exact .refl
      · exact acts_dropQueued _ _
    · split
      · exact acts_tellEngine ((acts_cutEnergisation _ _ _).after (acts_markInterrupted _ _))
      · exact (acts_finishStep _ _).after (acts_markInterrupted _ _)
  · exact .refl

theorem acts_askEnergise (x : Station) (st : StepRecord) (d : Nat) (s : State) : Acts s (askEnergise x st d s) := by
  have asked := (acts_energise x st.voltage d (s.setBench x { s.bench x with step := some st, wait := .energisation })).after
    (acts_bench rfl rfl rfl)
  unfold askEnergise
  dsimp only
  split
  · exact asked.trans (acts_bench rfl rfl rfl)
  · exact (acts_repeatConfig _ _ _).after asked
  all_goals exact (acts_finishStep _ _).after ((acts_markInterrupted _ _).after asked)

theorem acts_stepSettled (x : Station) (s : State) : Acts s (stepSettled x s) := by
  unfold stepSettled
  split
  · split
    · exact acts_askEnergise _ _ _ _
    · exact acts_askEnergise _ _ _ _
    all_goals exact .refl
  · exact .refl

/-! ## Sweep.lean -/

theorem acts_setSweep (x : Station) (w : Sweep) (s : State) : Acts s (setSweep x w s) := acts_bench rfl rfl rfl

theorem acts_endSweep (x : Station) (c : Continuity) (s : State) : Acts s (endSweep x c s) := by
  refine (acts_handEmpty _ _).after (acts_bench rfl rfl ?_)
  cases (s.bench x).record <;> rfl

theorem acts_recordAll (x : Station) (w : Sweep) (b : Bool) (ds : List Defect) (s : State) : Acts s (recordAll x w b ds s).1 := by
  induction ds generalizing s with
  | nil => exact .refl
  | cons d ds ih =>
    simp only [recordAll]
    split
    · exact (acts_endSweep _ _ _).after (acts_recordDefect _ _ _ _)
    · exact (ih _).after (acts_recordDefect _ _ _ _)

theorem acts_handLocator (x : Station) (s : State) : Acts s (handLocator x s) := by
  unfold handLocator
  dsimp only
  split
  · split
    · exact acts_holdRead _ _ _
    · split
      · exact (acts_handConfig _ _ _).after (acts_setSweep _ _ _)
      · exact (acts_handConfig _ _ _).after (acts_setSweep _ _ _)
  · exact .refl

theorem acts_startDriver (x : Station) (d : Nat) (s : State) : Acts s (startDriver x d s) := by
  unfold startDriver
  split
  · split
    · exact acts_endSweep _ _ _
    · exact (acts_handLocator _ _).after (acts_bench rfl rfl rfl)
  · exact .refl

theorem acts_isolationStart (x : Station) (s : State) : Acts s (isolationStart x s) := by
  unfold isolationStart
  dsimp only
  split
  · exact acts_holdRead _ _ _
  · split
    · exact (acts_startDriver _ _ _).after (acts_setSweep _ _ _)
    · exact .refl

theorem acts_isolationNext (x : Station) (w : Sweep) (r : List Entry × List Entry) (s : State) : Acts s (isolationNext x w r s) := by
  have recorded : Acts s (recordAll x w true (r.2.map w.leakGroup)
      (s.setBench x { s.bench x with sweep := some w, locator := r.1 })).1 :=
    (acts_recordAll _ _ _ _ _).after (acts_bench rfl rfl rfl)
  unfold isolationNext
  dsimp only
  split
  · exact recorded
  · split
    · exact (acts_startDriver _ _ _).after recorded
    · exact (acts_handLocator _ _).after recorded

theorem acts_onGroup (x : Station) (w : Sweep) (r : MeasResult) (s : State) : Acts s (onGroup x w r s) := by
  unfold onGroup
  split <;> exact acts_isolationNext _ _ _ _

theorem acts_onConfirm (x : Station) (w : Sweep) (e : Entry) (r : MeasResult) (s : State) : Acts s (onConfirm x w e r s) := by
  have recorded (ds : List Defect) : Acts s (recordAll x w true ds (setSweep x w s)).1 :=
    (acts_recordAll _ _ _ _ _).after (acts_setSweep _ _ _)
  unfold onConfirm
  dsimp only
  split
  · exact recorded _
  · exact (acts_isolationNext _ _ _ _).after (recorded _)

theorem acts_connectionEnd (x : Station) (s : State) : Acts s (connectionEnd x s) := by
  unfold connectionEnd
  split
  · split
    · exact acts_endSweep _ _ _
    · exact (acts_isolationStart _ _).after (acts_bench rfl rfl rfl)
  · exact .refl

theorem acts_handPair (x : Station) (s : State) : Acts s (handPair x s) := by
  unfold handPair
  dsimp only
  split
  · exact acts_holdRead _ _ _
  · split
    · exact (acts_handConfig _ _ _).after (acts_setSweep _ _ _)
    · exact .refl

theorem acts_beginNet (x : Station) (i : Nat) (s : State) : Acts s (beginNet x i s) := by
  unfold beginNet
  split
  · split
    · exact acts_connectionEnd _ _
    · split
      · exact (acts_holdRead _ _ _).after (acts_setSweep _ _ _)
      · split
        · exact (acts_handPair _ _).after (acts_setSweep _ _ _)
        · exact (acts_connectionEnd _ _).after (acts_setSweep _ _ _)
  · exact .refl

theorem acts_beginSweep (x : Station) (s : State) : Acts s (beginSweep x s) := by
  unfold beginSweep
  dsimp only
  split
  · exact acts_holdRead _ _ _
  · split
    · exact (acts_beginNet _ _ _).after (acts_setSweep _ _ _)
    · exact .refl

theorem acts_walkOn (x : Station) (w : Sweep) (k : Nat) (s : State) : Acts s (walkOn x w k s) := by
  unfold walkOn
  split
  · exact (acts_handPair _ _).after (acts_setSweep _ _ _)
  · exact (acts_beginNet _ _ _).after (acts_setSweep _ _ _)

theorem acts_recordThen (x : Station) (w : Sweep) (ds : List Defect) (k : Nat) (s : State) : Acts s (recordThen x w ds k s) := by
  have recorded : Acts s (recordAll x w false ds (setSweep x w s)).1 := (acts_recordAll _ _ _ _ _).after (acts_setSweep _ _ _)
  unfold recordThen
  dsimp only
  split
  · exact recorded
  · exact (acts_walkOn _ _ _ _).after recorded

theorem acts_onRetest (x : Station) (w : Sweep) (o : PairOutcome) (s : State) : Acts s (onRetest x w o s) := by
  unfold onRetest
  split <;> exact acts_recordThen _ _ _ _ _

theorem acts_onWalkPair (x : Station) (w : Sweep) (o : PairOutcome) (s : State) : Acts s (onWalkPair x w o s) := by
  unfold onWalkPair
  split
  · exact (acts_handPair _ _).after (acts_setSweep _ _ _)
  · split
    · exact (acts_handPair _ _).after (acts_setSweep _ _ _)
    · exact acts_recordThen _ _ _ _ _

theorem acts_onPair (x : Station) (w : Sweep) (r : MeasResult) (s : State) : Acts s (onPair x w r s) := by
  unfold onPair
  dsimp only
  split
  · exact acts_onRetest _ _ _ _
  · exact acts_onWalkPair _ _ _ _

theorem acts_repeatPair (x : Station) (s : State) : Acts s (repeatPair x s) := acts_handConfig _ _ _

theorem acts_clearTrunk (x : Station) (s : State) : Acts s (clearTrunk x s) := acts_arrive _ _ _

theorem acts_settleMeasured (x : Station) (w : Sweep) (r : MeasResult) (s : State) : Acts s (settleMeasured x w r s) := by
  unfold settleMeasured
  split
  · exact acts_onPair _ _ _ _
  · split
    · exact acts_onConfirm _ _ _ _ _
    · exact acts_onGroup _ _ _ _
  · exact .refl

theorem acts_onMeasured (x : Station) (r : MeasResult) (s : State) : Acts s (onMeasured x r s) := by
  unfold onMeasured
  dsimp only
  split
  · split
    · split
      · split
        · exact acts_endSweep _ _ _
        · exact acts_repeatPair _ _
      all_goals
        split
        · exact (acts_endSweep _ _ _).after (acts_setSweep _ _ _)
        · exact acts_settleMeasured _ _ _ _
    · exact .refl
  · split
    · exact (acts_clearTrunk _ _).after (acts_bench rfl rfl rfl)
    · exact .refl

theorem acts_measure (x : Station) (w : Sweep) (s : State) : Acts s (measure x w s) := by
  have asked (m : Measurement) : Acts s (requestMeasurement x m (s.setBench x { s.bench x with wait := .channel })).1 :=
    (acts_requestMeasurement _ _ _).after (acts_bench rfl rfl rfl)
  unfold measure
  dsimp only
  split
  · exact asked _
  · exact (acts_repeatPair _ _).after (asked _)

theorem acts_onTrunkDone (x : Station) (s : State) : Acts s (onTrunkDone x s) := by
  unfold onTrunkDone
  dsimp only
  split
  · exact acts_activityDone _ _
  · split
    · split
      · split
        · exact acts_endSweep _ _ _
        · exact acts_measure _ _ _
      · exact .refl
    · exact acts_stepSettled _ _
    all_goals exact .refl
  all_goals exact .refl

theorem acts_tellTrunk {s : State} {r : State × Option TrunkState} (x : Station) (h : Acts s r.1) : Acts s (tellTrunk x r) := by
  unfold tellTrunk
  split
  · exact (acts_onTrunkDone _ _).after h
  · exact h

theorem acts_tellChannel {s : State} {r : State × Option MeasResult} (x : Station) (h : Acts s r.1) : Acts s (tellChannel x r) := by
  unfold tellChannel
  split
  · exact (acts_onMeasured _ _ _).after h
  · exact h

theorem acts_resumeRead (x : Station) (s : State) : Acts s (resumeRead x s) := by
  unfold resumeRead
  split
  · split
    · exact acts_endSweep _ _ _
    · split
      · exact acts_beginSweep _ _
      · exact acts_beginNet _ _ _
      · exact acts_handPair _ _
      · exact acts_isolationStart _ _
      · exact acts_handLocator _ _
      · exact acts_handStep _ _
      · exact acts_handLocate _ _
  all_goals exact .refl

/-! ## Runs.lean -/

theorem acts_endHolding (x : Station) (q : Bool) (s : State) : Acts s (endHolding x q s) := by
  have told : Acts s (tellEngine (cutEnergisation x .runEnd (clearAsks x s))) :=
    acts_tellEngine ((acts_cutEnergisation _ _ _).after (acts_clearAsks _ _))
  unfold endHolding
  dsimp only
  split
  · exact told.trans (acts_release rfl id Hv.AsksOrdered.lined fun _ => rfl)
  · exact told

theorem acts_endWork (x : Station) (group : Bool) (s : State) : Acts s (endWork x group s) := by
  unfold endWork
  split
  · exact acts_bench rfl rfl rfl
  · exact acts_clearTrunk _ _

end Sys2Proof.Machine

/-! What every command keeps: the invariants that an act, a request or an event leaves standing, gathered in one relation. -/

namespace Sys2Proof.Machine

/-! ## The print queue -/

/-- A bank of a station. -/
abbrev BankKey := Station × BankNo

/-- The banks of the print queue, its head first. -/
def State.tickets (s : State) : List BankKey := s.printer.queue.map fun j => (j.station, j.bank)

/-- The state of a bank. -/
def State.bankState (s : State) (k : BankKey) : BankState := ((s.bench k.1).banks.get k.2).state

/-- The bank an open run records in. -/
def State.runBank (s : State) (x : Station) : Option BankNo := (s.bench x).record.map (·.bank)

/-- The order of the print queue (R151), in terms of the banks alone. -/
structure TicketsOrdered (q : List BankKey) (v : BankKey → BankState) (run : Station → Option BankNo) : Prop where
  distinct : q.Nodup
  head : ∀ k, q.head? = some k → v k = .printing
  behind : ∀ k ∈ q.tail, v k = .queued
  only : ∀ k, (v k).onQueue → k ∈ q
  recording : ∀ x n, run x = some n → v (x, n) = .recording

/-- The print queue of a state is in order. -/
abbrev State.ticketsOrdered (s : State) : Prop := TicketsOrdered s.tickets s.bankState s.runBank

theorem queueOrdered_iff (s : State) : QueueOrdered s ↔ s.ticketsOrdered ∧ (s.inReset = true → s.printer.queue = []) := by
  have key (j : Job) : s.bankState (j.station, j.bank) = (jobBank s j).state := rfl
  constructor
  · rintro ⟨distinct, head, behind, only, recording, held⟩
    refine ⟨⟨distinct, fun k hk => ?_, fun k hk => ?_, fun k hk => ?_, fun x n hn => ?_⟩, held⟩
    · obtain ⟨j, hj, rfl⟩ : ∃ j, s.printer.queue.head? = some j ∧ (j.station, j.bank) = k := by
        simpa [State.tickets, List.head?_map] using hk
      exact head j hj
    · obtain ⟨j, hj, rfl⟩ : ∃ j, j ∈ s.printer.queue.tail ∧ (j.station, j.bank) = k := by
        simpa [State.tickets, ← List.map_tail] using hk
      exact behind j hj
    · obtain ⟨j, hj, hs, hb⟩ := only k.1 k.2 hk
      exact List.mem_map.mpr ⟨j, hj, Prod.ext hs hb⟩
    · obtain ⟨r, hr, rfl⟩ : ∃ r, (s.bench x).record = some r ∧ r.bank = n := by simpa [State.runBank] using hn
      exact recording x r hr
  · rintro ⟨⟨distinct, head, behind, only, recording⟩, held⟩
    refine ⟨distinct, fun j hj => ?_, fun j hj => ?_, fun x n hn => ?_, fun x r hr => ?_, held⟩
    · exact head (j.station, j.bank) (by simp [State.tickets, List.head?_map, hj])
    · exact behind (j.station, j.bank) (by simpa [State.tickets, ← List.map_tail] using ⟨j, hj, rfl, rfl⟩)
    · obtain ⟨j, hj, e⟩ := List.mem_map.mp (only (x, n) hn)
      exact ⟨j, hj, congrArg Prod.fst e, congrArg Prod.snd e⟩
    · exact recording x r.bank (by simp [State.runBank, hr])

/-- At most four jobs: the banks are four, and none is named twice (R151). -/
theorem TicketsOrdered.length_le {q : List BankKey} {v : BankKey → BankState} {run : Station → Option BankNo}
    (o : TicketsOrdered q v run) : q.length ≤ 4 := by
  have sub : q ⊆ [(.a, .zero), (.a, .one), (.b, .zero), (.b, .one)] := by
    rintro ⟨x, n⟩ -
    cases x <;> cases n <;> decide
  exact (List.subperm_of_subset o.distinct sub).length_le

/-! ## The serving stacks -/

/-- A serving stack holds at most the four levels above OFF, each once (R169). -/
theorem StackRises.length_le {l : List Level} (h : StackRises l) : l.length ≤ 4 := by
  obtain ⟨rises, noOff⟩ := h
  have distinct : l.Nodup := rises.imp fun lt e => by rw [e] at lt; exact Nat.lt_irrefl _ lt
  have sub : l ⊆ [.l0, .l1, .l2, .top] := by
    intro v hv
    have := noOff v hv
    cases v <;> simp_all
  exact (List.subperm_of_subset distinct sub).length_le

/-! ## The relation -/

/-- What every act, request and event keeps, but for the two facts that stand broken inside one command. -/
structure Held (s t : State) : Prop where
  pending : t.pending = s.pending
  porn : t.porn = s.porn
  linerst : t.linerst = s.linerst
  cause : t.cause = s.cause
  locked : ∀ x, (s.window x).lock = true → t.window x = s.window x
  image : Memory.wf s = true → Memory.wf t = true
  apart : RelaysApart s → RelaysApart t
  rising : StacksRise s → StacksRise t
  limits : LimitsInRange s → LimitsInRange t
  serials : SerialsInRange s → SerialsInRange t
  settles : SettleTimesInRange s → SettleTimesInRange t
  sums : CountersSum s → CountersSum t
  banks : BanksMatch s → BanksMatch t
  work : WorkWaits s → WorkWaits t
  asks : s.hv.AsksOrdered → t.hv.AsksOrdered
  tickets : s.ticketsOrdered → t.ticketsOrdered

/-- What every act, request and event keeps. -/
structure Kept (s t : State) : Prop extends Held s t where
  served : ChainServed s → ChainServed t
  alarm : AlarmStands s → AlarmStands t

theorem Held.refl (s : State) : Held s s := ⟨rfl, rfl, rfl, rfl, fun _ _ => rfl, id, id, id, id, id, id, id, id, id, id, id⟩

theorem Kept.refl (s : State) : Kept s s := ⟨.refl s, id, id⟩

theorem Held.trans {s t u : State} (h : Held s t) (k : Held t u) : Held s u where
  pending := k.pending.trans h.pending
  porn := k.porn.trans h.porn
  linerst := k.linerst.trans h.linerst
  cause := k.cause.trans h.cause
  locked x l := (k.locked x (by rw [h.locked x l, l])).trans (h.locked x l)
  image := k.image ∘ h.image
  apart := k.apart ∘ h.apart
  rising := k.rising ∘ h.rising
  limits := k.limits ∘ h.limits
  serials := k.serials ∘ h.serials
  settles := k.settles ∘ h.settles
  sums := k.sums ∘ h.sums
  banks := k.banks ∘ h.banks
  work := k.work ∘ h.work
  asks := k.asks ∘ h.asks
  tickets := k.tickets ∘ h.tickets

theorem Kept.trans {s t u : State} (h : Kept s t) (k : Kept t u) : Kept s u :=
  ⟨h.toHeld.trans k.toHeld, k.served ∘ h.served, k.alarm ∘ h.alarm⟩

theorem Kept.after {s t u : State} (k : Kept t u) (h : Kept s t) : Kept s u := h.trans k

theorem Kept.inReset {s t : State} (h : Held s t) : t.inReset = s.inReset := by
  simp only [State.inReset, h.porn, h.linerst]

/-! ## Acts -/

theorem Act.worked {s t : State} (h : Act s t) : Worked s t := by
  cases h with
  | channel => exact worked_setChannel _ _ _
  | bench books => exact worked_setBench books
  | defect => exact worked_recordDefect _ _ _ _
  | raise => exact worked_raise _ _ _
  | trunk settle => exact worked_setTrunk settle
  | load => exact worked_requestLoad _ _ _
  | withdraw => exact worked_withdrawLoad _ _
  | housekeeping => exact worked_requestHousekeeping _ _
  | chain => exact worked_chainStart _
  | hv terms => exact worked_setHv terms

/-- No point has both relays closed, in the matrix alone. -/
def Matrix.Apart (m : Matrix) : Prop :=
  (∀ i, m.image = some i → i.relays.Apart) ∧ (∀ l, m.load = some l → l.contents.relays.Apart) ∧
  (∀ x r, m.slots.get x = some r → r.Apart) ∧ ∀ x, (m.trunks.get x).target.Apart

theorem relaysApart_iff (s : State) : RelaysApart s ↔ s.matrix.Apart := Iff.rfl

theorem Relays.apart_iff (r : Relays) : r.Apart ↔ ∀ p < 2048, r.drive.getLsbD p = true → r.ret.getLsbD p = false := by
  constructor
  · intro h p hp hd
    have e : (r.drive &&& r.ret).getLsbD p = false := by rw [show r.drive &&& r.ret = 0 from h]; exact BitVec.getLsbD_zero
    simpa [hd] using e
  · intro h
    refine BitVec.eq_of_getLsbD_eq fun p hp => ?_
    rw [BitVec.getLsbD_and]
    cases hd : r.drive.getLsbD p with
    | false => exact BitVec.getLsbD_zero.symm
    | true => rw [h p hp hd]; exact BitVec.getLsbD_zero.symm

/-- The contents of a trunk's load are apart where the image and the positions asked are (R3). -/
theorem trunkLoad_apart {m : Matrix} {r : Relays} (x : Station) (image : ∀ i, m.image = some i → i.relays.Apart) (h : r.Apart) :
    (m.trunkLoad x r).contents.relays.Apart := by
  have known : m.known.relays.Apart := by
    unfold Matrix.known
    cases hi : m.image with
    | none => exact allOpen_apart
    | some i => exact image i hi
  rw [Relays.apart_iff] at h known ⊢
  intro p hp
  rw [trunkLoad_drive _ _ _ hp, trunkLoad_ret _ _ _ hp]
  split
  · exact h p hp
  · exact known p hp

theorem housekeepingLoad_apart {m : Matrix} (k : Housekeeping) (image : ∀ i, m.image = some i → i.relays.Apart) :
    (m.housekeepingLoad k).contents.relays.Apart := by
  cases k with
  | clearing => exact allOpen_apart
  | allOpen => exact allOpen_apart
  | window =>
    show m.known.relays.Apart
    unfold Matrix.known
    cases hi : m.image with
    | none => exact allOpen_apart
    | some i => exact image i hi

/-- Emptying a slot of the chain leaves the others. -/
theorem slots_of_set_none {v : Both (Option Relays)} {x y : Station} {r : Relays} (h : (v.set x none).get y = some r) :
    v.get y = some r := by
  by_cases e : y = x
  · subst e; simp at h
  · rwa [Both.get_set_ne _ _ e] at h

theorem Matrix.Apart.arbitrate {m : Matrix} (h : m.Apart) : m.arbitrate.Apart := by
  obtain ⟨image, load, slots, targets⟩ := h
  rcases arbitrate_cases m with e | ⟨k, -, -, -, e⟩ | ⟨x, r, -, hr, e⟩ <;> rw [e]
  · exact ⟨image, load, slots, targets⟩
  · exact ⟨image, fun l hl => by cases hl; exact housekeepingLoad_apart k image, slots, targets⟩
  · exact ⟨image, fun l hl => by cases hl; exact trunkLoad_apart x image (slots x r hr),
      fun y q hq => slots y q (slots_of_set_none hq), targets⟩

theorem Matrix.Apart.place {m : Matrix} (h : m.Apart) (x : Station) {r : Relays} (hr : r.Apart) :
    Matrix.Apart { m with slots := m.slots.set x (some r) } := by
  obtain ⟨image, load, slots, targets⟩ := h
  refine ⟨image, load, fun y q hq => ?_, targets⟩
  by_cases e : y = x
  · subst e; simp at hq; exact hq ▸ hr
  · simp only [Both.get_set_ne _ _ e] at hq
    exact slots y q hq

theorem Act.apart {s t : State} (h : Act s t) (a : RelaysApart s) : RelaysApart t := by
  have a' : s.matrix.Apart := a
  obtain ⟨image, load, slots, targets⟩ := a'
  cases h with
  | channel => exact a
  | bench => exact a
  | defect x short d =>
    unfold recordDefect
    split <;> exact a
  | raise => exact a
  | @trunk _ x t _ target =>
    refine ⟨image, load, slots, fun y => ?_⟩
    by_cases e : y = x
    · subst e; simpa using target a
    · rw [State.setTrunk_trunk_ne _ _ _ e]; exact targets y
  | @load _ x r apart => exact Matrix.Apart.arbitrate (Matrix.Apart.place a x (apart a))
  | withdraw x => exact ⟨image, load, fun y q hq => slots y q (slots_of_set_none hq), targets⟩
  | housekeeping k =>
    unfold requestHousekeeping
    split
    · exact a
    · exact Matrix.Apart.arbitrate (m := { s.matrix with hk := some k }) a
  | chain => exact Matrix.Apart.arbitrate a
  | hv => exact a

theorem Act.served {s t : State} (h : Act s t) (c : ChainServed s) : ChainServed t := by
  cases h with
  | channel => exact c
  | bench => exact c
  | defect x short d =>
    unfold recordDefect
    split <;> exact c
  | raise => exact c
  | trunk => exact c
  | load => exact arbitrate_served _
  | withdraw x =>
    intro hl
    obtain ⟨ha, hb⟩ := c hl
    cases x <;> exact ⟨by simp [withdrawLoad, Both.set, ha], by simp [withdrawLoad, Both.set, hb]⟩
  | housekeeping k =>
    unfold requestHousekeeping
    split
    · exact c
    · exact arbitrate_served _
  | chain => exact arbitrate_served _
  | hv => exact c

/-! ### Banks -/

@[simp] theorem Banks.get_set_same (v : Banks) (n : BankNo) (b : Bank) : (v.set n b).get n = b := by cases n <;> rfl

theorem Banks.get_set_ne (v : Banks) {n k : BankNo} (b : Bank) (h : k ≠ n) : (v.set n b).get k = v.get k := by
  cases n <;> cases k <;> first | rfl | exact absurd rfl h

theorem append_state (b : Bank) (before : Nat) (d : Defect) : (b.append before d).state = b.state := by
  unfold Bank.append
  split
  · rfl
  · split <;> rfl

/-- A bank lists or counts one defect more, where the found-defect count rises (R149). -/
theorem append_count {b : Bank} {before : Nat} (d : Defect) (len : b.records.length ≤ 128) (bound : before ≤ 65535)
    (sum : b.records.length + b.unlisted = before) :
    (b.append before d).records.length ≤ 128 ∧ saturate before ≤ 65535 ∧
      (b.append before d).records.length + (b.append before d).unlisted = saturate before := by
  by_cases full : before = 65535
  · simp only [Bank.append, saturate, Config.countMax, full, if_true, Nat.lt_irrefl, if_false]
    omega
  · have rises : saturate before = before + 1 := if_pos (show before < 65535 by omega)
    rw [rises]
    by_cases room : b.records.length < 128
    · simp only [Bank.append, Config.countMax, Config.bankSize, full, room, if_true, if_false, List.length_append,
        List.length_singleton]
      omega
    · simp only [Bank.append, Config.countMax, Config.bankSize, full, room, if_false]
      omega

theorem bankMatches_congr {b c : Bench} (banks : c.banks = b.banks)
    (record : c.record.map RunRecord.tally = b.record.map RunRecord.tally) (m : BankMatches b) : BankMatches c := by
  intro r hr
  rw [hr, Option.map_some, eq_comm, Option.map_eq_some_iff] at record
  obtain ⟨q, hq, e⟩ := record
  simp only [RunRecord.tally, Prod.mk.injEq] at e
  rw [banks, ← e.1, ← e.2]
  exact m q hq

theorem bankMatches_record1 {b : Bench} {r : RunRecord} (hr : b.record = some r) (short : Bool) (d : Defect) (m : BankMatches b) :
    BankMatches (b.record1 r short d) := by
  obtain ⟨len, bound, sum⟩ := m r hr
  intro q hq
  cases hq
  simp only [Bench.record1, RunRecord.counted, Banks.get_set_same]
  exact append_count _ len bound sum

/-- A change of one station's bench keeps what holds of every bench, where it holds of the new one. -/
theorem forall_bench_setBench {P : Bench → Prop} {s : State} {x : Station} {b : Bench} (h : ∀ y, P (s.bench y)) (hb : P b) :
    ∀ y, P ((s.setBench x b).bench y) := by
  intro y
  by_cases e : y = x
  · subst e; simpa using hb
  · rw [State.setBench_bench_ne _ _ _ e]; exact h y

theorem Act.banks {s t : State} (h : Act s t) (m : BanksMatch s) : BanksMatch t := by
  cases h with
  | bench _ banks record => exact forall_bench_setBench m (bankMatches_congr banks record (m _))
  | defect x short d =>
    unfold recordDefect
    split
    · next r hr => exact forall_bench_setBench m (bankMatches_record1 hr short d (m x))
    · exact m
  | housekeeping k => unfold requestHousekeeping; split <;> exact m
  | _ => exact m

/-! ### Tickets -/

theorem TicketsOrdered.congr {q q' : List BankKey} {v v' : BankKey → BankState} {run run' : Station → Option BankNo}
    (o : TicketsOrdered q v run) (hq : q' = q) (hv : v' = v) (hr : run' = run) : TicketsOrdered q' v' run' := hq ▸ hv ▸ hr ▸ o

/-- Two states with one print queue, the same bank states and the same run banks. -/
theorem ticketsOrdered_congr {s t : State} (queue : t.tickets = s.tickets)
    (bench : ∀ x, (t.bench x).record.map (·.bank) = (s.bench x).record.map (·.bank) ∧
      ∀ n, ((t.bench x).banks.get n).state = ((s.bench x).banks.get n).state) (o : s.ticketsOrdered) : t.ticketsOrdered :=
  o.congr queue (funext fun k => (bench k.1).2 k.2) (funext fun x => (bench x).1)

/-- A change of one bench that keeps the bank states and the run's bank. -/
theorem ticketsOrdered_setBench {s : State} {x : Station} {b : Bench} (record : b.record.map (·.bank) = (s.bench x).record.map (·.bank))
    (banks : ∀ n, (b.banks.get n).state = ((s.bench x).banks.get n).state) (o : s.ticketsOrdered) : (s.setBench x b).ticketsOrdered := by
  refine ticketsOrdered_congr (s := s) rfl (fun y => ?_) o
  by_cases e : y = x
  · subst e; simp only [State.setBench_bench_same]; exact ⟨record, banks⟩
  · rw [State.setBench_bench_ne _ _ _ e]; exact ⟨rfl, fun _ => rfl⟩

theorem bank_of_tally {o q : Option RunRecord} (h : o.map RunRecord.tally = q.map RunRecord.tally) :
    o.map (·.bank) = q.map (·.bank) := by
  have := congrArg (Option.map Prod.fst) h
  rwa [Option.map_map, Option.map_map] at this

theorem Act.tickets {s t : State} (h : Act s t) (o : s.ticketsOrdered) : t.ticketsOrdered := by
  cases h with
  | bench _ banks record => exact ticketsOrdered_setBench (bank_of_tally record) (fun n => by rw [banks]) o
  | defect x short d =>
    unfold recordDefect
    split
    · next r hr =>
      refine ticketsOrdered_setBench (b := (s.bench x).record1 r short d) (by rw [hr]; rfl) (fun n => ?_) o
      by_cases e : n = r.bank
      · subst e; simp only [Bench.record1, Banks.get_set_same, append_state]
      · simp only [Bench.record1, Banks.get_set_ne _ _ e]
    · exact o
  | housekeeping k => unfold requestHousekeeping; split <;> exact o
  | _ => exact o

theorem Act.asks {s t : State} (h : Act s t) (o : s.hv.AsksOrdered) : t.hv.AsksOrdered := by
  cases h with
  | hv _ _ asks => exact asks o
  | defect x short d => unfold recordDefect; split <;> exact o
  | housekeeping k => unfold requestHousekeeping; split <;> exact o
  | _ => exact o

theorem Act.string {s t : State} (h : Act s t) (b : s.hv.string ≤ 64) : t.hv.string ≤ 64 := by
  cases h with
  | hv _ string _ => exact string b
  | defect x short d => unfold recordDefect; split <;> exact b
  | housekeeping k => unfold requestHousekeeping; split <;> exact b
  | _ => exact b

/-! ### Work keeps everything -/

theorem stackRises_of_raisedFrom {u v : Attention} (h : RaisedFrom u v) (r : StackRises u.stack) : StackRises v.stack := by
  obtain ⟨-, stack, -, -⟩ := h
  rwa [stack]

theorem RaisedFrom.pending {u v : Attention} (h : RaisedFrom u v) {n : Nat} (b : u.pending.getLsbD n = true) :
    v.pending.getLsbD n = true := h.2.2.2 n b

theorem Act.kept {s t : State} (h : Act s t) : Kept s t := by
  have w := h.worked
  have ground := w.ground
  have terms := w.terms
  simp only [Matrix.ground, Prod.mk.injEq] at ground
  simp only [Hv.terms, Prod.mk.injEq] at terms
  obtain ⟨-, -, -, -, hwindows, -, -⟩ := ground
  obtain ⟨-, hlimits, hbuild, -, -, -⟩ := terms
  have book (x : Station) := w.books x
  simp only [Bench.books, Prod.mk.injEq] at book
  exact {
    pending := w.pending, porn := w.porn, linerst := w.linerst, cause := w.cause
    locked := fun x _ => by simp only [State.window, hwindows]
    image := by simp only [Memory.wf, w.store]; exact id
    apart := h.apart
    rising := fun r p => stackRises_of_raisedFrom (w.units p) (r p)
    limits := by
      rintro ⟨cap, ramp, trip, hold, string, count⟩
      unfold LimitsInRange
      rw [hlimits, hbuild]
      exact ⟨cap, ramp, trip, hold, string, h.string count⟩
    serials := fun r x => by rw [(book x).1]; exact r x
    settles := fun r x => by rw [w.settleTime x]; exact r x
    sums := fun r x => by rw [(book x).2.1]; exact r x
    banks := h.banks
    work := by simp only [WorkWaits, State.port, w.ports]; exact id
    asks := h.asks
    tickets := h.tickets
    served := h.served
    alarm := fun a hs p => by
      rw [w.store] at hs
      exact (w.units p).pending (a hs p) }

theorem Acts.kept {s t : State} (h : Acts s t) : Kept s t := by
  induction h with
  | refl => exact .refl s
  | tail _ last ih => exact ih.trans last.kept

end Sys2Proof.Machine

/-! Every request keeps what stands in `Kept`. -/

namespace Sys2Proof.Machine

/-! ## Updates -/

theorem kept_setPort {s : State} {p : Port} {v : PortState}
    (work : ∀ r, v.work = some r → (s.port p).work = some r ∨ r.code = 0x25 ∨ r.code = 0x35) : Kept s (s.setPort p v) :=
  { Kept.refl s with
    work := fun h q r hr => by
      by_cases e : q = p
      · subst e
        rw [State.setPort_port_same] at hr
        exact (work r hr).elim (h q r) id
      · rw [State.setPort_port_ne _ _ _ e] at hr
        exact h q r hr }

theorem kept_setUnit {s : State} {p : Port} {v : Attention} (stack : StackRises (s.unit p).stack → StackRises v.stack)
    (alarm : s.store.active = true → (s.unit p).pending.getLsbD 15 = true → v.pending.getLsbD 15 = true) : Kept s (s.setUnit p v) :=
  { Kept.refl s with
    rising := fun h q => by
      by_cases e : q = p
      · subst e; rw [State.setUnit_unit_same]; exact stack (h q)
      · rw [State.setUnit_unit_ne _ _ _ e]; exact h q
    alarm := fun h ha q => by
      by_cases e : q = p
      · subst e; rw [State.setUnit_unit_same]; exact alarm ha (h ha q)
      · rw [State.setUnit_unit_ne _ _ _ e]; exact h ha q }

theorem held_setStore {s : State} {v : Store} (words : imageWf s.store.words = true → imageWf v.words = true) :
    Held s (s.setStore v) := { Held.refl s with image := words }

theorem kept_setStore {s : State} {v : Store} (words : imageWf s.store.words = true → imageWf v.words = true)
    (active : v.active = true → s.store.active = true) : Kept s (s.setStore v) :=
  { held_setStore words with served := id, alarm := fun h ha => h (active ha) }

/-- A change of the matrix that leaves locked windows and settle times. -/
theorem held_setMatrix {s : State} {m : Matrix} (locked : ∀ x, (s.window x).lock = true → m.windows.get x = s.window x)
    (settle : ∀ x, (m.trunks.get x).settleTime = (s.trunk x).settleTime) (apart : s.matrix.Apart → m.Apart) :
    Held s (s.setMatrix m) :=
  { Held.refl s with
    locked := locked
    apart := apart
    settles := fun h x => by rw [State.setMatrix_trunk, settle]; exact h x }

theorem kept_setMatrix {s : State} {m : Matrix} (locked : ∀ x, (s.window x).lock = true → m.windows.get x = s.window x)
    (settle : ∀ x, (m.trunks.get x).settleTime = (s.trunk x).settleTime) (apart : s.matrix.Apart → m.Apart)
    (load : m.load = s.matrix.load) (slots : m.slots = s.matrix.slots) : Kept s (s.setMatrix m) :=
  { held_setMatrix locked settle apart with
    served := fun c hl => by
      simp only [State.setMatrix_matrix, slots]
      exact c (load ▸ hl)
    alarm := id }

theorem kept_setBench {s : State} {x : Station} {b : Bench} (serial : 1 ≤ b.nextSerial ∧ b.nextSerial ≤ 999999 ∨ b.nextSerial = (s.bench x).nextSerial)
    (sum : (s.bench x).counters.Sum → b.counters.Sum) (matched : BankMatches (s.bench x) → BankMatches b)
    (tickets : s.ticketsOrdered → (s.setBench x b).ticketsOrdered) : Kept s (s.setBench x b) :=
  { Kept.refl s with
    serials := fun h => forall_bench_setBench (P := fun b => 1 ≤ b.nextSerial ∧ b.nextSerial ≤ 999999) h
      (serial.elim id fun e => e ▸ h x)
    sums := fun h => forall_bench_setBench (P := fun b => b.counters.Sum) h (sum (h x))
    banks := fun h => forall_bench_setBench h (matched (h x))
    tickets := tickets }

theorem kept_setHv {s : State} {h : Hv} (limits : LimitsInRange s → LimitsInRange (s.setHv h))
    (asks : s.hv.AsksOrdered → h.AsksOrdered) : Kept s (s.setHv h) :=
  { Kept.refl s with limits := limits, asks := asks }

/-- Limits, build maximum and string count as they stand. -/
theorem limits_congr {s : State} {h : Hv} (limits : h.limits = s.hv.limits) (build : h.build = s.hv.build)
    (string : h.string = s.hv.string) (r : LimitsInRange s) : LimitsInRange (s.setHv h) := by
  simpa only [LimitsInRange, State.setHv_hv, limits, build, string] using r

theorem kept_advanceFree (s : State) : Kept s s.advanceFree := { Kept.refl s with }

/-! ## Notices -/

theorem betterSource_eligible {u : Attention} {best : Option Nat} {n : Nat} (hb : ∀ m, best = some m → eligible u m = true)
    (hn : eligible u n = true) : ∀ m, betterSource u best n = some m → eligible u m = true := by
  intro m hm
  cases best with
  | none => cases hm; exact hn
  | some k =>
    simp only [betterSource] at hm
    split at hm
    · cases hm; exact hn
    · cases hm; exact hb _ rfl

/-- The source TAKE NOTICE picks is eligible (R169). -/
theorem pickSource_eligible {u : Attention} {n : Nat} (h : pickSource u = some n) : eligible u n = true := by
  have fold (l : List Nat) (hl : ∀ k ∈ l, eligible u k = true) (best : Option Nat) (hb : ∀ m, best = some m → eligible u m = true) :
      ∀ m, l.foldl (betterSource u) best = some m → eligible u m = true := by
    induction l generalizing best with
    | nil => exact hb
    | cons k l ih =>
      exact ih (fun j hj => hl j (List.mem_cons_of_mem k hj)) _ (betterSource_eligible hb (hl k List.mem_cons_self))
  exact fold _ (fun k hk => (List.mem_filter.mp hk).2) none nofun n h

/-- A level above the top of a rising stack goes on it (R168, R169). -/
theorem stackRises_push {u : Attention} {l : Level} (h : StackRises u.stack) (above : stackRank u < levelRank l) :
    StackRises (l :: u.stack) := by
  obtain ⟨rises, noOff⟩ := h
  have l_ne : l ≠ .off := by rintro rfl; exact absurd above (Nat.not_lt_zero _)
  refine ⟨List.pairwise_cons.mpr ⟨fun v hv => ?_, rises⟩, fun v hv => ?_⟩
  · unfold stackRank at above
    cases hs : u.stack with
    | nil => rw [hs] at hv; cases hv
    | cons w rest =>
      rw [hs] at above hv rises
      simp only [List.head?_cons, Option.map_some, Option.getD_some] at above
      rcases List.mem_cons.mp hv with rfl | hv
      · exact above
      · exact (List.rel_of_pairwise_cons rises hv).trans above
  · rcases List.mem_cons.mp hv with rfl | hv
    · exact l_ne
    · exact noOff v hv

theorem stackRises_tail {l : Level} {rest : List Level} (h : StackRises (l :: rest)) : StackRises rest :=
  ⟨h.1.of_cons, fun v hv => h.2 v (List.mem_cons_of_mem l hv)⟩

theorem stackRises_nil : StackRises [] := ⟨.nil, nofun⟩

/-- REFERENCE-ALARM is not cleared while alarm active is set (R169, R172). -/
theorem takenPending_alarm {u : Attention} {n : Nat} (h : u.pending.getLsbD 15 = true) :
    (takenPending u n true).getLsbD 15 = true := by
  unfold takenPending
  split
  · exact h
  · next hn =>
    have hn : n ≠ 15 := fun e => hn ⟨e, rfl⟩
    simp only [BitVec.getLsbD_and, BitVec.getLsbD_not, h, sourceBit, BitVec.getLsbD_shiftLeft, BitVec.getLsbD_one]
    simp
    omega

theorem writtenPending_alarm {p : Port} {old enable values : Word16} (h : old.getLsbD 15 = true) :
    (writtenPending p old enable values true).getLsbD 15 = true := by
  have bit : (sourceBit srcAlarm).getLsbD 15 = true := by decide
  simp [writtenPending, h, bit]

theorem kept_takeNotice (p : Port) (s : State) : Kept s (serveTakeNotice p s).1 := by
  unfold serveTakeNotice
  dsimp only
  split
  · next n hn =>
    have eligible := pickSource_eligible hn
    rw [eligible_iff] at eligible
    refine kept_setUnit (fun h => stackRises_push h eligible.2) fun ha h => ?_
    rw [ha]
    exact takenPending_alarm h
  · exact .refl s

theorem kept_endNotice (p : Port) (s : State) : Kept s (serveEndNotice p s).1 := by
  unfold serveEndNotice
  dsimp only
  split
  · next hs => exact kept_setUnit (fun h => stackRises_tail (by rw [hs] at h; exact h)) fun _ h => h
  · exact .refl s

theorem kept_writePending (p : Port) (e v : Word16) (s : State) : Kept s (serveWritePending p e v s).1 :=
  kept_setUnit id fun ha h => by rw [ha]; exact writtenPending_alarm h

theorem kept_setNoticeLevel (p : Port) (n l : Byte) (s : State) : Kept s (serveSetNoticeLevel p n l s).1 := by
  unfold serveSetNoticeLevel
  dsimp only
  split
  · split
    · exact kept_setUnit id fun _ h => h
    · exact .refl s
  · exact .refl s

theorem kept_setNoticeBase (p : Port) (b : Byte) (s : State) : Kept s (serveSetNoticeBase p b s).1 := by
  unfold serveSetNoticeBase
  split
  · exact kept_setUnit id fun _ h => h
  · exact .refl s

/-- A request that names a station keeps what its block keeps. -/
theorem kept_withStation {v : Byte} {s : State} {f : Station → Served} (h : ∀ x, Kept s (f x).1) : Kept s (withStation v s f).1 := by
  unfold withStation
  split
  · exact h _
  · exact .refl s

theorem kept_withBank {v b : Byte} {s : State} {f : Station → BankNo → Served} (h : ∀ x k, Kept s (f x k).1) :
    Kept s (withBank v b s f).1 := by
  refine kept_withStation fun x => ?_
  split
  · exact h _ _
  · exact .refl s

theorem kept_ofStation {p : Port} {s : State} {f : Station → Served} (h : ∀ x, Kept s (f x).1) : Kept s (ofStation p s f).1 := by
  unfold ofStation
  split
  · exact h _
  · exact .refl s

theorem kept_callStation (v : Byte) (s : State) : Kept s (serveCallStation v s).1 := kept_withStation fun _ => (acts_raise _ _ _).kept

/-! ## Windows and settle times -/

theorem kept_applyWindow {x : Station} {w : Window} {s : State} (unlocked : (s.window x).lock = false) : Kept s (applyWindow x w s) := by
  have placed : Kept s (s.setMatrix { s.matrix with windows := s.matrix.windows.set x w, selTable := s.matrix.selTable.take x w.cards }) := by
    refine kept_setMatrix (fun y hy => ?_) (fun _ => rfl) id rfl rfl
    have e : y ≠ x := by rintro rfl; rw [unlocked] at hy; cases hy
    exact Both.get_set_ne _ _ e
  unfold applyWindow
  dsimp only
  split
  · exact (Act.housekeeping _ _).kept.after placed
  · exact placed

theorem kept_setWindow (v b l : Byte) (s : State) : Kept s (serveSetWindow v b l s).1 := by
  refine kept_withStation fun x => ?_
  split
  · exact .refl s
  · dsimp only
    split
    · exact .refl s
    · next passes =>
      refine kept_applyWindow ?_
      unfold windowRefusal at passes
      cases hl : (s.window x).lock with
      | false => rfl
      | true =>
        rw [hl] at passes
        split at passes
        · cases passes
        · split at passes <;> cases passes

theorem kept_lockWindow (v : Byte) (s : State) : Kept s (serveLockWindow v s).1 := by
  refine kept_withStation fun x => kept_setMatrix (fun y hy => ?_) (fun _ => rfl) id rfl rfl
  by_cases e : y = x
  · subst e
    rw [Both.get_set_same, ← hy]
  · exact Both.get_set_ne _ _ e

theorem clampTo_mem {lo hi : Nat} (h : lo ≤ hi) (v : Nat) : lo ≤ clampTo lo hi v ∧ clampTo lo hi v ≤ hi := by
  rw [clampTo_eq_max_min h]
  omega

theorem kept_settleTime {s : State} {x : Station} {n : Nat} (h : 1 ≤ n ∧ n ≤ 20) :
    Kept s (s.setTrunk x { s.trunk x with settleTime := n }) := by
  refine { Kept.refl s with apart := fun ⟨image, load, slots, targets⟩ => ⟨image, load, slots, fun y => ?_⟩, settles := fun r y => ?_ }
  all_goals by_cases e : y = x
  · subst e; rw [State.setTrunk_trunk_same]; exact targets y
  · rw [State.setTrunk_trunk_ne _ _ _ e]; exact targets y
  · subst e; rw [State.setTrunk_trunk_same]; exact h
  · rw [State.setTrunk_trunk_ne _ _ _ e]; exact r y

theorem kept_setSettleTime (v t : Byte) (s : State) : Kept s (serveSetSettleTime v t s).1 :=
  kept_withStation fun _ => kept_settleTime (clampTo_mem (by decide) _)

/-! ## The reference store -/

theorem kept_beginLoad (s : State) : Kept s (serveBeginLoad s).1 := by
  unfold serveBeginLoad
  dsimp only
  split
  · exact .refl s
  · exact .refl s
  · split
    · exact .refl s
    · exact kept_setStore (fun _ => rfl) id
  all_goals
    split
    · exact .refl s
    · exact kept_setStore id id

theorem kept_writeImage (a : Word16) (ws : List Word16) (s : State) : Kept s (serveWriteImage a ws s).1 := by
  unfold serveWriteImage
  split
  · exact .refl s
  · split
    · exact .refl s
    · next fits => exact kept_setStore (fun h => imageWf_imageWriteAll ws h (by omega)) id

theorem kept_startCheck (k : CheckKind) (s : State) : Kept s (startCheck k s) := kept_setStore id id

theorem kept_commitImage (s : State) : Kept s (serveCommitImage s).1 := by
  unfold serveCommitImage
  split
  · exact kept_startCheck _ s
  · exact .refl s

theorem kept_abandonLoad (s : State) : Kept s (serveAbandonLoad s).1 := by
  unfold serveAbandonLoad
  split
  · exact kept_setStore id id
  all_goals exact .refl s

theorem kept_armAlarm (s : State) : Kept s (serveArmAlarm s).1 := kept_setStore id id

theorem serveReadImage_state (a : Word16) (c : Byte) (s : State) : (serveReadImage a c s).1 = s := by
  unfold serveReadImage
  split
  · rfl
  · split <;> rfl

/-! ## The print queue -/

@[simp] theorem bankState_setBankState (x : Station) (n : BankNo) (v : BankState) (s : State) :
    (setBankState x n v s).bankState = Function.update s.bankState (x, n) v := by
  funext k
  obtain ⟨y, m⟩ := k
  by_cases e : y = x
  · subst e
    by_cases f : m = n
    · subst f; simp [State.bankState, setBankState]
    · simp [State.bankState, setBankState, f, Banks.get_set_ne _ _ f]
  · simp [State.bankState, setBankState, e, State.setBench_bench_ne _ _ _ e]

@[simp] theorem tickets_setBankState (x : Station) (n : BankNo) (v : BankState) (s : State) :
    (setBankState x n v s).tickets = s.tickets := rfl

@[simp] theorem runBank_setBankState (x : Station) (n : BankNo) (v : BankState) (s : State) :
    (setBankState x n v s).runBank = s.runBank := by
  funext y
  by_cases e : y = x
  · subst e; simp [State.runBank, setBankState]
  · simp [State.runBank, setBankState, State.setBench_bench_ne _ _ _ e]

@[simp] theorem bankState_setPrinter (s : State) (q : Printer) : (s.setPrinter q).bankState = s.bankState := rfl
@[simp] theorem runBank_setPrinter (s : State) (q : Printer) : (s.setPrinter q).runBank = s.runBank := rfl
theorem tickets_setPrinter (s : State) (q : Printer) : (s.setPrinter q).tickets = q.queue.map fun j => (j.station, j.bank) := rfl
@[simp] theorem bankState_raise (p : Port) (n : Nat) (s : State) : (raise p n s).bankState = s.bankState := rfl
@[simp] theorem runBank_raise (p : Port) (n : Nat) (s : State) : (raise p n s).runBank = s.runBank := rfl
@[simp] theorem tickets_raise (p : Port) (n : Nat) (s : State) : (raise p n s).tickets = s.tickets := rfl

theorem strobe_queue (q : Printer) : (strobe q).queue = q.queue := by
  unfold strobe
  split <;> rfl

@[simp] theorem tickets_composerHand (s : State) : (composerHand s).tickets = s.tickets := by
  unfold composerHand
  dsimp only
  split
  · split
    · simp only [tickets_setPrinter, strobe_queue]; rfl
    · rfl
  · rfl

@[simp] theorem bankState_composerHand (s : State) : (composerHand s).bankState = s.bankState := by
  funext k; simp only [State.bankState, composerHand_bench]

@[simp] theorem runBank_composerHand (s : State) : (composerHand s).runBank = s.runBank := by
  funext k; simp only [State.runBank, composerHand_bench]

/-- The head of the print queue is taken up: its bank is PRINTING, and the queue stands (R151, R157). -/
theorem beginHead_spec (s : State) :
    (beginHead s).tickets = s.tickets ∧ (beginHead s).runBank = s.runBank ∧
    (beginHead s).bankState =
      match s.tickets.head? with
      | some k => Function.update s.bankState k .printing
      | none => s.bankState := by
  unfold beginHead
  split
  · next j rest hq =>
    have head : s.tickets.head? = some (j.station, j.bank) := by simp [State.tickets, hq]
    rw [head]
    refine ⟨?_, ?_, ?_⟩
    · simp only [tickets_composerHand, tickets_setBankState, tickets_setPrinter]; rfl
    · simp only [runBank_composerHand, runBank_setBankState, runBank_setPrinter]
    · simp only [bankState_composerHand, bankState_setBankState, bankState_setPrinter]
  · next hq =>
    have head : s.tickets.head? = none := by simp [State.tickets, hq]
    rw [head]
    exact ⟨rfl, rfl, rfl⟩

namespace TicketsOrdered

variable {q : List BankKey} {v : BankKey → BankState} {run : Station → Option BankNo} {k : BankKey}

/-- A queued bank is QUEUED or PRINTING. -/
theorem onQueue (o : TicketsOrdered q v run) (hk : k ∈ q) : (v k).onQueue := by
  cases q with
  | nil => cases hk
  | cons h rest =>
    rcases List.mem_cons.mp hk with rfl | hk
    · exact .inr (o.head _ rfl)
    · exact .inl (o.behind k hk)

/-- A bank that records is not on the queue. -/
theorem not_onQueue_of_recording (h : v k = .recording) : ¬ (v k).onQueue := by
  rw [h]; rintro (h | h) <;> cases h

theorem run_notMem (o : TicketsOrdered q v run) {x : Station} {n : BankNo} (h : run x = some n) : (x, n) ∉ q :=
  fun hk => not_onQueue_of_recording (o.recording x n h) (o.onQueue hk)

/-- Fewer open runs. -/
theorem fewerRuns (o : TicketsOrdered q v run) {run' : Station → Option BankNo} (h : ∀ x n, run' x = some n → run x = some n) :
    TicketsOrdered q v run' := { o with recording := fun x n hx => o.recording x n (h x n hx) }

/-- A bank off the queue, with no open run in it, takes a state off the queue. -/
theorem setOff (o : TicketsOrdered q v run) (off : k ∉ q) (idle : ∀ x n, run x = some n → (x, n) ≠ k) {w : BankState}
    (hw : ¬ w.onQueue) : TicketsOrdered q (Function.update v k w) run where
  distinct := o.distinct
  head j hj := by
    have e : j ≠ k := by rintro rfl; exact off (List.mem_of_head? hj)
    rw [Function.update_of_ne e]; exact o.head j hj
  behind j hj := by
    have e : j ≠ k := by rintro rfl; exact off (List.mem_of_mem_tail hj)
    rw [Function.update_of_ne e]; exact o.behind j hj
  only j hj := by
    by_cases e : j = k
    · subst e; rw [Function.update_self] at hj; exact absurd hj hw
    · rw [Function.update_of_ne e] at hj; exact o.only j hj
  recording x n hx := by rw [Function.update_of_ne (idle x n hx)]; exact o.recording x n hx

/-- A bank joins the queue at its tail (R151). -/
theorem push (o : TicketsOrdered q v run) (off : k ∉ q) (idle : ∀ x n, run x = some n → (x, n) ≠ k) :
    TicketsOrdered (q ++ [k]) (Function.update v k (if q = [] then .printing else .queued)) run where
  distinct := by
    rw [List.nodup_append]
    exact ⟨o.distinct, List.nodup_singleton k, fun j hj i hi e => off (List.mem_singleton.mp hi ▸ e ▸ hj)⟩
  head j hj := by
    cases q with
    | nil => simp at hj; subst hj; simp
    | cons h rest =>
      simp at hj; subst hj
      have e : h ≠ k := by rintro rfl; exact off List.mem_cons_self
      rw [Function.update_of_ne e]; exact o.head h rfl
  behind j hj := by
    cases q with
    | nil => simp at hj
    | cons h rest =>
      simp only [List.cons_append, List.tail_cons, List.mem_append, List.mem_singleton] at hj
      rcases hj with hj | rfl
      · have e : j ≠ k := by rintro rfl; exact off (List.mem_cons_of_mem h hj)
        rw [Function.update_of_ne e]; exact o.behind j hj
      · rw [Function.update_self, if_neg (List.cons_ne_nil _ _)]
  only j hj := by
    by_cases e : j = k
    · subst e; simp
    · rw [Function.update_of_ne e] at hj; exact List.mem_append_left _ (o.only j hj)
  recording x n hx := by rw [Function.update_of_ne (idle x n hx)]; exact o.recording x n hx

/-- The head leaves the queue, and the next bank is PRINTING (R157). -/
theorem pop (o : TicketsOrdered (k :: q) v run) :
    TicketsOrdered q
      (match q.head? with
        | some j => Function.update (Function.update v k .kept) j .printing
        | none => Function.update v k .kept) run := by
  have off : k ∉ q := (List.nodup_cons.mp o.distinct).1
  have distinct : q.Nodup := (List.nodup_cons.mp o.distinct).2
  have idle (x : Station) (n : BankNo) (hx : run x = some n) : (x, n) ∉ k :: q := o.run_notMem hx
  cases q with
  | nil =>
    refine ⟨.nil, nofun, nofun, fun j hj => ?_, fun x n hx => ?_⟩
    · by_cases e : j = k
      · subst e; simp [BankState.onQueue] at hj
      · simp only [List.head?_nil, Function.update_of_ne e] at hj
        exact absurd (List.mem_singleton.mp (o.only j hj)) e
    · have e : (x, n) ≠ k := fun e => idle x n hx (e ▸ List.mem_cons_self)
      simp only [List.head?_nil, Function.update_of_ne e]; exact o.recording x n hx
  | cons j rest =>
    simp only [List.head?_cons]
    refine ⟨distinct, fun i hi => ?_, fun i hi => ?_, fun i hi => ?_, fun x n hx => ?_⟩
    · cases hi; simp
    · have hij : i ≠ j := by rintro rfl; exact (List.nodup_cons.mp distinct).1 hi
      have hik : i ≠ k := by rintro rfl; exact off (List.mem_cons_of_mem j hi)
      rw [Function.update_of_ne hij, Function.update_of_ne hik]
      exact o.behind i (List.mem_cons_of_mem j hi)
    · by_cases hij : i = j
      · subst hij; simp
      · rw [Function.update_of_ne hij] at hi
        by_cases hik : i = k
        · subst hik; simp [BankState.onQueue] at hi
        · rw [Function.update_of_ne hik] at hi
          exact (List.mem_cons.mp (o.only i hi)).resolve_left hik
    · have hk : (x, n) ≠ k := fun e => idle x n hx (e ▸ List.mem_cons_self)
      have hj : (x, n) ≠ j := fun e => idle x n hx (e ▸ List.mem_cons_of_mem k List.mem_cons_self)
      rw [Function.update_of_ne hj, Function.update_of_ne hk]; exact o.recording x n hx

/-- A QUEUED bank leaves the queue (R158). -/
theorem cancel (o : TicketsOrdered q v run) (hk : v k = .queued) :
    TicketsOrdered (q.filter (fun j => decide (j ≠ k))) (Function.update v k .kept) run := by
  have inner : ∀ j ∈ q.filter (fun j => decide (j ≠ k)), j ∈ q ∧ j ≠ k := fun j hj => by simpa using hj
  refine ⟨o.distinct.filter _, fun j hj => ?_, fun j hj => ?_, fun j hj => ?_, fun x n hx => ?_⟩
  · obtain ⟨-, e⟩ := inner j (List.mem_of_head? hj)
    rw [Function.update_of_ne e]
    cases q with
    | nil => cases hj
    | cons h rest =>
      have hh : h ≠ k := fun e => by
        have printing := o.head h rfl
        rw [e, hk] at printing
        cases printing
      rw [List.filter_cons_of_pos (by simpa using hh)] at hj
      cases hj
      exact o.head _ rfl
  · obtain ⟨-, e⟩ := inner j (List.mem_of_mem_tail hj)
    rw [Function.update_of_ne e]
    cases q with
    | nil => cases hj
    | cons h rest =>
      have hh : h ≠ k := fun e => by
        have printing := o.head h rfl
        rw [e, hk] at printing
        cases printing
      rw [List.filter_cons_of_pos (by simpa using hh)] at hj
      exact o.behind j (List.mem_of_mem_filter hj)
  · by_cases e : j = k
    · subst e; simp [BankState.onQueue] at hj
    · rw [Function.update_of_ne e] at hj
      simpa using ⟨o.only j hj, e⟩
  · have e : (x, n) ≠ k := by
      intro e
      have records := o.recording x n hx
      rw [e, hk] at records
      cases records
    rw [Function.update_of_ne e]; exact o.recording x n hx

/-- A run opens in a bank that is FREE or KEPT (R65, R66). -/
theorem openRun (o : TicketsOrdered q v run) {x : Station} {n : BankNo} (off : ¬ (v (x, n)).onQueue) :
    TicketsOrdered q (Function.update v (x, n) .recording) (Function.update run x (some n)) := by
  have closed : TicketsOrdered q v (Function.update run x none) := o.fewerRuns fun y m hy => by
    by_cases e : y = x
    · subst e; simp at hy
    · rwa [Function.update_of_ne e] at hy
  have idle (y : Station) (m : BankNo) (hy : Function.update run x none y = some m) : (y, m) ≠ (x, n) := by
    rintro e
    cases e
    simp at hy
  have placed := closed.setOff (fun hk => off (o.onQueue hk)) idle (w := .recording) (by rintro (h | h) <;> cases h)
  refine { placed with recording := fun y m hy => ?_ }
  by_cases e : y = x
  · subst e
    rw [Function.update_self] at hy
    cases hy
    exact Function.update_self ..
  · rw [Function.update_of_ne e] at hy
    exact placed.recording y m (by rwa [Function.update_of_ne e])

end TicketsOrdered

/-- Printing touches the printer, the states of banks and raised sources alone. -/
structure Ticketing (s t : State) : Prop where
  worked : Worked (s.setPrinter t.printer) t
  matrix : t.matrix = s.matrix
  hv : t.hv = s.hv
  matched : ∀ x, BankMatches (s.bench x) → BankMatches (t.bench x)

theorem Ticketing.refl (s : State) : Ticketing s s := ⟨.refl s, rfl, rfl, fun _ => id⟩

theorem Ticketing.trans {s t u : State} (h : Ticketing s t) (k : Ticketing t u) : Ticketing s u := by
  refine ⟨?_, k.matrix.trans h.matrix, k.hv.trans h.hv, fun x => k.matched x ∘ h.matched x⟩
  obtain ⟨h1, h2, h3, h4, h5, h6, h7, -, h9, h10, h11, h12, h13⟩ := h.worked
  obtain ⟨k1, k2, k3, k4, k5, k6, k7, -, k9, k10, k11, k12, k13⟩ := k.worked
  exact ⟨k1.trans h1, k2.trans h2, k3.trans h3, k4.trans h4, k5.trans h5, k6.trans h6, k7.trans h7, rfl, k9.trans h9, k10.trans h10,
    k11.trans h11, fun x => (k12 x).trans (h12 x), fun p => (h13 p).trans (k13 p)⟩

theorem Ticketing.after {s t u : State} (k : Ticketing t u) (h : Ticketing s t) : Ticketing s u := h.trans k

theorem ticketing_setPrinter (s : State) (q : Printer) : Ticketing s (s.setPrinter q) := ⟨.refl _, rfl, rfl, fun _ => id⟩

theorem ticketing_raise (p : Port) (n : Nat) (s : State) : Ticketing s (raise p n s) := ⟨worked_raise p n s, rfl, rfl, fun _ => id⟩

theorem ticketing_setBankState (x : Station) (n : BankNo) (v : BankState) (s : State) : Ticketing s (setBankState x n v s) := by
  refine ⟨worked_setBench rfl, rfl, rfl, fun y m => ?_⟩
  by_cases e : y = x
  · subst e
    intro r hr
    simp only [setBankState, State.setBench_bench_same] at hr ⊢
    by_cases f : r.bank = n
    · subst f; rw [Banks.get_set_same]; exact m r hr
    · rw [Banks.get_set_ne _ _ f]; exact m r hr
  · simpa only [setBankState, State.setBench_bench_ne _ _ _ e] using m

theorem ticketing_composerHand (s : State) : Ticketing s (composerHand s) := by
  unfold composerHand
  dsimp only
  split
  · split
    · exact ticketing_setPrinter _ _
    · exact .refl s
  · exact .refl s

theorem ticketing_beginHead (s : State) : Ticketing s (beginHead s) := by
  unfold beginHead
  split
  · exact (ticketing_composerHand _).after ((ticketing_setBankState _ _ _ _).after (ticketing_setPrinter _ _))
  · exact .refl s

theorem ticketing_queueJob (j : Job) (s : State) : Ticketing s (queueJob j s) := by
  have joined := (ticketing_setBankState j.station j.bank .queued _).after
    (ticketing_setPrinter s { s.printer with queue := s.printer.queue ++ [j] })
  unfold queueJob
  dsimp only
  split
  · exact (ticketing_beginHead _).after joined
  · exact joined

theorem ticketing_endTicket (s : State) : Ticketing s (endTicket s) := by
  unfold endTicket
  split
  · exact (ticketing_beginHead _).after ((ticketing_raise _ _ _).after ((ticketing_setBankState _ _ _ _).after (ticketing_setPrinter _ _)))
  · exact .refl s

/-- Printing behind what keeps everything, where the queue is in order at its end. -/
theorem Kept.ticketing {s t u : State} (h : Kept s t) (k : Ticketing t u) (tickets : s.ticketsOrdered → u.ticketsOrdered) : Kept s u := by
  obtain ⟨w, matrix, hv, matched⟩ := k
  have book (x : Station) := w.books x
  simp only [Bench.books, Prod.mk.injEq] at book
  have windows (x : Station) : u.window x = t.window x := by simp only [State.window, matrix]
  exact {
    pending := w.pending.trans h.pending, porn := w.porn.trans h.porn, linerst := w.linerst.trans h.linerst
    cause := w.cause.trans h.cause
    locked := fun x l => (windows x).trans (h.locked x l)
    image := fun i => by have := h.image i; simpa only [Memory.wf, w.store, State.setPrinter_store] using this
    apart := fun a => by have := h.apart a; rwa [relaysApart_iff, matrix]
    rising := fun r p => stackRises_of_raisedFrom (w.units p) (h.rising r p)
    limits := fun r => by have := h.limits r; simpa only [LimitsInRange, hv] using this
    serials := fun r x => by rw [(book x).1]; exact h.serials r x
    settles := fun r x => by rw [w.settleTime x]; exact h.settles r x
    sums := fun r x => by rw [(book x).2.1]; exact h.sums r x
    banks := fun r x => matched x (h.banks r x)
    work := fun r => by have := h.work r; simpa only [WorkWaits, State.port, w.ports, State.setPrinter_ports] using this
    asks := fun r => by have := h.asks r; rwa [hv]
    tickets := tickets
    served := fun c => by have := h.served c; simpa only [ChainServed, matrix] using this
    alarm := fun a hs p => (w.units p).pending (h.alarm a (by rw [w.store] at hs; exact hs) p) }

theorem tickets_queueJob {j : Job} {s : State} {run : Station → Option BankNo} (o : TicketsOrdered s.tickets s.bankState run)
    (hrun : s.runBank = run) (off : (j.station, j.bank) ∉ s.tickets)
    (idle : ∀ x n, run x = some n → (x, n) ≠ (j.station, j.bank)) : (queueJob j s).ticketsOrdered := by
  have pushed := o.push off idle
  have empty : s.tickets = [] ↔ s.printer.queue = [] := by simp [State.tickets]
  have joined : (s.setPrinter { s.printer with queue := s.printer.queue ++ [j] }).tickets = s.tickets ++ [(j.station, j.bank)] := by
    simp [State.tickets]
  unfold queueJob
  dsimp only
  split
  · next hq =>
    obtain ⟨ht, hr, hb⟩ := beginHead_spec
      (setBankState j.station j.bank .queued (s.setPrinter { s.printer with queue := s.printer.queue ++ [j] }))
    simp only [tickets_setBankState, joined, empty.mpr hq, List.nil_append, List.head?_cons, runBank_setBankState, runBank_setPrinter,
      bankState_setBankState, bankState_setPrinter, Function.update_idem] at ht hr hb
    rw [empty.mpr hq, List.nil_append, if_pos rfl] at pushed
    exact pushed.congr ht hb (hr.trans hrun)
  · next hq =>
    rw [if_neg (mt empty.mp hq)] at pushed
    exact pushed.congr joined (by simp) (by simpa using hrun)

theorem tickets_endTicket {s : State} (o : s.ticketsOrdered) : (endTicket s).ticketsOrdered := by
  unfold endTicket
  split
  · next j rest hq =>
    have tickets : s.tickets = (j.station, j.bank) :: rest.map fun j => (j.station, j.bank) := by simp [State.tickets, hq]
    have popped := (o.congr (v' := s.bankState) (run' := s.runBank) tickets.symm rfl rfl).pop
    obtain ⟨ht, hr, hb⟩ := beginHead_spec (raise j.station.port srcTicketDone (setBankState j.station j.bank .kept
      (s.setPrinter { s.printer with queue := rest, line := 1, char := 1, started := false })))
    exact popped.congr ht (hb.trans (by simp [tickets_setPrinter])) (hr.trans (by simp))
  · exact o

theorem kept_setPrinter {s : State} {q : Printer}
    (queue : (q.queue.map fun j => (j.station, j.bank)) = s.tickets) : Kept s (s.setPrinter q) :=
  (Kept.refl s).ticketing (ticketing_setPrinter _ _) fun o => o.congr queue rfl rfl

theorem kept_composerHand (s : State) : Kept s (composerHand s) :=
  (Kept.refl s).ticketing (ticketing_composerHand s) fun o => o.congr (by simp) (by simp) (by simp)

theorem kept_endTicket (s : State) : Kept s (endTicket s) := (Kept.refl s).ticketing (ticketing_endTicket s) tickets_endTicket

theorem kept_cancelTicket (x : Station) (n : BankNo) (s : State) : Kept s (cancelTicket x n s) := by
  unfold cancelTicket
  split
  · next hq =>
    refine (Kept.refl s).ticketing
      ((ticketing_raise _ _ _).after ((ticketing_setBankState _ _ _ _).after (ticketing_setPrinter _ _))) fun o => ?_
    have cancelled := o.cancel (k := (x, n)) hq
    refine cancelled.congr ?_ (by simp) (by simp)
    have same : (fun j : Job => decide ¬(j.station = x ∧ j.bank = n)) =
        (fun k : BankKey => decide (k ≠ (x, n))) ∘ fun j : Job => (j.station, j.bank) := by
      funext j
      simp [Prod.ext_iff]
    show (s.printer.queue.filter _).map _ = (s.printer.queue.map _).filter _
    rw [List.filter_map, same]
  · split
    · next j rest hq =>
      split
      · exact .refl s
      · exact kept_setPrinter (by simp [State.tickets, hq])
    · exact .refl s

/-! ## The ends of a run -/

/-- A counted verdict keeps the sum of the counters (R75). -/
theorem count_sum {c : Counters} (v : Verdict) (h : c.Sum) : (c.count v).Sum := by
  unfold Counters.Sum at h ⊢
  cases v <;> simp only [Counters.count, h] <;> ring

theorem kept_ended {x : Station} {s : State} (r : RunRecord) (cause : RunEndCause) (v : Verdict) :
    Kept s (s.setBench x ((s.bench x).ended r cause v)) := by
  refine kept_setBench (.inr rfl) (count_sum v) (fun _ _ h => nomatch h) fun o => ?_
  have fewer := o.fewerRuns (run' := Function.update s.runBank x none) fun y n hy => by
    by_cases e : y = x
    · subst e; simp at hy
    · rwa [Function.update_of_ne e] at hy
  refine fewer.congr rfl (funext fun k => ?_) (funext fun y => ?_)
  · by_cases e : k.1 = x
    · simp only [State.bankState, e, State.setBench_bench_same]; rfl
    · simp only [State.bankState, State.setBench_bench_ne _ _ _ e]
  · by_cases e : y = x
    · subst e; simp [State.runBank, Bench.ended]
    · simp [State.runBank, e, State.setBench_bench_ne _ _ _ e]

/-- The run end of station X frees its bank for the printer (R71). -/
theorem kept_endRun {x : Station} {r0 r : RunRecord} {s : State} (hr : (s.bench x).record = some r0) (hb : r.bank = r0.bank)
    (cause : RunEndCause) (v : Verdict) : Kept s (endRun x r cause v s) := by
  have ended := kept_ended (x := x) (s := s) r cause v
  have banked (ticket : Bool) : Kept s (endBank x r v ticket (s.setBench x ((s.bench x).ended r cause v))) := by
    have free (o : s.ticketsOrdered) : (x, r.bank) ∉ s.tickets := o.run_notMem (by simp [State.runBank, hr, hb])
    have idle : ∀ y n, (s.setBench x ((s.bench x).ended r cause v)).runBank y = some n → (y, n) ≠ (x, r.bank) := by
      rintro y n hy e
      cases e
      simp [State.runBank, Bench.ended] at hy
    unfold endBank
    split
    · exact ended.ticketing (ticketing_queueJob _ _) fun o => tickets_queueJob (ended.tickets o) rfl (free o) idle
    · refine ended.ticketing (ticketing_setBankState _ _ _ _) fun o => ?_
      exact ((ended.tickets o).setOff (free o) idle (w := .kept) (by rintro (h | h) <;> cases h)).congr (by simp) (by simp) (by simp)
  unfold endRun
  dsimp only
  split
  · exact (acts_raise _ _ _).kept.after (banked _)
  · exact (acts_raise _ _ _).kept.after ((acts_raise _ _ _).kept.after (banked _))

/-! ## Runs -/

theorem chooseBank_off {b : Bench} {k : BankNo} (h : chooseBank b = some k) : ¬ ((b.banks.get k).state).onQueue := by
  have off {v : BankState} (hv : v.free? = true) : ¬ v.onQueue := by
    cases v <;> simp [BankState.free?, BankState.onQueue] at hv ⊢
  unfold chooseBank at h
  split at h
  · next hf => cases h; exact off hf
  · split at h
    · next hf => cases h; exact off hf
    · cases h

theorem kept_opened {x : Station} {k : BankNo} {s : State} (h : chooseBank (s.bench x) = some k) :
    Kept s (s.setBench x ((s.bench x).opened k)) := by
  refine { kept_setBench (s := s) (x := x) (b := { s.bench x with nextSerial := (s.bench x).nextSerial }) (.inr rfl) id id
    (fun o => ticketsOrdered_setBench rfl (fun _ => rfl) o) with serials := fun r => ?_, sums := fun r => ?_, banks := fun r => ?_, tickets := fun o => ?_ }
  · refine forall_bench_setBench (P := fun b => 1 ≤ b.nextSerial ∧ b.nextSerial ≤ 999999) r ?_
    obtain ⟨lo, hi⟩ := r x
    simp only [Bench.opened, serialAfter]
    split <;> omega
  · exact forall_bench_setBench (P := fun b => b.counters.Sum) r (r x)
  · refine forall_bench_setBench r fun q hq => ?_
    cases hq
    simp [Bench.opened, RunRecord.create]
  · refine (o.openRun (x := x) (n := k) (chooseBank_off h)).congr rfl (funext fun i => ?_) (funext fun y => ?_)
    · obtain ⟨y, m⟩ := i
      by_cases e : y = x
      · subst e
        by_cases f : m = k
        · subst f; simp [State.bankState, Bench.opened]
        · simp [State.bankState, Bench.opened, f, Banks.get_set_ne _ _ f]
      · simp [State.bankState, e, State.setBench_bench_ne _ _ _ e]
    · by_cases e : y = x
      · subst e; simp [State.runBank, Bench.opened, RunRecord.create]
      · simp [State.runBank, e, State.setBench_bench_ne _ _ _ e]

theorem kept_joinCheck (x : Station) (s : State) : Kept s (joinCheck x s) := by
  have started : Kept s (if s.store.state = .checking then s else startCheck .checksum s) := by
    split
    · exact .refl s
    · exact kept_startCheck _ s
  exact started.trans (kept_setStore id id)

/-- An accepted OPEN RUN takes a bank that its station may choose (R64, R65). -/
theorem openRefusal_inr {x : Station} {s : State} {k : BankNo} (h : openRefusal x s = .inr k) : chooseBank (s.bench x) = some k := by
  unfold openRefusal at h
  dsimp only at h
  split at h
  · cases h
  repeat' (split at h <;> first | cases h | skip)
  assumption

theorem kept_openRun (x : Station) (s : State) : Kept s (serveOpenRun x s).1 := by
  unfold serveOpenRun
  split
  · exact .refl s
  · next k hk => exact (kept_joinCheck x _).after (kept_opened (openRefusal_inr hk))

theorem kept_closeRun (x : Station) (s : State) : Kept s (serveCloseRun x s).1 := by
  unfold serveCloseRun
  split
  iterate 4 exact .refl s
  · next r _ hr => exact (acts_endHolding _ _ _).kept.after (kept_endRun hr rfl _ _)
  · exact .refl s

theorem acts_serveAbort (x : Station) (s : State) : Acts s (serveAbort x s).1 := by
  unfold serveAbort
  split
  iterate 3 exact .refl
  · split
    · exact .refl
    · exact acts_mapRecord x s fun _ => rfl
  · exact acts_interruptStep _ _ _

theorem kept_setSerial (v : Byte) (n : BitVec 32) (s : State) : Kept s (serveSetSerial v n s).1 :=
  kept_withStation fun x => kept_setBench (.inl (clampTo_mem (by decide) _)) id id
    fun o => ticketsOrdered_setBench rfl (fun _ => rfl) o

theorem kept_clearCounters (v : Byte) (s : State) : Kept s (serveClearCounters v s).1 :=
  kept_withStation fun _ => kept_setBench (.inr rfl) (fun _ => rfl) id fun o => ticketsOrdered_setBench rfl (fun _ => rfl) o

theorem acts_sweeping (x : Station) (c : Scope) (l : Nat) (s : State) : Acts s (s.setBench x ((s.bench x).sweeping c l)) := by
  refine acts_bench rfl rfl ?_
  unfold Bench.sweeping
  cases (s.bench x).record <;> rfl

theorem acts_startContinuity (x : Station) (c l : Byte) (s : State) : Acts s (serveStartContinuity x c l s).1 := by
  unfold serveStartContinuity
  split
  · split
    · exact .refl
    · split
      · exact (acts_beginSweep _ _).after (acts_sweeping _ _ _ _)
      · exact .refl
  · exact .refl

theorem acts_acceptStep (x : Station) (st : StepRecord) (s : State) : Acts s (acceptStep x st s) := by
  unfold acceptStep
  dsimp only
  split
  · exact (acts_stepWaits _ _).after (acts_bench rfl rfl rfl)
  · exact acts_bench rfl rfl rfl

theorem acts_startInsulation (x : Station) (k : Byte) (w v d t : Word16) (l : Byte) (s : State) :
    Acts s (serveStartInsulation x k w v d t l s).1 := by
  unfold serveStartInsulation
  split
  · exact .refl
  · split
    · exact .refl
    · split
      · exact .refl
      · dsimp only
        split
        · exact .refl
        · split
          · exact .refl
          · exact acts_acceptStep _ _ _

/-! ## The source -/

theorem kept_look {s : State} {h : Hv} (limits : h.limits = s.hv.limits) (build : h.build = s.hv.build)
    (string : h.string = s.hv.string) (asking : h.asking = s.hv.asking) : Kept s (lookForGrant (s.setHv h)) := by
  rcases lookForGrant_cases (s.setHv h) with ⟨none, e⟩ | ⟨x, -, -, e⟩ <;> rw [e]
  · refine kept_setHv (limits_congr limits build string) fun o => ?_
    obtain ⟨once, line⟩ := o.lined.congr asking
    exact ⟨once, line, fun _ x hx => none x ((line x).mpr hx)⟩
  · have granted : Kept s (s.setHv (h.granted x)) := kept_setHv (fun r => by
      obtain ⟨cap, ramp, trip, hold, count, -⟩ := limits_congr limits build string r
      exact ⟨cap, ramp, trip, hold, count, Nat.zero_le _⟩) fun o => (o.lined.congr asking).granted x
    have raised : Kept s (raise x.port srcHvGranted (s.setHv (h.granted x))) := (acts_raise _ _ _).kept.after granted
    unfold grant
    dsimp only
    split
    · exact (acts_stepMayGo _ _).kept.after raised
    · exact raised

/-- The HV unit with other terms, under which no more stations can be granted. -/
theorem Hv.AsksOrdered.barred {h k : Hv} (asking : k.asking = h.asking) (bars : ∀ x, k.grantable x = true → h.grantable x = true)
    (o : h.AsksOrdered) : k.AsksOrdered := by
  obtain ⟨once, line⟩ := o.lined.congr asking
  simp only [Hv.asking, Prod.mk.injEq] at asking
  obtain ⟨hhold, -, hstep, hres⟩ := asking
  refine ⟨once, line, fun hn x hx => ?_⟩
  have barred := o.granted (hhold ▸ hn) x (by simpa only [Hv.asks, hstep, hres] using hx)
  cases hg : k.grantable x with
  | false => rfl
  | true => rw [bars x hg] at barred; cases barred

theorem acts_barHolder (s : State) : Acts s (barHolder s) := by
  unfold barHolder
  split
  · exact (acts_releaseIfDue _).after ((acts_interruptStep _ _ _).after (acts_source rfl rfl rfl))
  · exact .refl

theorem kept_setHvPermission (v : Byte) (s : State) : Kept s (serveSetHvPermission v s).1 := by
  unfold serveSetHvPermission
  split
  · exact .refl s
  · next q _ =>
    split
    · exact .refl s
    · have written (h : q.allows = true → s.hv.permission.allows = true) : Kept s (s.setHv { s.hv with permission := q }) := by
        refine kept_setHv id (.barred rfl fun x => ?_)
        simp only [Hv.grantable, Bool.and_eq_true]
        exact fun ⟨⟨⟨⟨hq, e⟩, l⟩, f⟩, n⟩ => ⟨⟨⟨⟨h hq, e⟩, l⟩, f⟩, n⟩
      dsimp only
      split
      · next h => exact (acts_barHolder _).kept.after (written fun _ => by simp_all)
      · split
        · exact kept_look rfl rfl rfl rfl
        · next h => exact written fun hq => by simp_all

/-- A limit is set within its range (R115). -/
theorem limits_put {s : State} {n v k : Nat} {l : Limits} (h : s.hv.limits.put s.hv.build n v = some (l, k)) (r : LimitsInRange s) :
    LimitsInRange (s.setHv { s.hv with limits := l }) := by
  obtain ⟨cap, ramp, trip, hold, string, count⟩ := r
  have volts : 50 ≤ buildVolts s.hv.build := by cases s.hv.build <;> decide
  unfold Limits.put at h
  split at h
  · cases h; exact ⟨clampTo_mem volts v, ramp, trip, hold, string, count⟩
  split at h
  · cases h; exact ⟨cap, clampTo_mem (by decide) v, trip, hold, string, count⟩
  split at h
  · cases h; exact ⟨cap, ramp, clampTo_mem (by decide) v, hold, string, count⟩
  split at h
  · cases h; exact ⟨cap, ramp, trip, clampTo_mem (by decide) v, string, count⟩
  split at h
  · cases h; exact ⟨cap, ramp, trip, hold, clampTo_mem (by decide) v, count⟩
  · cases h

theorem kept_setHvLimit (n : Byte) (v : Word16) (s : State) : Kept s (serveSetHvLimit n v s).1 := by
  unfold serveSetHvLimit
  split
  · next l k hl =>
    exact kept_setHv (limits_put hl) (.barred rfl fun _ => id)
  · exact .refl s

theorem kept_clearHvFault (s : State) : Kept s (serveClearHvFault s).1 := by
  unfold serveClearHvFault
  split
  · exact .refl s
  · split
    · exact .refl s
    · exact kept_look rfl rfl rfl rfl

theorem kept_reserveHv (x : Station) (s : State) : Kept s (serveReserveHv x s).1 := by
  unfold serveReserveHv
  dsimp only
  split
  · exact .refl s
  split
  · exact .refl s
  split
  · exact .refl s
  split
  · split
    · exact .refl s
    · exact (acts_source (s := s) (h := { s.hv with
        reserved := true, holdTimer := if s.hv.holderStep then s.hv.holdTimer else some s.hv.limits.hold }) rfl rfl rfl).kept
  · next notHolder =>
    split
    · exact (acts_grant x (terms_setReserveAsk _ _ _) fun o => o.lined.setReserveAsk x true).kept
    · next held =>
      split
      · exact .refl s
      · exact (Act.hv (terms_setReserveAsk _ _ _) id fun o => (o.lined.setReserveAsk x true).ordered held).kept

theorem kept_releaseHv (x : Station) (s : State) : Kept s (serveReleaseHv x s).1 := by
  unfold serveReleaseHv
  dsimp only
  split
  · have free : Acts s (s.setHv { s.hv with reserved := false, holdTimer := none }) := acts_source rfl rfl rfl
    split
    · exact ((acts_releaseHolder _).after free).kept
    · exact free.kept
  · split
    · exact (Act.hv (terms_setReserveAsk _ _ _) id fun o => o.dropReserveAsk x).kept
    · exact .refl s

theorem kept_readHv (s : State) : Kept s (serveReadHv s).1 := by
  unfold serveReadHv
  dsimp only
  split
  · exact kept_advanceFree s
  · exact .refl s

/-! ## Tickets -/

theorem kept_setTicketPolicy (v q : Byte) (s : State) : Kept s (serveSetTicketPolicy v q s).1 := by
  refine kept_withStation fun x => ?_
  split
  · exact kept_setBench (.inr rfl) id id fun o => ticketsOrdered_setBench rfl (fun _ => rfl) o
  · exact .refl s

theorem kept_serveCancelTicket (v b : Byte) (s : State) : Kept s (serveCancelTicket v b s).1 := by
  refine kept_withBank fun x k => ?_
  split
  iterate 2 exact kept_cancelTicket _ _ _
  all_goals exact .refl s

theorem kept_readDefects (v b i : Byte) (s : State) : Kept s (serveReadDefects v b i s).1 := by
  refine kept_withBank fun x k => ?_
  dsimp only
  split
  · exact .refl s
  · split
    · exact .refl s
    · exact .refl s

theorem serveReadPoints_state (f : Word16) (c : Byte) (s : State) : (serveReadPoints f c s).1 = s := by
  unfold serveReadPoints
  repeat' split
  all_goals rfl

theorem kept_of_eq {s t : State} (h : t = s) : Kept s t := h ▸ .refl s

/-! ## The catalogue -/

/-- Every request of the catalogue keeps what stands in `Kept`. -/
theorem kept_serve (p : Port) (r : Request) (s : State) : Kept s (serve p r s).1 := by
  cases r with
  | takeNotice => exact kept_takeNotice p s
  | endNotice => exact kept_endNotice p s
  | writePending e v => exact kept_writePending p e v s
  | setNoticeLevel n l => exact kept_setNoticeLevel p n l s
  | setNoticeBase b => exact kept_setNoticeBase p b s
  | callStation x => exact kept_callStation x s
  | setWindow x b l => exact kept_setWindow x b l s
  | lockWindow x => exact kept_lockWindow x s
  | setSettleTime x t => exact kept_setSettleTime x t s
  | readPoints f c => exact kept_of_eq (serveReadPoints_state f c s)
  | beginLoad => exact kept_beginLoad s
  | writeImage a ws => exact kept_writeImage a ws s
  | commitImage => exact kept_commitImage s
  | abandonLoad => exact kept_abandonLoad s
  | armAlarm => exact kept_armAlarm s
  | readImage a c => exact kept_of_eq (serveReadImage_state a c s)
  | readChannel x => exact kept_withStation fun _ => .refl s
  | openRun => exact kept_ofStation fun x => kept_openRun x s
  | closeRun => exact kept_ofStation fun x => kept_closeRun x s
  | abort => exact kept_ofStation fun x => (acts_serveAbort x s).kept
  | startContinuity c l => exact kept_ofStation fun x => (acts_startContinuity x c l s).kept
  | startInsulation k w v d t l => exact kept_ofStation fun x => (acts_startInsulation x k w v d t l s).kept
  | readStatus x => exact kept_withStation fun _ => .refl s
  | setSerial x v => exact kept_setSerial x v s
  | clearCounters x => exact kept_clearCounters x s
  | readCounters x => exact kept_withStation fun _ => .refl s
  | setHvPermission v => exact kept_setHvPermission v s
  | setHvLimit l v => exact kept_setHvLimit l v s
  | clearHvFault => exact kept_clearHvFault s
  | reserveHv => exact kept_ofStation fun x => kept_reserveHv x s
  | releaseHv => exact kept_ofStation fun x => kept_releaseHv x s
  | readHv => exact kept_readHv s
  | setTicketPolicy x v => exact kept_setTicketPolicy x v s
  | cancelTicket x b => exact kept_serveCancelTicket x b s
  | readDefects x b i => exact kept_readDefects x b i s
  | readNotices | resetDevice | readCause | readMatrix | referenceStatus | stationReset | readPrinter => exact .refl s

end Sys2Proof.Machine

/-! Every command keeps the invariants of the matrix, the ports, the books, the asks and the print queue: the ports and events in `Kept`,
the resets by the values they leave. -/

namespace Sys2Proof.Machine

/-! ## Ports -/

theorem withStation_answers {v : Byte} {s : State} {f : Station → Served} (h : ∀ x, (f x).2.isSome = true) :
    (withStation v s f).2.isSome = true := by
  unfold withStation
  split
  · exact h _
  · rfl

theorem withBank_answers {v b : Byte} {s : State} {f : Station → BankNo → Served} (h : ∀ x k, (f x k).2.isSome = true) :
    (withBank v b s f).2.isSome = true := by
  refine withStation_answers fun x => ?_
  split
  · exact h _ _
  · rfl

theorem ofStation_answers {p : Port} {s : State} {f : Station → Served} (h : ∀ x, (f x).2.isSome = true) :
    (ofStation p s f).2.isSome = true := by
  unfold ofStation
  split
  · exact h _
  · rfl

/-- Only READ IMAGE and START INSULATION can wait: every other request is answered at once (R163). -/
theorem serve_answers (p : Port) {r : Request} (s : State) (h1 : r.code ≠ 0x25) (h2 : r.code ≠ 0x35) :
    (serve p r s).2.isSome = true := by
  cases r with
  | takeNotice => unfold serve serveTakeNotice; dsimp only; split <;> rfl
  | endNotice => unfold serve serveEndNotice; dsimp only; split <;> rfl
  | setNoticeLevel =>
    unfold serve serveSetNoticeLevel
    dsimp only
    split
    · split <;> rfl
    · rfl
  | setNoticeBase => unfold serve serveSetNoticeBase; dsimp only; split <;> rfl
  | callStation => exact withStation_answers fun _ => rfl
  | setWindow =>
    refine withStation_answers fun x => ?_
    split
    · rfl
    · dsimp only; split <;> rfl
  | lockWindow => exact withStation_answers fun _ => rfl
  | setSettleTime => exact withStation_answers fun _ => rfl
  | readPoints =>
    unfold serve serveReadPoints
    dsimp only
    split
    · rfl
    · split <;> rfl
  | beginLoad =>
    unfold serve serveBeginLoad
    dsimp only
    split
    · rfl
    · rfl
    all_goals split <;> rfl
  | writeImage =>
    unfold serve serveWriteImage
    dsimp only
    split
    · rfl
    · split <;> rfl
  | commitImage => unfold serve serveCommitImage; dsimp only; split <;> rfl
  | abandonLoad => unfold serve serveAbandonLoad; dsimp only; split <;> rfl
  | readImage => exact absurd rfl h1
  | readChannel => exact withStation_answers fun _ => rfl
  | openRun => refine ofStation_answers fun x => ?_; unfold serveOpenRun; split <;> rfl
  | closeRun => refine ofStation_answers fun x => ?_; unfold serveCloseRun; split <;> rfl
  | abort =>
    refine ofStation_answers fun x => ?_
    unfold serveAbort
    split
    iterate 3 rfl
    · split <;> rfl
    · rfl
  | startContinuity =>
    refine ofStation_answers fun x => ?_
    unfold serveStartContinuity
    split
    · split
      · rfl
      · split <;> rfl
    · rfl
  | startInsulation => exact absurd rfl h2
  | readStatus => exact withStation_answers fun _ => rfl
  | setSerial => exact withStation_answers fun _ => rfl
  | clearCounters => exact withStation_answers fun _ => rfl
  | readCounters => exact withStation_answers fun _ => rfl
  | setHvPermission =>
    unfold serve serveSetHvPermission
    dsimp only
    split
    · rfl
    · split <;> rfl
  | setHvLimit => unfold serve serveSetHvLimit; dsimp only; split <;> rfl
  | clearHvFault =>
    unfold serve serveClearHvFault
    dsimp only
    split
    · rfl
    · split <;> rfl
  | reserveHv =>
    refine ofStation_answers fun x => ?_
    unfold serveReserveHv
    dsimp only
    split
    · rfl
    split
    · rfl
    split
    · rfl
    split
    · split <;> rfl
    split
    · rfl
    split <;> rfl
  | releaseHv =>
    refine ofStation_answers fun x => ?_
    unfold serveReleaseHv
    dsimp only
    split
    · rfl
    · split <;> rfl
  | setTicketPolicy => refine withStation_answers fun x => ?_; split <;> rfl
  | cancelTicket => refine withBank_answers fun x k => ?_; split <;> rfl
  | readDefects =>
    refine withBank_answers fun x k => ?_
    dsimp only
    split
    · rfl
    · split <;> rfl
  | _ => rfl

theorem kept_respond (p : Port) (c : Byte) (a : Reply) (s : State) : Kept s (respond p c a s) := kept_setPort nofun

theorem kept_handOn (p : Port) (r : Request) (s : State) : Kept s (handOn p r s) := by
  unfold handOn
  dsimp only
  split
  · exact (kept_respond _ _ _ _).after (kept_serve p r s)
  · next waits =>
    refine (kept_setPort fun q hq => ?_).after (kept_serve p r s)
    cases hq
    by_contra h
    obtain ⟨-, h⟩ := not_or.mp h
    have answers := serve_answers p (r := r) s (fun e => h (.inl e)) fun e => h (.inr e)
    rw [waits] at answers
    cases answers

theorem kept_endPeriod (p : Port) (s : State) : Kept s (s.setPort p (s.port p).endPeriod) := kept_setPort fun _ h => .inl h

theorem kept_fetchEnds (p : Port) (s : State) : Kept s (fetchEnds p s) := by
  refine kept_setPort fun r h => .inl ?_
  unfold PortState.delivered at h
  split at h <;> exact h

theorem kept_dropFrame (p : Port) (s : State) : Kept s (dropFrame p s) := kept_setPort fun _ h => .inl h

theorem kept_resetResponse (p : Port) (c : Byte) (v : Status) (l : Bool) (s : State) : Kept s (resetResponse p c v l s) :=
  kept_setPort nofun

/-- A port refuses a frame, or drops it where a slot is not empty. -/
theorem kept_portRefuses (p : Port) (c : Byte) (v : Status) (s : State) : Kept s (portRefuses p c v s) := by
  unfold portRefuses
  split
  · exact kept_dropFrame p s
  · exact kept_respond _ _ _ _

theorem kept_takeMisfit (p : Port) (c : Byte) (s : State) : Kept s (takeMisfit p c s) := by
  unfold takeMisfit
  split
  · exact kept_resetResponse _ _ _ _ _
  · split
    · exact kept_dropFrame p s
    · exact kept_respond _ _ _ _

/-! ## Station and supervisor resets -/

theorem kept_stationReset (x : Station) (s : State) : Kept s (stationReset x s) := by
  have left : Kept s (leaveCheck x s) := kept_setStore id id
  have run : Kept s (resetRun x (leaveCheck x s)) := by
    refine left.trans ?_
    unfold resetRun
    split
    · next r hr => exact kept_endRun hr rfl _ _
    · exact (acts_raise _ _ _).kept.after (acts_bench (s := leaveCheck x s) (x := x) (b := { (leaveCheck x s).bench x with wait := .nothing }) rfl rfl rfl).kept
  have work := ((acts_stationResetTrunk x _).after
    ((acts_stationResetChannel x _).after (acts_endHolding x true (resetRun x (leaveCheck x s))))).kept.after run
  refine work.trans (kept_setUnit (fun _ => stackRises_nil) fun ha _ => ?_)
  simp only [Attention.stationReset, ha, if_true]
  decide

/-- The state with its reset cause written SUPERVISOR: what a supervisor reset keeps is seen from it (R174). -/
def supervised (s : State) : State := { s with cause := .supervisor }

/-- A station whose run is gone matches its banks. -/
theorem bankMatches_of_noRecord {b : Bench} (h : b.record = none) : BankMatches b := fun r hr => by rw [h] at hr; cases hr

/-- With no ask the asks are in order. -/
theorem asksOrdered_reset {h : Hv} (line : h.line = []) (step : h.stepAsk = ⟨false, false⟩) (reserve : h.reserveAsk = ⟨false, false⟩) :
    h.AsksOrdered := by
  have none (x : Station) : h.asks x = false := by cases x <;> simp [Hv.asks, step, reserve, Both.get]
  exact ⟨by rw [line]; exact .nil, fun x => by simp [line, none x], fun _ x hx => by rw [none x] at hx; cases hx⟩

/-- With an empty queue, every bank FREE and no open run the tickets are in order. -/
theorem ticketsOrdered_reset {s : State} (queue : s.printer.queue = []) (bench : ∀ x, (s.bench x).record = none ∧
    (s.bench x).banks = ⟨.reset, .reset⟩) : s.ticketsOrdered := by
  have free (k : BankKey) : s.bankState k = .free := by
    simp only [State.bankState, (bench k.1).2]
    cases k.2 <;> rfl
  have empty : s.tickets = [] := by simp [State.tickets, queue]
  refine ⟨by rw [empty]; exact .nil, fun k hk => by simp [empty] at hk, fun k hk => by simp [empty] at hk, fun k hk => ?_,
    fun x n hx => by simp [State.runBank, (bench x).1] at hx⟩
  rw [free] at hk
  rcases hk with h | h <;> cases h

theorem store_kept_words (v : Store) (armed : Bool) : (v.kept armed).words = v.words := by
  unfold Store.kept
  dsimp only
  split <;> rfl

theorem store_kept_active (v : Store) (armed : Bool) : (v.kept armed).active = false := by
  unfold Store.kept
  dsimp only
  split <;> rfl

theorem kept_supervisorReset (s : State) : Kept (supervised s) (supervisorReset s) := by
  have base : Kept (supervised s) { s with
      cause := .supervisor, ports := abandonAll s.ports, attention := ⟨.reset, .reset, .reset⟩,
      matrix := s.matrix.supervisorReset, store := s.store.kept s.store.armed, channels := ⟨.reset, .reset⟩,
      benches := ⟨s.benches.a.supervisorReset, s.benches.b.supervisorReset⟩, hv := s.hv.supervisorReset,
      printer := .reset s.printer.busy s.printer.fault } :=
    { pending := rfl, porn := rfl, linerst := rfl, cause := rfl, locked := fun _ _ => rfl
      image := fun h => (congrArg imageWf (store_kept_words _ _)).trans h
      apart := fun ⟨image, load, _, targets⟩ => ⟨image, load, by rintro (_ | _) r ⟨⟩, targets⟩
      rising := fun _ p => by cases p <;> exact stackRises_nil
      limits := fun ⟨cap, ramp, trip, hold, string, _⟩ => ⟨cap, ramp, trip, hold, string, Nat.zero_le _⟩
      serials := fun h x => by cases x <;> first | exact h .a | exact h .b
      settles := fun h => h
      sums := fun h x => by cases x <;> first | exact h .a | exact h .b
      banks := fun _ x => by cases x <;> exact bankMatches_of_noRecord rfl
      work := fun _ p r hr => by cases p <;> cases hr
      asks := fun _ => asksOrdered_reset rfl rfl rfl
      tickets := fun _ => ticketsOrdered_reset rfl fun x => by cases x <;> exact ⟨rfl, rfl⟩
      served := fun _ _ => ⟨rfl, rfl⟩
      alarm := fun _ h => by rw [show _ = false from store_kept_active _ _] at h; cases h }
  have trunks := ((acts_supervisorResetTrunk .b _).after (acts_supervisorResetTrunk .a _)).kept.after base
  unfold supervisorReset
  dsimp only
  split
  · exact (Act.housekeeping _ _).kept.after trunks
  · exact (Act.chain _).kept.after trunks

/-- The commands that reset the device (R173). -/
def ResetsDevice (i : Instr) : Prop := i = .resetDevice .ps ∨ ∃ bytes, i = .requestFrame .ps (0x08 :: bytes)

/-- Between s and t everything stands that a command keeps, the reset cause too, but for a reset of the device (R174). -/
def KeptBy (device : Prop) (s t : State) : Prop := Kept s t ∨ device ∧ Kept (supervised s) t

theorem Kept.by {s t : State} (h : Kept s t) (d : Prop) : KeptBy d s t := .inl h

/-! ### The code of a frame's request -/

section
variable {bs : List Byte} {r : Request} {c : Byte} {n : Nat}

theorem args0_code {q : Request} (hf : q.code.toNat = n) (h : args0 q bs = some r) : r.code.toNat = n := by
  unfold args0 at h
  split at h <;> cases h
  exact hf

theorem args1_code {f : Byte → Request} (hf : ∀ a, (f a).code.toNat = n) (h : args1 f bs = some r) : r.code.toNat = n := by
  unfold args1 at h
  split at h <;> cases h
  exact hf _

theorem args2_code {f : Byte → Byte → Request} (hf : ∀ a b, (f a b).code.toNat = n) (h : args2 f bs = some r) :
    r.code.toNat = n := by
  unfold args2 at h
  split at h <;> cases h
  exact hf _ _

theorem args3_code {f : Byte → Byte → Byte → Request} (hf : ∀ a b d, (f a b d).code.toNat = n) (h : args3 f bs = some r) :
    r.code.toNat = n := by
  unfold args3 at h
  split at h <;> cases h
  exact hf _ _ _

theorem args4_code {f : Byte → Byte → Byte → Byte → Request} (hf : ∀ a b d e, (f a b d e).code.toNat = n)
    (h : args4 f bs = some r) : r.code.toNat = n := by
  unfold args4 at h
  split at h <;> cases h
  exact hf _ _ _ _

theorem argsSerial_code (h : argsSerial bs = some r) : r.code.toNat = 0x37 := by
  unfold argsSerial at h
  split at h <;> cases h
  rfl

theorem argsImage_code (h : argsImage bs = some r) : r.code.toNat = 0x21 := by
  unfold argsImage at h
  split at h
  · obtain ⟨ws, -, rfl⟩ := Option.map_eq_some_iff.mp h
    rfl
  · cases h

theorem argsInsulation_code (h : argsInsulation bs = some r) : r.code.toNat = 0x35 := by
  unfold argsInsulation at h
  split at h <;> cases h
  rfl

/-- A frame's request has the frame's code. -/
theorem parseRequest_code (h : parseRequest c bs = some r) : r.code = c := by
  refine BitVec.eq_of_toNat_eq ?_
  unfold parseRequest at h
  split at h
  case h_43 => cases h
  all_goals
    next e =>
    rw [e]
    first
    | exact args0_code rfl h
    | exact args1_code (fun _ => rfl) h
    | exact args2_code (fun _ _ => rfl) h
    | exact args3_code (fun _ _ _ => rfl) h
    | exact args4_code (fun _ _ _ _ => rfl) h
    | exact argsSerial_code h
    | exact argsImage_code h
    | exact argsInsulation_code h

end

/-! ## Frames -/

/-- A frame judged good has a code of the catalogue that its port may issue. -/
theorem judge_good {p : Port} {c : Byte} {ok : Bool} {r q : Option Request} (h : judge p c ok r = .good q) :
    q = r ∧ ∃ k, codeClass c = some k ∧ k.holds p = true := by
  unfold judge at h
  split at h
  · split at h
    · next k hk =>
      split at h
      · next hp => cases h; exact ⟨rfl, k, hk, hp⟩
      · cases h
    · cases h
  · cases h

/-- A frame that is taken keeps what `Kept` says, but for RESET DEVICE. -/
theorem keptBy_takeGood {p : Port} {c : Byte} {r : Option Request} {s : State} :
    KeptBy (r = some .resetDevice) s (takeGood p c r s) := by
  unfold takeGood
  split
  · exact .inr ⟨rfl, (kept_resetResponse _ _ _ _ _).after (kept_supervisorReset s)⟩
  · split
    · exact .inl ((kept_resetResponse _ _ _ _ _).after (kept_stationReset _ s))
    · exact .inl (.refl s)
  · split
    · exact .inl (kept_dropFrame p s)
    · exact .inl (kept_handOn _ _ s)
  · exact .inl (kept_takeMisfit _ _ s)

theorem keptBy_takeFrame (p : Port) (f : Byte × Judgement) (s : State) :
    KeptBy (f.2 = .good (some .resetDevice)) s (takeFrame p f s) := by
  have ended := kept_endPeriod p s
  unfold takeFrame
  dsimp only
  split
  iterate 3 exact .inl ((kept_portRefuses _ _ _ _).after ended)
  · next r hr =>
    rcases keptBy_takeGood (p := p) (c := f.1) (r := r) (s := s.setPort p (s.port p).endPeriod) with k | ⟨rfl, k⟩
    · exact .inl (k.after ended)
    · have ended' : Kept (supervised s) (supervised (s.setPort p (s.port p).endPeriod)) := kept_endPeriod p (supervised s)
      exact .inr ⟨hr, k.after ended'⟩

/-- RESET DEVICE comes from port PS alone (section 10.2). -/
theorem port_of_resetDevice {p : Port} {c : Byte} {ok : Bool} {r : Option Request} (hc : c = 0x08)
    (h : judge p c ok r = .good (some .resetDevice)) : p = .ps := by
  obtain ⟨-, k, hk, hp⟩ := judge_good h
  subst hc
  cases p with
  | ps => rfl
  | _ => cases hk; cases hp

theorem keptBy_submit (p : Port) (r : Request) (s : State) : KeptBy (p = .ps ∧ r = .resetDevice) s (submit p r s) := by
  rcases keptBy_takeFrame p (judgeRequest p r) s with k | ⟨hr, k⟩
  · exact .inl k
  · obtain ⟨e, -⟩ := judge_good hr
    cases e
    have port := port_of_resetDevice (p := p) (c := 0x08) (ok := Request.wf .resetDevice) (r := some .resetDevice) rfl hr
    exact .inr ⟨⟨port, rfl⟩, k⟩

theorem keptBy_periodEnds (p : Port) (bytes : List Byte) (s : State) :
    KeptBy (p = .ps ∧ ∃ rest, bytes = 0x08 :: rest) s (periodEnds p bytes s) := by
  unfold periodEnds
  split
  · exact .inl (kept_endPeriod p s)
  · next b rest =>
    split
    · exact .inl (kept_fetchEnds p s)
    · rcases keptBy_takeFrame p (judgeBytes p (b :: rest)) s with k | ⟨hr, k⟩
      · exact .inl k
      · cases rest with
        | nil => cases hr
        | cons l payload =>
          obtain ⟨e, -⟩ := judge_good hr
          have hb : b = 0x08 := (parseRequest_code e.symm).symm
          subst hb
          exact .inr ⟨⟨port_of_resetDevice rfl hr, _, rfl⟩, k⟩

/-! ## Chain, waits and monitors -/

/-- The completed load leaves the chain: its contents are the relay image (R3). -/
theorem held_loadOver {s : State} {l : ChainLoad} (h : s.matrix.load = some l) :
    Held s (s.setMatrix { s.matrix with image := some l.contents, load := none }) :=
  held_setMatrix (fun _ _ => rfl) (fun _ => rfl) fun ⟨_, load, slots, targets⟩ =>
    ⟨fun _ hi => Option.some.inj hi ▸ load l h, fun l' (hl : none = some l') => absurd hl nofun, slots, targets⟩

theorem kept_loadCompleted (q : Requester) (s : State) : Kept s (loadCompleted q s) := by
  have wait (k : Option Housekeeping) : Kept s (s.setMatrix { s.matrix with hkWait := k }) :=
    kept_setMatrix (fun _ _ => rfl) (fun _ => rfl) id rfl rfl
  unfold loadCompleted
  split
  · exact (acts_tellTrunk _ (acts_trunkLoadDone _ _)).kept
  · exact wait _
  · split
    · exact .refl s
    · exact wait _
  · exact .refl s

theorem kept_chainLoadCompletes (s : State) : Kept s (chainLoadCompletes s) := by
  unfold chainLoadCompletes
  split
  · next l hl =>
    have ended := held_loadOver hl
    have done := kept_loadCompleted l.requester (s.setMatrix { s.matrix with image := some l.contents, load := none })
    have next := (Act.chain (loadCompleted l.requester (s.setMatrix { s.matrix with image := some l.contents, load := none }))).kept
    exact ⟨ended.trans (done.toHeld.trans next.toHeld), fun _ => arbitrate_served _, fun a => next.alarm (done.alarm a)⟩
  · exact .refl s

theorem kept_matrixReady (pres : CardSet) (s : State) : Kept s (matrixReady pres s) := by
  have ready : Kept s (s.setMatrix { s.matrix with presence := pres, state := .ready, hkWait := none }) :=
    kept_setMatrix (fun _ _ => rfl) (fun _ => rfl) id rfl rfl
  have taken (t : State) : Acts t (tellTrunk .b (takeWaiting .b (tellTrunk .a (takeWaiting .a t)))) :=
    (acts_tellTrunk .b (acts_takeWaiting _ _)).after (acts_tellTrunk .a (acts_takeWaiting _ _))
  unfold matrixReady
  dsimp only
  split
  · exact (taken _).kept.after ready
  · exact (taken _).kept.after ((Act.housekeeping _ _).kept.after ready)

theorem kept_housekeepingWaitEnds (pres : CardSet) (s : State) : Kept s (housekeepingWaitEnds pres s) := by
  unfold housekeepingWaitEnds
  split
  · exact kept_matrixReady _ _
  · have ended : Kept s (s.setMatrix { s.matrix with hkWait := none }) := kept_setMatrix (fun _ _ => rfl) (fun _ => rfl) id rfl rfl
    exact ((acts_tellTrunk .b (acts_allOpenDone _ _)).after (acts_tellTrunk .a (acts_allOpenDone _ _))).kept.after ended
  all_goals exact .refl s

theorem kept_setHot (x : Station) (v : Bool) (s : State) : Kept s (setHot x v s) :=
  kept_setMatrix (fun _ _ => rfl) (fun _ => rfl) id rfl rfl

theorem kept_monitorRises (x : Station) (s : State) : Kept s (monitorRises x s) := by
  have cut := ((acts_cutAperture x _).after (acts_guardTrunk x (setHot x true s))).kept.after (kept_setHot x true s)
  unfold monitorRises
  dsimp only
  split
  · exact .refl s
  · split
    · exact (acts_onMeasured _ _ _).kept.after cut
    · exact cut

theorem acts_sourceCold (x : Station) (s : State) : Acts s (sourceCold x s) := by
  unfold sourceCold
  split
  · split
    · split
      · exact acts_tellEngine (acts_endDischarge _ _ _)
      · exact .refl
    all_goals exact .refl
  · split
    · exact (acts_releaseHolder _).after ((acts_leaveIsolation _ _).after (acts_source rfl rfl rfl))
    · exact .refl

theorem acts_trunkCold (x : Station) (s : State) : Acts s (trunkCold x s) := acts_tellTrunk x (acts_unguardTrunk x s)

theorem kept_bothCold (x : Station) (s : State) : Kept s (bothCold x s) := by
  unfold bothCold
  split
  · split
    · exact ((acts_trunkCold _ _).after (acts_sourceCold _ _)).kept.after (kept_advanceFree s)
    · exact ((acts_sourceCold _ _).after (acts_trunkCold _ _)).kept.after (kept_advanceFree s)
  · exact ((acts_trunkCold _ _).after (acts_sourceCold _ _)).kept

theorem kept_clearingPass (s : State) : Kept s (clearingPass s) := by
  unfold clearingPass
  split
  · exact (Act.housekeeping _ _).kept.after (kept_setMatrix (fun _ _ => rfl) (fun _ => rfl) id rfl rfl)
  · exact .refl s

theorem kept_monitorFalls (x : Station) (s : State) : Kept s (monitorFalls x s) := by
  unfold monitorFalls
  split
  · exact (Act.chain _).kept.after ((kept_clearingPass _).after ((kept_bothCold _ _).after (kept_setHot _ _ _)))
  · exact .refl s

/-! ## The checker -/

theorem kept_checkerReads (s : State) : Kept s (checkerReads s) := by
  unfold checkerReads
  split
  · exact kept_setStore id id
  · exact .refl s

theorem kept_answerWaiting (p : Port) (s : State) : Kept s (answerWaiting p s) := by
  unfold answerWaiting
  split
  · exact kept_handOn _ _ _
  · exact .refl s

theorem kept_answerRead (p : Port) (s : State) : Kept s (answerRead p s) := by
  unfold answerRead
  split
  · exact kept_answerWaiting _ _
  · exact .refl s

theorem kept_answerReads (s : State) : Kept s (answerReads s) :=
  (kept_answerRead _ _).after ((kept_answerRead _ _).after (kept_answerRead _ _))

/-- One command that reaches both stations keeps what its work at each keeps. -/
theorem kept_eachStation {w : Bool} {f : Station → State → State} (h : ∀ x s, Kept s (f x s)) (s : State) :
    Kept s (eachStation w f s) := by
  unfold eachStation
  split
  · split
    · exact (h _ _).after ((h _ _).after (kept_advanceFree s))
    · exact (h _ _).after ((h _ _).after (kept_advanceFree s))
  · exact (h _ _).after (h _ _)

theorem acts_runReady (s : State) (x : Station) : Acts s (runReady s x) := (acts_raise _ _ _).after (acts_bench rfl rfl rfl)

theorem acts_runsReady (l : List Station) (s : State) : Acts s (l.foldl runReady s) := by
  induction l generalizing s with
  | nil => exact .refl
  | cons x l ih => exact (ih _).after (acts_runReady s x)

theorem kept_resumeStation (x : Station) (s : State) : Kept s (resumeStation x s) :=
  (kept_answerWaiting _ _).after ((acts_resumeRead _ _).after (acts_tellChannel x (acts_compensate x s))).kept

theorem kept_checkPasses (joined : List Station) (k : CheckKind) (s : State) : Kept s (checkPasses joined k s) := by
  have ready := (acts_runsReady joined _).kept.after (kept_answerReads s)
  unfold checkPasses
  dsimp only
  refine (kept_eachStation kept_resumeStation _).after ?_
  split
  · exact (acts_raise _ _ _).kept.after ready
  · exact ready

theorem kept_forcedEnd (x : Station) (s : State) : Kept s (forcedEnd x s) := by
  unfold forcedEnd
  dsimp only
  split
  · next r hr =>
    have ended := (acts_endHolding x false _).kept.after (kept_endRun (r := { r with refFault := true, abortPending := false }) hr rfl
      .referenceCheck (verdictOf { r with refFault := true, abortPending := false }))
    split
    · exact (acts_endWork _ _ _).kept.after ended
    · exact ended
  · exact .refl s

theorem kept_failStation (x : Station) (s : State) : Kept s (failStation x s) :=
  (kept_answerWaiting _ _).after ((kept_forcedEnd _ _).after (acts_discardCompensation _ _).kept)

theorem acts_withdrawAsks (x : Station) (s : State) : Acts s (withdrawAsks x s) := by
  unfold withdrawAsks
  split
  · exact acts_clearAsks _ _
  · exact .refl

theorem acts_raiseAll (n : Port → Nat) (s : State) : Acts s (raiseAll n s) :=
  (acts_raise _ _ _).after ((acts_raise _ _ _).after (acts_raise _ _ _))

/-- REFERENCE-ALARM is of level TOP on every port, so that raising it leaves it pending (R166, R172). -/
theorem raiseAll_alarm (s : State) : AlarmStands (raiseAll (fun _ => srcAlarm) s) := by
  intro _ p
  have pends (q : Port) (t : State) : ((raise q srcAlarm t).unit q).pending.getLsbD 15 = true :=
    raise_pending q srcAlarm t (by decide) (by simp [sourceLevel, srcAlarm])
  have stays (q r : Port) (t : State) (h : (t.unit q).pending.getLsbD 15 = true) :
      ((raise r srcAlarm t).unit q).pending.getLsbD 15 = true := ((worked_raise r srcAlarm t).units q).pending h
  cases p with
  | pa => exact stays _ _ _ (stays _ _ _ (pends _ _))
  | pb => exact stays _ _ _ (pends _ _)
  | ps => exact pends _ _

/-- A failed check keeps everything from its judgement on, and the alarm it makes active stands pending everywhere (R39, R42, R172). -/
theorem held_checkFails (s : State) :
    Held s (checkFails s) ∧ (ChainServed s → ChainServed (checkFails s)) ∧ AlarmStands (checkFails s) := by
  have alarmed : ∀ t, ∃ u, u = (if t.store.active then raiseAll (fun _ => srcAlarm) t else t) ∧ Kept t u ∧ AlarmStands u := by
    intro t
    refine ⟨_, rfl, ?_⟩
    split
    · exact ⟨(acts_raiseAll _ _).kept, raiseAll_alarm t⟩
    · next off => exact ⟨.refl t, fun on => absurd on off⟩
  have raised := (acts_raise .ps srcReferenceFault _).kept.after (kept_answerReads s)
  obtain ⟨u, hu, ku, au⟩ := alarmed (raise .ps srcReferenceFault (answerReads s))
  have ends := (kept_eachStation (w := runOpen u .a && runOpen u .b) kept_failStation _).after
    ((acts_withdrawAsks .b _).after (acts_withdrawAsks .a u)).kept
  have whole := (raised.trans ku).trans ends
  unfold checkFails
  dsimp only
  rw [← hu]
  exact ⟨whole.toHeld, whole.served, ends.alarm au⟩

theorem kept_checkEnds (s : State) : Kept s (checkEnds s) := by
  unfold checkEnds
  split
  · next k _ =>
    split
    · have words : imageWf s.store.words = true → imageWf (s.store.judged k).words = true := id
      dsimp only
      split
      · next valid =>
        refine (kept_checkPasses _ _ _).after (kept_setStore words fun ha => ?_)
        have passes : (k.result s.store.words).fault.isNone = true := by
          by_contra fails
          simp [Store.judged, fails] at valid
        simpa [Store.judged, Option.isNone_iff_eq_none.mp passes] using ha
      · obtain ⟨held, served, alarm⟩ := held_checkFails (s.setStore (s.store.judged k))
        exact ⟨(held_setStore words).trans held, fun c => served c, fun _ => alarm⟩
    · exact .refl s
  · exact .refl s

/-! ## The source -/

theorem acts_enterStage (e : Energisation) (g : Stage) (v : SourceState) (s : State) : Acts s (enterStage e g v s) := acts_source rfl rfl rfl

theorem acts_switchCloses (s : State) : Acts s (switchCloses s) := by
  unfold switchCloses
  split
  · exact (acts_enterStage _ _ _ _).after (acts_source rfl rfl rfl)
  · exact .refl

theorem acts_setpointReached (n : Nat) (s : State) : Acts s (setpointReached n s) := by
  unfold setpointReached
  split
  · split
    · exact acts_enterStage _ _ _ _
    · exact .refl
  · exact .refl

theorem acts_dwellEnds (s : State) : Acts s (dwellEnds s) := by
  unfold dwellEnds
  split
  · exact acts_enterStage _ _ _ _
  · exact .refl

theorem acts_sampleEnds (v i : Nat) (s : State) : Acts s (sampleEnds v i s) := by
  unfold sampleEnds
  split
  · exact acts_tellEngine (acts_enterDischarge _ _ _)
  · exact .refl

theorem acts_arcs (e : Energisation) (c : ArcCause) (s : State) : Acts s (arcs e c s) := acts_tellEngine (acts_enterDischarge _ _ _)

theorem acts_tripCurrent (n : Nat) (s : State) : Acts s (tripCurrent n s) := by
  unfold tripCurrent
  split
  · split
    · exact acts_arcs _ _ _
    · exact .refl
  · exact .refl

theorem acts_sags (n : Nat) (s : State) : Acts s (sags n s) := by
  unfold sags
  split
  · split
    · exact acts_arcs _ _ _
    · exact .refl
  · exact .refl

theorem acts_rampTimesOut (s : State) : Acts s (rampTimesOut s) := by
  unfold rampTimesOut
  split
  · exact acts_arcs _ _ _
  · exact .refl

theorem kept_dischargeTimesOut (s : State) : Kept s (dischargeTimesOut s) := by
  unfold dischargeTimesOut
  split
  · next e _ =>
    split
    · have latched : Kept s (s.setHv { s.hv with
          latch := some e.trunk, source := .faulted, energ := none, last := some (e.result .fault),
          reserved := false, holdTimer := none, releasePending := true }) :=
        kept_setHv id (.barred rfl fun x => by simp [Hv.grantable])
      exact (acts_tellEngine (r := (_, some (e.trunk, e.result .fault))) (acts_raise .ps srcHvFault _)).kept.after latched
    · exact .refl s
  · exact .refl s

theorem acts_holdExpires (s : State) : Acts s (holdExpires s) := by
  unfold holdExpires
  split
  · exact acts_releaseHolder _
  · exact .refl

/-! ## Lids and E-STOP -/

theorem acts_loseSource (s : State) : Acts s (loseSource s) := acts_source rfl rfl rfl

theorem acts_holderLidOpens (x : Station) (s : State) : Acts s (holderLidOpens x s) := by
  unfold holderLidOpens
  refine (acts_releaseIfDue _).after ((acts_interruptStep _ _ _).after ((acts_loseSource _).after ?_))
  split
  · exact (acts_raise _ _ _).after (acts_raise _ _ _)
  · exact .refl

theorem kept_lidOpens (x : Station) (s : State) : Kept s (lidOpens x s) := by
  have opened : Kept s (setLid x false s) := kept_setHv id (.barred rfl fun y => by
    simp only [Hv.grantable, Bool.and_eq_true]
    rintro ⟨⟨⟨⟨hp, he⟩, hl⟩, hf⟩, hn⟩
    refine ⟨⟨⟨⟨hp, he⟩, ?_⟩, hf⟩, hn⟩
    by_cases e : y = x
    · subst e; simp at hl
    · rwa [Both.get_set_ne _ _ e] at hl)
  unfold lidOpens
  dsimp only
  split
  · split
    · exact (acts_holderLidOpens _ _).kept.after opened
    · exact opened
  · exact .refl s

theorem kept_lidCloses (x : Station) (s : State) : Kept s (lidCloses x s) := by
  unfold lidCloses
  split
  · exact .refl s
  · exact kept_look rfl rfl rfl rfl

theorem kept_estopRises (s : State) : Kept s (estopRises s) := by
  have active : Kept s (s.setHv { s.hv with estop := true }) := kept_setHv id (.barred rfl fun x => by simp [Hv.grantable])
  unfold estopRises
  dsimp only
  split
  · exact .refl s
  · refine (acts_releaseIfDue _).kept.after ((kept_eachStation (fun x s => (acts_interruptStep x _ s).kept) _).after ?_)
    exact ((acts_loseSource _).after ((acts_clearAsks _ _).after ((acts_clearAsks _ _).after (acts_raiseAll _ _)))).kept.after active

theorem kept_estopFalls (s : State) : Kept s (estopFalls s) := by
  unfold estopFalls
  split
  · exact kept_look rfl rfl rfl rfl
  · exact .refl s

/-! ## The printer link -/

theorem kept_strobe {s : State} {q : Printer} (queue : q.queue = s.printer.queue) : Kept s (s.setPrinter (strobe q)) :=
  kept_setPrinter (by rw [strobe_queue, queue]; rfl)

theorem kept_sameQueue {s : State} {q : Printer} (queue : q.queue = s.printer.queue) : Kept s (s.setPrinter q) :=
  kept_setPrinter (by rw [queue]; rfl)

theorem kept_byteComplete (s : State) : Kept s (byteComplete s) := by
  unfold byteComplete
  dsimp only
  split
  · split
    · exact (kept_composerHand _).after (kept_sameQueue rfl)
    · split
      · exact (kept_composerHand _).after (kept_sameQueue rfl)
      · exact (kept_endTicket _).after (kept_sameQueue rfl)
  · exact kept_sameQueue rfl

theorem kept_resumeStalled {s : State} {q : Printer} (queue : q.queue = s.printer.queue) : Kept s (resumeStalled q s) := by
  unfold resumeStalled
  split
  · exact (kept_composerHand _).after (kept_sameQueue queue)
  · exact kept_strobe queue

theorem kept_busyFalls (s : State) : Kept s (busyFalls s) := by
  unfold busyFalls
  dsimp only
  split
  · exact kept_strobe rfl
  · exact kept_resumeStalled rfl
  · split
    · exact (kept_byteComplete _).after (kept_sameQueue rfl)
    · exact kept_sameQueue rfl
  all_goals exact kept_sameQueue rfl

theorem kept_busyRises (s : State) : Kept s (busyRises s) := kept_sameQueue rfl

theorem kept_acknowledgeExpires (s : State) : Kept s (acknowledgeExpires s) := by
  unfold acknowledgeExpires
  split
  · exact (acts_raiseAll _ _).kept.after (kept_strobe rfl)
  · exact .refl s

theorem kept_faultRises (s : State) : Kept s (faultRises s) := kept_sameQueue rfl

theorem kept_faultFalls (s : State) : Kept s (faultFalls s) := by
  unfold faultFalls
  split
  · exact (kept_composerHand _).after (kept_sameQueue rfl)
  · exact kept_sameQueue rfl

end Sys2Proof.Machine

/-! What every command keeps, the resets among them, and the statements about every step that follow from it. -/

namespace Sys2Proof.Machine

/-! ## The reset values -/

theorem imageWf_nil : imageWf [] = true := rfl

theorem matrix_reset_apart (hot : Both Bool) : (Matrix.reset hot).Apart :=
  ⟨fun _ (h : none = some _) => absurd h nofun, fun _ (h : none = some _) => absurd h nofun,
    fun x r hr => by cases x <;> exact absurd hr nofun, fun x => by cases x <;> exact allOpen_apart⟩

theorem limits_of_reset {s : State} (limits : s.hv.limits = .reset s.hv.build) (string : s.hv.string = 0) : LimitsInRange s := by
  unfold LimitsInRange
  rw [limits, string]
  cases s.hv.build <;> decide

theorem serials_of_reset {s : State} (h : ∀ x, (s.bench x).nextSerial = 1) : SerialsInRange s := fun x => by
  rw [h x]
  decide

theorem settles_of_reset {s : State} (h : ∀ x, (s.trunk x).settleTime = 3) : SettleTimesInRange s := fun x => by
  rw [h x]
  decide

theorem hv_reset_asks (build : BuildMax) (lids : Both Bool) (estop : Bool) : (Hv.reset build lids estop).AsksOrdered :=
  asksOrdered_reset rfl rfl rfl

/-! ## The relation -/

theorem asksSettled_iff (s : State) : AsksSettled s ↔ s.hv.AsksOrdered ∧ (s.inReset = true → s.hv.line = []) :=
  ⟨fun ⟨once, line, granted, held⟩ => ⟨⟨once, line, granted⟩, held⟩,
    fun ⟨⟨once, line, granted⟩, held⟩ => ⟨once, line, granted, held⟩⟩

/-- What every command keeps, a reset of the part among them. -/
structure Stays (s t : State) : Prop where
  pending : t.pending = s.pending
  image : Memory.wf s = true → Memory.wf t = true
  apart : RelaysApart s → RelaysApart t
  served : ChainServed s → ChainServed t
  rising : StacksRise s → StacksRise t
  alarm : AlarmStands s → AlarmStands t
  limits : LimitsInRange s → LimitsInRange t
  serials : SerialsInRange s → SerialsInRange t
  settles : SettleTimesInRange s → SettleTimesInRange t
  sums : CountersSum s → CountersSum t
  banks : BanksMatch s → BanksMatch t
  work : WorkWaits s → WorkWaits t
  asks : AsksSettled s → AsksSettled t
  tickets : QueueOrdered s → QueueOrdered t

/-- In a reset neither the asks nor the print queue move. -/
def HeldStill (s t : State) : Prop := s.inReset = true → t.hv = s.hv ∧ t.printer = s.printer

theorem Kept.stays {s t : State} (k : Kept s t) (still : HeldStill s t) : Stays s t where
  pending := k.pending
  image := k.image
  apart := k.apart
  served := k.served
  rising := k.rising
  alarm := k.alarm
  limits := k.limits
  serials := k.serials
  settles := k.settles
  sums := k.sums
  banks := k.banks
  work := k.work
  asks h := by
    rw [asksSettled_iff, Kept.inReset k.toHeld] at *
    exact ⟨k.asks h.1, fun hr => by rw [(still hr).1]; exact h.2 hr⟩
  tickets h := by
    rw [queueOrdered_iff, Kept.inReset k.toHeld] at *
    exact ⟨k.tickets h.1, fun hr => by rw [(still hr).2]; exact h.2 hr⟩

theorem Stays.refl (s : State) : Stays s s := (Kept.refl s).stays fun _ => ⟨rfl, rfl⟩

theorem Stays.of_supervised {s t : State} (h : Stays (supervised s) t) : Stays s t where
  pending := h.pending
  image := h.image
  apart := h.apart
  served := h.served
  rising := h.rising
  alarm := h.alarm
  limits := h.limits
  serials := h.serials
  settles := h.settles
  sums := h.sums
  banks := h.banks
  work := h.work
  asks k := h.asks ⟨k.once, k.line, k.granted, k.held⟩
  tickets k := h.tickets ⟨k.distinct, k.head, k.behind, k.only, k.recording, k.held⟩

/-! ## Requests and events -/

/-- A request row is its request arriving at its port. -/
theorem exec_request {i : Instr} {p : Port} {r : Request} (h : i.request? = some (p, r)) (s : State) :
    exec i s = .next (atRise p (submit p r) s) := by
  cases i <;> cases h <;> rfl

theorem whenRunning_kept {f : State → State} (h : ∀ s, Kept s (f s)) (s : State) :
    Kept s (whenRunning f s) ∧ HeldStill s (whenRunning f s) := by
  cases hr : s.inReset with
  | true => rw [whenRunning_held f hr]; exact ⟨.refl s, fun _ => ⟨rfl, rfl⟩⟩
  | false => rw [whenRunning_running f hr]; exact ⟨h s, fun on => by simp [hr] at on⟩

theorem atRise_keptBy {p : Port} {f : State → State} {device : Prop} {s : State} (h : KeptBy device s (f s)) :
    KeptBy device s (atRise p f s) ∧ HeldStill s (atRise p f s) := by
  cases hr : s.inReset with
  | true => rw [atRise_held p f hr]; exact ⟨.inl (kept_endPeriod p s), fun _ => ⟨rfl, rfl⟩⟩
  | false => rw [atRise_running p f hr]; exact ⟨h, fun on => by simp [hr] at on⟩

/-- What a command that is no event of the reset lines does: the work of the part, in a reset nothing but chip select's. -/
def Ordinary (i : Instr) (s : State) : Prop :=
  ∃ t, exec i s = .next t ∧ KeptBy (ResetsDevice i) s t ∧ HeldStill s t

theorem ordinary_event {i : Instr} {f : State → State} (h : ∀ s, Kept s (f s)) {s : State}
    (e : exec i s = .next (whenRunning f s)) : Ordinary i s :=
  ⟨_, e, .inl (whenRunning_kept h s).1, (whenRunning_kept h s).2⟩

theorem ordinary_request {i : Instr} {p : Port} {r : Request} (h : i.request? = some (p, r)) (s : State) : Ordinary i s := by
  obtain ⟨kept, still⟩ := atRise_keptBy (p := p) (keptBy_submit p r s)
  refine ⟨_, exec_request h s, ?_, still⟩
  rcases kept with k | ⟨⟨rfl, rfl⟩, k⟩
  · exact .inl k
  · refine .inr ⟨.inl ?_, k⟩
    cases i <;> cases h
    rfl

theorem ordinary_frame (p : Port) (bytes : List Byte) (s : State) : Ordinary (.requestFrame p bytes) s := by
  obtain ⟨kept, still⟩ := atRise_keptBy (p := p) (keptBy_periodEnds p bytes s)
  refine ⟨_, rfl, ?_, still⟩
  rcases kept with k | ⟨⟨rfl, rest, rfl⟩, k⟩
  · exact .inl k
  · exact .inr ⟨.inr ⟨rest, rfl⟩, k⟩

theorem kept_ite {c : Prop} [Decidable c] {s t u : State} (ht : Kept s t) (hu : Kept s u) : Kept s (if c then t else u) := by
  split
  · exact ht
  · exact hu

/-- Every command but the three of the reset lines. -/
theorem ordinary (i : Instr) (s : State) (h1 : ∀ b, i ≠ .powerOnReset b) (h2 : ∀ b, i ≠ .lineReset b)
    (h3 : ∀ l v, i ≠ .resetEnd l v) : Ordinary i s := by
  cases hq : i.request? with
  | some q => exact ordinary_request hq s
  | none =>
    cases i with
    | powerOnReset b => exact absurd rfl (h1 b)
    | lineReset b => exact absurd rfl (h2 b)
    | resetEnd l v => exact absurd rfl (h3 l v)
    | requestFrame p bytes => exact ordinary_frame p bytes s
    | fetch p =>
      obtain ⟨kept, still⟩ := atRise_keptBy (p := p) ((kept_fetchEnds p s).by False)
      exact ⟨_, rfl, kept.imp id fun ⟨f, _⟩ => f.elim, still⟩
    | chipSelectFall p => exact ⟨_, rfl, .inl (kept_setPort fun _ h => .inl h), fun _ => ⟨rfl, rfl⟩⟩
    | chainLoadComplete => exact ordinary_event kept_chainLoadCompletes rfl
    | releaseWaitExpiry x => exact ordinary_event (fun t => (acts_tellTrunk x (acts_releaseWaitEnds x t)).kept) rfl
    | housekeepingReleaseWaitExpiry pres => exact ordinary_event (kept_housekeepingWaitEnds pres) rfl
    | settleTimeExpiry x => exact ordinary_event (fun t => (acts_tellTrunk x (acts_settleTimeEnds x t)).kept) rfl
    | monitorRise x => exact ordinary_event (kept_monitorRises x) rfl
    | monitorFall x => exact ordinary_event (kept_monitorFalls x) rfl
    | checkerWordRead => exact ordinary_event kept_checkerReads rfl
    | checkEnd => exact ordinary_event kept_checkEnds rfl
    | apertureEnd x c => exact ordinary_event (fun t => (acts_tellChannel x (acts_endAperture x c t)).kept) rfl
    | transferSwitchClosed => exact ordinary_event (fun t => (acts_switchCloses t).kept) rfl
    | hvSetpointReached v => exact ordinary_event (fun t => (acts_setpointReached v t).kept) rfl
    | dwellExpiry => exact ordinary_event (fun t => (acts_dwellEnds t).kept) rfl
    | sampleEnd v c => exact ordinary_event (fun t => (acts_sampleEnds v c t).kept) rfl
    | hvTripCurrent v => exact ordinary_event (fun t => (acts_tripCurrent v t).kept) rfl
    | hvSag v => exact ordinary_event (fun t => (acts_sags v t).kept) rfl
    | rampTimeout => exact ordinary_event (fun t => (acts_rampTimesOut t).kept) rfl
    | dischargeTimeout => exact ordinary_event kept_dischargeTimesOut rfl
    | holdTimerExpiry => exact ordinary_event (fun t => (acts_holdExpires t).kept) rfl
    | lidOpen x => exact ordinary_event (kept_lidOpens x) rfl
    | lidClose x => exact ordinary_event (kept_lidCloses x) rfl
    | estopActive => exact ordinary_event kept_estopRises rfl
    | estopClear => exact ordinary_event kept_estopFalls rfl
    | busyFall => exact ordinary_event (fun t => kept_ite (kept_busyFalls t) (.refl t)) rfl
    | busyRise => exact ordinary_event (fun t => kept_ite (.refl t) (kept_busyRises t)) rfl
    | acknowledgeTimerExpiry => exact ordinary_event kept_acknowledgeExpires rfl
    | faultRise => exact ordinary_event (fun t => kept_ite (.refl t) (kept_faultRises t)) rfl
    | faultFall => exact ordinary_event (fun t => kept_ite (kept_faultFalls t) (.refl t)) rfl
    | _ => cases hq

/-! ## The reset lines -/

theorem stays_powerOn (build : BuildMax) (s : State) : Stays s (powerOn build s) where
  pending := rfl
  image _ := imageWf_nil
  apart _ := matrix_reset_apart s.matrix.hot
  served _ _ := ⟨rfl, rfl⟩
  rising _ p := by cases p <;> exact stackRises_nil
  alarm _ := nofun
  limits _ := limits_of_reset rfl rfl
  serials _ := serials_of_reset fun x => by cases x <;> rfl
  settles _ := settles_of_reset fun x => by cases x <;> rfl
  sums _ x := by cases x <;> rfl
  banks _ x := by cases x <;> exact bankMatches_of_noRecord rfl
  work _ p r hr := by cases p <;> cases hr
  asks _ := (asksSettled_iff _).mpr ⟨hv_reset_asks _ _ _, fun _ => rfl⟩
  tickets _ := (queueOrdered_iff _).mpr ⟨ticketsOrdered_reset rfl fun x => by cases x <;> exact ⟨rfl, rfl⟩, fun _ => rfl⟩

theorem stays_lineReset (build : BuildMax) (s : State) : Stays s (lineReset build s) := by
  unfold lineReset
  split
  · next on =>
    have before : s.inReset = true := by simp [State.inReset, on]
    exact
      { Stays.refl s with
        limits := fun _ => limits_of_reset rfl rfl
        asks := fun _ => (asksSettled_iff _).mpr ⟨hv_reset_asks _ _ _, fun _ => rfl⟩
        tickets := fun ⟨distinct, head, behind, others, recording, held⟩ =>
          ⟨distinct, head, behind, others, recording, fun _ => held before⟩ }
  · exact
      { pending := rfl
        image := fun h => (congrArg imageWf (store_kept_words _ _)).trans h
        apart := fun _ => matrix_reset_apart s.matrix.hot
        served := fun _ _ => ⟨rfl, rfl⟩
        rising := fun _ p => by cases p <;> exact stackRises_nil
        alarm := fun _ h => by rw [show _ = false from store_kept_active _ _] at h; cases h
        limits := fun _ => limits_of_reset rfl rfl
        serials := fun h x => by cases x <;> first | exact h .a | exact h .b
        settles := fun _ => settles_of_reset fun x => by cases x <;> rfl
        sums := fun h x => by cases x <;> first | exact h .a | exact h .b
        banks := fun _ x => by cases x <;> exact bankMatches_of_noRecord rfl
        work := fun _ p r hr => by cases p <;> cases hr
        asks := fun _ => (asksSettled_iff _).mpr ⟨hv_reset_asks _ _ _, fun _ => rfl⟩
        tickets := fun _ => (queueOrdered_iff _).mpr
          ⟨ticketsOrdered_reset rfl fun x => by cases x <;> exact ⟨rfl, rfl⟩, fun _ => rfl⟩ }

/-- With nobody in line nobody asks. -/
theorem Hv.AsksOrdered.quiet {h k : Hv} (o : h.AsksOrdered) (empty : h.line = []) (line : k.line = h.line)
    (asks : ∀ x, k.asks x = h.asks x) : k.AsksOrdered := by
  have silent (x : Station) : h.asks x = false := by
    have := o.line x
    rw [empty] at this
    simpa using this
  exact ⟨line ▸ o.once, fun x => by rw [line, asks]; exact o.line x, fun _ x hx => by rw [asks, silent x] at hx; cases hx⟩

/-- The inputs taken at the end of a reset move none of the invariants: nobody asks in a reset and nothing prints. -/
theorem stays_takeInputs (i : Inputs) {s u : State} (held : s.inReset = true)
    (lines : u = { s with porn := u.porn, linerst := u.linerst }) : Stays s (takeInputs i u) := by
  have empty (h : AsksSettled s) : s.hv.line = [] := h.held held
  have none (h : QueueOrdered s) : s.printer.queue = [] := h.held held
  rw [lines]
  exact
    { Stays.refl s with
      asks := fun h => (asksSettled_iff _).mpr
        ⟨((asksSettled_iff s).mp h).1.quiet (empty h) rfl fun _ => rfl, fun _ => empty h⟩
      tickets := fun h => (queueOrdered_iff _).mpr
        ⟨by
          have o := ((queueOrdered_iff s).mp h).1
          rw [show s.ticketsOrdered ↔ TicketsOrdered s.tickets s.bankState s.runBank from Iff.rfl, State.tickets, none h] at o
          exact o, fun _ => rfl⟩ }

theorem Stays.trans {s t u : State} (h : Stays s t) (k : Stays t u) : Stays s u where
  pending := k.pending.trans h.pending
  image := k.image ∘ h.image
  apart := k.apart ∘ h.apart
  served := k.served ∘ h.served
  rising := k.rising ∘ h.rising
  alarm := k.alarm ∘ h.alarm
  limits := k.limits ∘ h.limits
  serials := k.serials ∘ h.serials
  settles := k.settles ∘ h.settles
  sums := k.sums ∘ h.sums
  banks := k.banks ∘ h.banks
  work := k.work ∘ h.work
  asks := k.asks ∘ h.asks
  tickets := k.tickets ∘ h.tickets

theorem releaseLine_lines (l : ResetLine) (s : State) :
    releaseLine l s = { s with porn := (releaseLine l s).porn, linerst := (releaseLine l s).linerst } := by
  cases l <;> rfl

theorem stays_endReset (l : ResetLine) (i : Inputs) {s : State} (asserted : lineAsserted l s = true) : Stays s (endReset l i s) := by
  have held : s.inReset = true := by cases l <;> simp_all [lineAsserted, State.inReset]
  unfold endReset
  dsimp only
  split
  · have inputs := stays_takeInputs i held (releaseLine_lines l s)
    rw [releaseLine_lines l s]
    exact
      { Stays.refl s with
        asks := fun ⟨once, line, granted, quiet⟩ => ⟨once, line, granted, fun _ => quiet held⟩
        tickets := fun ⟨distinct, head, behind, others, recording, quiet⟩ =>
          ⟨distinct, head, behind, others, recording, fun _ => quiet held⟩ }
  · next running =>
    refine (stays_takeInputs i held (releaseLine_lines l s)).trans ((kept_clearingPass _).stays fun on => ?_)
    exact absurd on running

/-- Every command completes, and keeps what every command keeps. -/
theorem exec_stays (i : Instr) (s : State) : ∃ t, exec i s = .next t ∧ Stays s t := by
  by_cases h1 : ∃ b, i = .powerOnReset b
  · obtain ⟨b, rfl⟩ := h1
    refine ⟨_, rfl, ?_⟩
    split
    · exact .refl s
    · exact stays_powerOn b s
  by_cases h2 : ∃ b, i = .lineReset b
  · obtain ⟨b, rfl⟩ := h2
    refine ⟨_, rfl, ?_⟩
    split
    · exact .refl s
    · exact stays_lineReset b s
  by_cases h3 : ∃ l v, i = .resetEnd l v
  · obtain ⟨l, v, rfl⟩ := h3
    refine ⟨_, rfl, ?_⟩
    split
    · next h => exact stays_endReset l v h
    · exact .refl s
  obtain ⟨t, e, k, still⟩ := ordinary i s (not_exists.mp h1) (not_exists.mp h2) fun l v e => h3 ⟨l, v, e⟩
  refine ⟨t, e, ?_⟩
  rcases k with k | ⟨-, k⟩
  · exact k.stays still
  · exact Stays.of_supervised (k.stays still)

theorem step_cons {s : State} {i : Instr} {rest : List Instr} (h : s.pending = i :: rest) :
    step s = exec i { s with pending := rest } := by
  unfold step
  rw [h]

theorem step_nil {s : State} (h : s.pending = []) : step s = .next s := by
  unfold step
  rw [h]

/-- What every step keeps, the queue of commands aside. -/
theorem step_stays {s t : State} (h : step s = .next t) :
    ∃ rest, Stays { s with pending := rest } t := by
  cases hp : s.pending with
  | nil =>
    rw [step_nil hp] at h
    cases h
    exact ⟨s.pending, .refl s⟩
  | cons i rest =>
    rw [step_cons hp] at h
    obtain ⟨u, e, k⟩ := exec_stays i { s with pending := rest }
    rw [e] at h
    cases h
    exact ⟨rest, k⟩

/-! ## The statements about every step -/

/-- Settles O1, by the step's match on the queue. -/
theorem stepTakesFront : Obligations.StepTakesFront := ⟨fun _ _ _ => step_cons, fun _ => step_nil⟩

/-- Settles O2, by what every command keeps. -/
theorem commandsKeepQueue : Obligations.CommandsKeepQueue := fun i s => by
  obtain ⟨t, e, k⟩ := exec_stays i s
  exact ⟨t, e, k.pending⟩

/-- Settles O3, by what every command keeps. -/
theorem imageStaysCanonical : Obligations.ImageStaysCanonical := fun s t h e => by
  obtain ⟨_, k⟩ := step_stays e
  exact k.image h

/-- Settles O4: every act of the work keeps the relays apart and ends with the chain serving what waits. -/
theorem chainStaysSafe : Obligations.ChainStaysSafe := fun s t e => by
  obtain ⟨_, k⟩ := step_stays e
  exact ⟨k.apart, k.served⟩

/-- Settles O5: the stacks move only by a push above the top and a pop, and the alarm's flag is cleared only with the alarm. -/
theorem noticesStayOrdered : Obligations.NoticesStayOrdered := fun s t e => by
  obtain ⟨_, k⟩ := step_stays e
  exact ⟨fun h => ⟨k.rising h, fun p => (k.rising h p).length_le⟩, k.alarm⟩

/-- Settles O6, by what every command keeps. -/
theorem countsStayInRange : Obligations.CountsStayInRange := fun s t e => by
  obtain ⟨_, k⟩ := step_stays e
  exact ⟨k.limits, k.serials, k.settles, k.sums, k.banks, k.work⟩

/-- Settles O8: asks and tickets are kept by every act, and an ordered queue names each of the four banks at most once. -/
theorem queuesStayOrdered : Obligations.QueuesStayOrdered := fun s t e => by
  obtain ⟨_, k⟩ := step_stays e
  refine ⟨fun ⟨once, line, granted, held⟩ => k.asks ⟨once, line, granted, held⟩,
    fun ⟨distinct, head, behind, others, recording, held⟩ => ?_⟩
  have ordered := k.tickets ⟨distinct, head, behind, others, recording, held⟩
  refine ⟨ordered, ?_⟩
  simpa [State.tickets] using ((queueOrdered_iff t).mp ordered).1.length_le

/-! ## The reset state -/

theorem clearingLoad_apart : clearingLoad.contents.relays.Apart := allOpen_apart

theorem reset_apart : RelaysApart State.reset :=
  ⟨fun _ (h : none = some _) => absurd h nofun, fun l (h : some clearingLoad = some l) => Option.some.inj h ▸ clearingLoad_apart,
    fun x r hr => by cases x <;> exact absurd hr nofun, fun x => by cases x <;> exact allOpen_apart⟩

/-- With no energisation, no holder, no step and every engine idle the source is safe. -/
theorem sourceSafe_of_quiet {s : State} (energ : s.hv.energ = none) (holder : s.hv.holder = none) (off : s.hv.source = .off)
    (sw : s.hv.sw = .off) (latch : s.hv.latch = none) (release : s.hv.releasePending = false) (timer : s.hv.holdTimer = none)
    (bench : ∀ x, (s.bench x).run = .noRun ∧ (s.bench x).wait = .nothing ∧ (s.bench x).queued = none)
    (part : ∀ x, (s.trunk x).part ≠ .deviceAllOpen) : SourceSafe s := by
  have inactive (x : Station) : ¬ StepActive (s.bench x) := by simp [StepActive, (bench x).1]
  have idle (x : Station) : (s.bench x).wait ≠ .energisation := by simp [(bench x).2.1]
  exact
    { energ := by simp [energ]
      quiet := fun _ => .inl ⟨off, sw⟩
      latched := by simp [latch, off]
      switch := by simp [sw]
      pending := by simp [release]
      holding := by simp [holder]
      working := by simp [energ]
      waiting := fun x h => absurd h (idle x)
      stepping := fun x h => absurd h (inactive x)
      queued := fun x st h => by simp [(bench x).2.2] at h
      recorded := fun x h => absurd (bench x).1 h
      settled := fun x h => absurd h (idle x)
      reset := fun x h => absurd h (part x)
      timer := by simp [timer]
      held := fun _ => holder }

/-- Settles O9: every block of the reset state stands at its power-on values, but for the clearing load on the chain. -/
theorem resetMeetsInvariants : Obligations.ResetMeetsInvariants := by
  refine ⟨imageWf_nil, reset_apart, fun _ => ⟨rfl, rfl⟩, fun p => ?_, nofun, fun x => ?_, fun x => ?_, limits_of_reset rfl rfl,
    serials_of_reset fun x => ?_, settles_of_reset fun x => ?_, fun p r hr => ?_,
    sourceSafe_of_quiet rfl rfl rfl rfl rfl rfl rfl (fun x => ?_) fun x => ?_,
    (asksSettled_iff _).mpr ⟨hv_reset_asks _ _ _, fun _ => rfl⟩,
    (queueOrdered_iff _).mpr ⟨ticketsOrdered_reset rfl fun x => ?_, fun _ => rfl⟩⟩
  · cases p <;> exact stackRises_nil
  · cases x <;> rfl
  · cases x <;> exact bankMatches_of_noRecord rfl
  · cases x <;> rfl
  · cases x <;> rfl
  · cases p <;> cases hr
  · cases x <;> exact ⟨rfl, rfl, rfl⟩
  · cases x <;> exact nofun
  · cases x <;> exact ⟨rfl, rfl⟩

end Sys2Proof.Machine

/-! Requests on a ready port: a request row and its frame, and the answer of a block as the answer of the port. -/

namespace Sys2Proof.Machine

/-! ## A request row is its frame (R175) -/

/-- The two bytes of a word, high byte first, are read back. -/
theorem word16_extract (w : Word16) : word16 (w.extractLsb' 8 8) (w.extractLsb' 0 8) = w := by
  have h := wordsOf_bytesOf [w]
  simpa [bytesOf, be16, wordsOf] using h

/-- The four bytes of a value, high byte first, are read back. -/
theorem word32_extract (v : BitVec 32) :
    word32 (v.extractLsb' 24 8) (v.extractLsb' 16 8) (v.extractLsb' 8 8) (v.extractLsb' 0 8) = v := by
  refine BitVec.eq_of_getLsbD_eq fun i hi => ?_
  simp only [word32, BitVec.getLsbD_append, BitVec.getLsbD_extractLsb']
  by_cases h8 : i < 8
  · simp [h8]
  by_cases h16 : i < 16
  · simp [h8, show i - 8 < 8 by omega, show 8 + (i - 8) = i by omega]
  by_cases h24 : i < 24
  · simp [h8, show ¬ i - 8 < 8 by omega, show i - 8 - 8 < 8 by omega, show 16 + (i - 8 - 8) = i by omega]
  · simp [h8, show ¬ i - 8 < 8 by omega, show ¬ i - 8 - 8 < 8 by omega, show i - 8 - 8 - 8 < 8 by omega,
      show 24 + (i - 8 - 8 - 8) = i by omega]

/-- The payload of a request spells it. -/
theorem parseRequest_payload (r : Request) : parseRequest r.code r.payload = some r := by
  cases r <;>
    simp [parseRequest, Request.code, Request.payload, args0, args1, args2, args3, args4, argsSerial, argsImage, argsInsulation,
      be16, be32, word16_extract, word32_extract, wordsOf_bytesOf]

/-- The payload of a request that can be given fits a frame. -/
theorem payload_length_le {r : Request} (h : r.wf = true) : r.payload.length ≤ 248 := by
  cases r with
  | writeImage a ws =>
    have words : ws.length ≤ 123 := of_decide_eq_true h
    simp only [Request.payload, List.length_append, bytesOf_length, be16, List.length_cons, List.length_nil]
    omega
  | _ => simp [Request.payload, be16, be32]

theorem code_ne_zero (r : Request) : r.code ≠ 0 := fun e => by
  obtain ⟨c, hc⟩ := codeClass_code r
  rw [e] at hc
  cases hc

/-- The bytes of a request's frame are judged as the request is. -/
theorem judgeBytes_frame {p : Port} {r : Request} (h : r.wf = true) : judgeBytes p r.frame = judgeRequest p r := by
  have fits := payload_length_le h
  have len : (BitVec.ofNat 8 r.payload.length).toNat = r.payload.length := by rw [BitVec.toNat_ofNat]; omega
  simp [judgeBytes, judgeRequest, Request.frame, parseRequest_payload, len, fits, h]

theorem periodEnds_frame {p : Port} {r : Request} (h : r.wf = true) (s : State) : periodEnds p r.frame s = submit p r s := by
  simp only [periodEnds, Request.frame, if_neg (code_ne_zero r), submit]
  rw [← judgeBytes_frame h]
  rfl

/-- Settles O10: a frame's bytes are judged as its request, and both end the same period. -/
theorem requestRowIsFrame : Obligations.RequestRowIsFrame := fun i p r s hi hw => by
  have fits : r.wf = true := by simpa [Instr.wf, hi] using hw
  rw [exec_request hi s]
  show _ = Host.Outcome.next (atRise p (periodEnds p r.frame) s)
  rw [show periodEnds p r.frame = submit p r from funext (periodEnds_frame fits)]

/-! ## The answer of a ready port -/

/-- The state with the period of port p ended. -/
def ended (p : Port) (s : State) : State := s.setPort p (s.port p).endPeriod

/-- Port p may issue the request, which its block answers. -/
def Taken (p : Port) (r : Request) : Prop :=
  (∃ c, codeClass r.code = some c ∧ c.holds p = true) ∧ r.wf = true ∧ r ≠ .resetDevice ∧ r ≠ .stationReset

theorem exec_handOn {s : State} {i : Instr} {p : Port} {r : Request} (hi : i.request? = some (p, r)) (h : Ready s p)
    (taken : Taken p r) : exec i s = .next (handOn p r (ended p s)) := by
  obtain ⟨⟨c, hc, hp⟩, hw, h1, h2⟩ := taken
  rw [exec_request hi, atRise_running _ _ h.1, submit_ready h hc hp hw h1 h2]
  rfl

/-- A request that its block answers is answered by its port, on the state that the block leaves. -/
theorem exec_served {s t : State} {i : Instr} {p : Port} {r : Request} {c : Byte} {a : Reply} (hi : i.request? = some (p, r))
    (hc : r.code = c) (h : Ready s p) (taken : Taken p r) (served : serve p r (ended p s) = (ended p t, some a)) :
    exec i s = .next (answered p c a.status a.clamped a.more a.payload t) := by
  subst hc
  rw [exec_handOn hi h taken]
  exact congrArg _ (handOn_endPeriod_of_serve served)

/-- A block's answer with the state it leaves, in the terms of the port. -/
theorem exec_replied {s : State} {i : Instr} {p : Port} {r : Request} {c : Byte} {a : Reply} (hi : i.request? = some (p, r))
    (hc : r.code = c) (h : Ready s p) (taken : Taken p r) (served : (serve p r (ended p s)).2 = some a) :
    exec i s = .next (respond p c a (serve p r (ended p s)).1) := by
  subst hc
  rw [exec_handOn hi h taken]
  simp only [handOn, served]

/-- A request that a port may not issue is refused by the port. -/
theorem exec_notPermitted {s : State} {i : Instr} {p : Port} {r : Request} {c : Byte} {k : PortClass}
    (hi : i.request? = some (p, r)) (hc : r.code = c) (h : Ready s p) (hk : codeClass r.code = some k) (hp : k.holds p = false)
    (hw : r.wf = true) : exec i s = .next (plainly p c .notPermitted s) := by
  subst hc
  rw [exec_request hi, atRise_running _ _ h.1, submit_notPermitted h hk hp hw]

/-- A request that any port may issue. -/
theorem taken_any {p : Port} {r : Request} (hc : codeClass r.code = some .any) (hw : r.wf = true) : Taken p r := by
  refine ⟨⟨_, hc, rfl⟩, hw, ?_, ?_⟩ <;> rintro rfl <;> cases hc

/-- A request of port PS alone. -/
theorem taken_ps {r : Request} (hc : codeClass r.code = some .supervisor) (hw : r.wf = true) (h : r ≠ .resetDevice) :
    Taken .ps r := by
  refine ⟨⟨_, hc, rfl⟩, hw, h, ?_⟩
  rintro rfl
  cases hc

/-- A request of a station port. -/
theorem taken_station {x : Station} {r : Request} (hc : codeClass r.code = some .station) (hw : r.wf = true)
    (h : r ≠ .stationReset) : Taken x.port r := by
  refine ⟨⟨_, hc, by cases x <;> rfl⟩, hw, ?_, h⟩
  rintro rfl
  cases hc

theorem station_port (x : Station) : x.port.station? = some x := by cases x <;> rfl

theorem ofStation_port (x : Station) (s : State) (f : Station → Served) : ofStation x.port s f = f x := by
  simp only [ofStation, station_port]

theorem withStation_named (x : Station) (s : State) (f : Station → Served) : withStation (stationByte x) s f = f x := by
  simp only [withStation, stationOf_stationByte]

theorem withStation_unnamed {v : Byte} (h0 : v ≠ 0) (h1 : v ≠ 1) (s : State) (f : Station → Served) :
    withStation v s f = same .badArgument s := by
  simp only [withStation, stationOf_none h0 h1]

end Sys2Proof.Machine

/-! The requests that a block answers from its own fields: the reference store, the reads, the serials, the limits and the notices. -/

namespace Sys2Proof.Machine

/-! ## The blocks of a state whose period has ended -/

section
variable (p : Port) (s : State)

@[simp] theorem ended_inReset : (ended p s).inReset = s.inReset := rfl
@[simp] theorem ended_cause : (ended p s).cause = s.cause := rfl
@[simp] theorem ended_matrix : (ended p s).matrix = s.matrix := rfl
@[simp] theorem ended_store : (ended p s).store = s.store := rfl
@[simp] theorem ended_hv : (ended p s).hv = s.hv := rfl
@[simp] theorem ended_printer : (ended p s).printer = s.printer := rfl
@[simp] theorem ended_free : (ended p s).free = s.free := rfl
@[simp] theorem ended_bench (x : Station) : (ended p s).bench x = s.bench x := rfl
@[simp] theorem ended_channel (x : Station) : (ended p s).channel x = s.channel x := rfl
@[simp] theorem ended_trunk (x : Station) : (ended p s).trunk x = s.trunk x := rfl
@[simp] theorem ended_window (x : Station) : (ended p s).window x = s.window x := rfl
@[simp] theorem ended_unit (q : Port) : (ended p s).unit q = s.unit q := rfl
@[simp] theorem ended_hot (x : Station) : (ended p s).hot x = s.hot x := rfl
@[simp] theorem ended_runOpen (x : Station) : runOpen (ended p s) x = runOpen s x := rfl

end

/-! ## Kinds of answers -/

section
variable {s t : State} {i : Instr} {p : Port} {r : Request} {k : Byte}

/-- A plain answer of a block. -/
theorem exec_plainly {v : Status} (hi : i.request? = some (p, r)) (hk : r.code = k) (h : Ready s p) (taken : Taken p r)
    (served : serve p r (ended p s) = (ended p t, some (.plain v))) : exec i s = .next (plainly p k v t) :=
  exec_served hi hk h taken served

/-- A refusal of a block, or an answer that changes nothing. -/
theorem exec_same {v : Status} (hi : i.request? = some (p, r)) (hk : r.code = k) (h : Ready s p) (taken : Taken p r)
    (served : serve p r (ended p s) = same v (ended p s)) : exec i s = .next (plainly p k v s) :=
  exec_plainly hi hk h taken served

/-- An answer of a block with a payload. -/
theorem exec_data {d : Payload} (hi : i.request? = some (p, r)) (hk : r.code = k) (h : Ready s p) (taken : Taken p r)
    (served : serve p r (ended p s) = (ended p t, some (.data d))) :
    exec i s = .next (answered p k .ok false false d t) :=
  exec_served hi hk h taken served

/-- An answer of a block with the CLAMPED flag. -/
theorem exec_clamped {c : Bool} (hi : i.request? = some (p, r)) (hk : r.code = k) (h : Ready s p) (taken : Taken p r)
    (served : serve p r (ended p s) = (ended p t, some (.okClamped c))) :
    exec i s = .next (answered p k .ok c false .empty t) :=
  exec_served hi hk h taken served

end

/-! ## The reference store (R29 to R33) -/

theorem serveBeginLoad_loading {s : State} (h : s.store.state = .loading) : serveBeginLoad s = same .ok s := by
  simp only [serveBeginLoad, h]

theorem serveBeginLoad_checking {s : State} (h : s.store.state = .checking) : serveBeginLoad s = same .busy s := by
  simp only [serveBeginLoad, h]

theorem anyRunOpen_iff (s : State) : anyRunOpen s = true ↔ runOpen s .a = true ∨ runOpen s .b = true := by
  simp only [anyRunOpen, Bool.or_eq_true]

/-- In EMPTY, VALID and FAULTED a load is refused while a run is open. -/
theorem serveBeginLoad_runOpen {s : State} (h : s.store.state = .empty ∨ s.store.state = .valid ∨ s.store.state = .faulted)
    (run : anyRunOpen s = true) : serveBeginLoad s = same .runOpen s := by
  rcases h with h | h | h <;> simp only [serveBeginLoad, h, run, if_true]

/-- Else it opens the store, empty of words where it was EMPTY. -/
theorem serveBeginLoad_opens {s : State} (h : s.store.state = .empty ∨ s.store.state = .valid ∨ s.store.state = .faulted)
    (run : anyRunOpen s = false) :
    serveBeginLoad s =
      (s.setStore { s.store with
        words := if s.store.state = .empty then [] else s.store.words, state := .loading, passed := false }, some (.plain .ok)) := by
  rcases h with h | h | h <;> simp [serveBeginLoad, h, run]

/-- Settles O25, by the states of the store. -/
theorem loadsOpenAndClose : Obligations.LoadsOpenAndClose := fun s ready => by
  refine ⟨fun h => ?_, fun h => ?_, fun h => ⟨fun run => ?_, fun ra rb => ?_⟩, fun h => ?_, fun h => ?_, fun h => ?_, fun h => ?_,
    fun h => ?_, ?_⟩
  · exact exec_same rfl rfl ready (taken_ps rfl rfl nofun) (serveBeginLoad_loading h)
  · exact exec_same rfl rfl ready (taken_ps rfl rfl nofun) (serveBeginLoad_checking h)
  · exact exec_same rfl rfl ready (taken_ps rfl rfl nofun) (serveBeginLoad_runOpen h ((anyRunOpen_iff s).mpr run))
  · have none : anyRunOpen s = false := by simp [anyRunOpen, ra, rb]
    exact exec_plainly (t := s.setStore _) rfl rfl ready (taken_ps rfl rfl nofun) (serveBeginLoad_opens h none)
  · exact exec_plainly (t := s.setStore _) rfl rfl ready (taken_ps rfl rfl nofun) (if_pos h)
  · exact exec_same rfl rfl ready (taken_ps rfl rfl nofun) (if_neg h)
  · refine exec_plainly (t := s.setStore _) rfl rfl ready (taken_ps rfl rfl nofun) ?_
    simp only [serve, serveAbandonLoad, ended_store, h]
    rfl
  · refine exec_same rfl rfl ready (taken_ps rfl rfl nofun) ?_
    simp only [serve, serveAbandonLoad, ended_store, h]
  · refine exec_same rfl rfl ready (taken_ps rfl rfl nofun) ?_
    rcases h with h | h | h <;> simp only [serve, serveAbandonLoad, ended_store, h]
  · exact exec_plainly (t := s.setStore _) rfl rfl ready (taken_ps rfl rfl nofun) rfl

/-- Settles O26: the writes word by word, on an image in canonical form. -/
theorem imageWritten : Obligations.ImageWritten := fun s start words ready canonical fits => by
  have taken : Taken .ps (.writeImage start words) := taken_ps rfl (decide_eq_true fits) nofun
  refine ⟨fun h => exec_same rfl rfl ready taken (if_pos h), fun h many => exec_same rfl rfl ready taken ?_,
    fun h far => exec_same rfl rfl ready taken ?_, fun h few near => ⟨imageWriteAll s.store.words start.toNat words, ?_, ?_, ?_⟩⟩
  · simp [serve, serveWriteImage, h, many]
  · simp [serve, serveWriteImage, h, Config.imageWords, far]
  · refine exec_plainly (t := s.setStore _) rfl rfl ready taken ?_
    have passes : ¬ (120 < words.length ∨ Config.imageWords < start.toNat + words.length) := by
      simp only [Config.imageWords]
      omega
    simp only [serve, serveWriteImage, ended_store, h, ne_eq, not_true_eq_false, if_false, passes]
    rfl
  · exact fun k hk => imageRead_imageWriteAll_in words k canonical near hk
  · exact fun a ha => imageRead_imageWriteAll_out words canonical near ha

/-- A count and a range that READ IMAGE takes. -/
theorem readImage_inRange {start : Word16} {count : Byte} (h1 : 1 ≤ count.toNat) (h2 : count.toNat ≤ 120)
    (h3 : start.toNat + count.toNat ≤ 8208) :
    ¬ (count = 0 ∨ 120 < count.toNat ∨ Config.imageWords < start.toNat + count.toNat) := by
  rintro (rfl | h | h)
  · exact absurd h1 (by decide)
  · omega
  · exact absurd h (by simp only [Config.imageWords]; omega)

/-- Settles O27, by the states of the store; in CHECKING the request stays in its slot. -/
theorem imageReads : Obligations.ImageReads := fun s p start count ready => by
  have taken : Taken p (.readImage start count) := taken_any rfl rfl
  refine ⟨fun h => exec_same rfl rfl ready taken (if_pos ?_), fun h1 h2 h3 => ⟨fun h => exec_same rfl rfl ready taken ?_, fun h => ?_,
    fun h => exec_data rfl rfl ready taken ?_⟩⟩
  · rcases h with h | h | h
    · exact .inl (BitVec.eq_of_toNat_eq h)
    · exact .inr (.inl h)
    · exact .inr (.inr h)
  · simp only [serve, serveReadImage, if_neg (readImage_inRange h1 h2 h3), ended_store, h]
  · have waits : serve p (.readImage start count) (ended p s) = (ended p s, none) := by
      simp only [serve, serveReadImage, if_neg (readImage_inRange h1 h2 h3), ended_store, h]
    rw [exec_handOn (r := .readImage start count) rfl ready taken]
    simp only [handOn, waits, leftWaiting]
    simp [ended, PortState.endPeriod]
  · rcases h with h | h | h <;> simp only [serve, serveReadImage, if_neg (readImage_inRange h1 h2 h3), ended_store, h] <;> rfl

/-! ## Serials and counters (R76, R77) -/

/-- Settles O38: the block clamps and writes its own field. -/
theorem serialsAndCounters : Obligations.SerialsAndCounters := by
  have range : 1 ≤ 999999 := by decide
  refine ⟨fun s x v ready => ?_, fun s x ready => ?_, fun s p x ready => ?_, fun s a v ready h0 h1 => ⟨?_, ?_, ?_⟩⟩
  · refine exec_clamped (t := s.setBench x _) rfl rfl ready (taken_ps rfl rfl nofun) ?_
    simp only [serve, serveSetSerial, withStation_named, clampTo_ne_iff range]
    rw [clampTo_eq_max_min range]
    rfl
  · refine exec_plainly (t := s.setBench x _) rfl rfl ready (taken_ps rfl rfl nofun) ?_
    simp only [serve, serveClearCounters, withStation_named]
    rfl
  · refine exec_data rfl rfl ready (taken_any rfl rfl) ?_
    simp only [serve, serveReadCounters, withStation_named]
    rfl
  · exact exec_same rfl rfl ready (taken_ps rfl rfl nofun) (withStation_unnamed h0 h1 _ _)
  · exact exec_same rfl rfl ready (taken_ps rfl rfl nofun) (withStation_unnamed h0 h1 _ _)
  · exact exec_same rfl rfl ready (taken_any rfl rfl) (withStation_unnamed h0 h1 _ _)

/-! ## Limits (R115) -/

theorem serveSetHvLimit_put {s : State} {n : Byte} {v : Word16} {l : Limits} {k : Nat}
    (h : s.hv.limits.put s.hv.build n.toNat v.toNat = some (l, k)) :
    serveSetHvLimit n v s = (s.setHv { s.hv with limits := l }, some (.okClamped (decide (k ≠ v.toNat)))) := by
  simp only [serveSetHvLimit, h]

/-- A named limit takes its clamped value. -/
theorem exec_setHvLimit {s : State} {n : Byte} {v : Word16} {l : Limits} {lo hi : Nat} (ready : Ready s .ps) (range : lo ≤ hi)
    (h : s.hv.limits.put s.hv.build n.toNat v.toNat = some (l, clampTo lo hi v.toNat)) :
    exec (.setHvLimit .ps n v) s =
      .next (answered .ps 0x41 .ok (decide (v.toNat < lo ∨ hi < v.toNat)) false .empty (s.setHv { s.hv with limits := l })) := by
  refine exec_clamped (t := s.setHv _) rfl rfl ready (taken_ps rfl rfl nofun) ?_
  simp only [serve, serveSetHvLimit_put (s := ended .ps s) h, clampTo_ne_iff range]
  rfl

theorem Limits.put_none {l : Limits} {b : BuildMax} {n v : Nat} (h : 4 < n) : l.put b n v = none := by
  simp only [Limits.put, show n ≠ 0 by omega, show n ≠ 1 by omega, show n ≠ 2 by omega, show n ≠ 3 by omega, show n ≠ 4 by omega,
    if_false]

/-- Settles O42, limit by limit. -/
theorem limitsSet : Obligations.LimitsSet := fun s v ready => by
  refine ⟨fun c hc => ?_, ?_, ?_, ?_, ?_, fun n hn => ?_⟩
  · subst hc
    exact exec_clamped (t := s.setHv _) rfl rfl ready (taken_ps rfl rfl nofun) (serveSetHvLimit_put (s := ended .ps s) (n := 0) rfl)
  · rw [← clampTo_eq_max_min (by decide)]
    exact exec_setHvLimit ready (by decide) rfl
  · rw [← clampTo_eq_max_min (by decide)]
    exact exec_setHvLimit ready (by decide) rfl
  · rw [← clampTo_eq_max_min (by decide)]
    exact exec_setHvLimit ready (by decide) rfl
  · rw [← clampTo_eq_max_min (by decide)]
    exact exec_setHvLimit ready (by decide) rfl
  · refine exec_same rfl rfl ready (taken_ps rfl rfl nofun) ?_
    simp only [serve, serveSetHvLimit, Limits.put_none hn]

/-! ## Reads -/

/-- READ CHANNEL shows the channel's report. -/
theorem exec_readChannel {s : State} {p : Port} (ready : Ready s p) (x : Station) :
    exec (.readChannel p (stationByte x)) s =
      .next (answered p 0x28 .ok false false (.channel (channelReport (s.channel x))) s) := by
  refine exec_data rfl rfl ready (taken_any rfl rfl) ?_
  simp only [serve, serveReadChannel, withStation_named]
  rfl

/-- Settles O32: the report binds the last result to its value in ohms. -/
theorem groupOhmsRounded : Obligations.GroupOhmsRounded := by
  refine ⟨fun s p x v ready h => ⟨_, exec_readChannel ready x, rfl, ?_, fun hv => ?_⟩, fun s p x ready h =>
    ⟨_, exec_readChannel ready x, ?_⟩, fun w e v h => ?_⟩
  · rcases h with h | h <;> simp only [channelReport, h, Option.bind_some] <;> rfl
  · omega
  · simp only [channelReport, h, Option.bind_some]
    rfl
  · simp only [Sweep.leakGroup, h, Option.map_some, groupOhms]

/-- Settles O59, by the two relays of a point. -/
theorem pointsRead : Obligations.PointsRead := fun s p first count ready => by
  have taken : Taken p (.readPoints first count) := taken_any rfl rfl
  have passes (h1 : 1 ≤ count.toNat) (h2 : count.toNat ≤ 240) (h3 : first.toNat + count.toNat ≤ 2048) :
      ¬ (count = 0 ∨ 240 < count.toNat ∨ 2048 < first.toNat + count.toNat) := by
    rintro (rfl | h | h)
    · exact absurd h1 (by decide)
    · omega
    · omega
  refine ⟨fun h => exec_same rfl rfl ready taken (if_pos ?_), fun h1 h2 h3 => ⟨fun h => exec_same rfl rfl ready taken ?_, fun m h => ?_⟩⟩
  · rcases h with h | h | h
    · exact .inl (BitVec.eq_of_toNat_eq h)
    · exact .inr (.inl h)
    · exact .inr (.inr h)
  · simp only [serve, serveReadPoints, passes h1 h2 h3, if_false, ended_matrix, h]
  · refine ⟨(List.range count.toNat).map (fun i => m.relays.point (first.toNat + i)), exec_data rfl rfl ready taken ?_, by simp,
      fun k hk => ?_⟩
    · simp only [serve, serveReadPoints, passes h1 h2 h3, if_false, ended_matrix, h]
      rfl
    · have at_k : ((List.range count.toNat).map (fun i => m.relays.point (first.toNat + i)))[k]? =
          some (m.relays.point (first.toNat + k)) := by simp [hk]
      refine ⟨fun hd hr => ?_, fun hd hr => ?_, fun hd hr => ?_⟩ <;> rw [at_k] <;> simp only [Relays.point, hd, hr]

/-- Settles O60: each answer is its block's report, and only READ HV takes a free value. -/
theorem readsAnswer : Obligations.ReadsAnswer := fun s p x ready => by
  refine ⟨exec_data rfl rfl ready (taken_any rfl rfl) rfl, ⟨_, exec_data rfl rfl ready (taken_any rfl rfl) rfl, rfl, rfl, rfl, rfl, rfl, ?_, ?_, ?_⟩,
    ⟨statusReport s x, exec_data rfl rfl ready (taken_any rfl rfl) ?_, rfl, rfl, rfl, rfl, fun h => if_pos h⟩,
    ⟨_, exec_readChannel ready x, rfl, rfl, rfl, rfl, rfl, rfl, ?_, ?_, ?_, ?_⟩,
    ⟨hvReport s, if s.hv.holdTimer.isSome then s.free + 1 else s.free, exec_data rfl rfl ready (taken_any rfl rfl) ?_, rfl, rfl, rfl, rfl,
      rfl, rfl, rfl, rfl, rfl, rfl, rfl, ?_, ?_⟩,
    ⟨_, exec_data rfl rfl ready (taken_any rfl rfl) rfl, rfl, rfl, rfl, rfl, rfl, rfl, rfl⟩⟩
  · exact fun h => if_pos h
  · exact fun h => if_pos (.inl h)
  · rintro (h | h | h) <;> simp [referenceReport, headerSummary, h]
  · simp only [serve, serveReadStatus, withStation_named]
    rfl
  · exact fun v k h => by simp only [channelReport, h]; rfl
  · exact fun h => by simp only [channelReport, h]; rfl
  · exact fun v h => by simp only [channelReport, h]; rfl
  · exact fun o h => by simp only [channelReport, h]; rfl
  · cases running : s.hv.holdTimer.isSome <;> simp only [serve, serveReadHv, ended_hv, running, if_true] <;> rfl
  · simp only [hvReport, holdTimeLeft, Option.isSome_map]
  · exact fun t h => ⟨t - Config.holdTimeGone s.free, by simp only [hvReport, holdTimeLeft, h, Option.map_some], Nat.sub_le _ _⟩

end Sys2Proof.Machine

/-! The notices: what TAKE NOTICE picks, what WRITE PENDING and CALL STATION write, and the settings of a unit. -/

namespace Sys2Proof.Machine

/-! ## The pick of TAKE NOTICE (R169) -/

/-- Source m comes no better than source n: of a lower level, or of the same level and not before it. -/
def Outranks (u : Attention) (n m : Nat) : Prop :=
  levelRank (sourceLevel u m) ≤ levelRank (sourceLevel u n) ∧
    (levelRank (sourceLevel u m) = levelRank (sourceLevel u n) → n ≤ m)

theorem Outranks.refl (u : Attention) (n : Nat) : Outranks u n n := ⟨le_rfl, fun _ => le_rfl⟩

theorem Outranks.trans {u : Attention} {k n m : Nat} (h : Outranks u k n) (g : Outranks u n m) : Outranks u k m := by
  unfold Outranks at *
  omega

theorem Outranks.antisymm {u : Attention} {n m : Nat} (h : Outranks u n m) (g : Outranks u m n) : n = m := by
  unfold Outranks at *
  omega

/-- Of two sources in ascending order the better one outranks both. -/
theorem betterSource_outranks (u : Attention) {m n : Nat} (h : m < n) :
    ∃ k, betterSource u (some m) n = some k ∧ (k = m ∨ k = n) ∧ Outranks u k m ∧ Outranks u k n := by
  unfold betterSource
  dsimp only
  split
  · next lt => exact ⟨n, rfl, .inr rfl, ⟨lt.le, fun e => absurd e lt.ne⟩, .refl u n⟩
  · next ge => exact ⟨m, rfl, .inl rfl, .refl u m, ⟨Nat.le_of_not_lt ge, fun _ => h.le⟩⟩

/-- Picking through an ascending list leaves one that outranks all of it. -/
theorem foldl_betterSource_outranks (u : Attention) (l : List Nat) (m : Nat) (rises : (m :: l).Pairwise (· < ·)) :
    ∃ k, l.foldl (betterSource u) (some m) = some k ∧ k ∈ m :: l ∧ ∀ j ∈ m :: l, Outranks u k j := by
  induction l generalizing m with
  | nil => exact ⟨m, rfl, by simp, fun j hj => by rw [List.mem_singleton.mp hj]; exact .refl u m⟩
  | cons n l ih =>
    obtain ⟨first, rest⟩ := List.pairwise_cons.mp rises
    obtain ⟨second, tail⟩ := List.pairwise_cons.mp rest
    obtain ⟨b, hb, which, overM, overN⟩ := betterSource_outranks u (first n (by simp))
    have next : (b :: l).Pairwise (· < ·) := by
      refine List.pairwise_cons.mpr ⟨fun j hj => ?_, tail⟩
      rcases which with rfl | rfl
      · exact first j (by simp [hj])
      · exact second j hj
    obtain ⟨k, hk, mem, best⟩ := ih b next
    refine ⟨k, by rw [List.foldl_cons, hb, hk], ?_, fun j hj => ?_⟩
    · rcases List.mem_cons.mp mem with rfl | mem
      · rcases which with rfl | rfl <;> simp
      · simp [mem]
    · rcases List.mem_cons.mp hj with rfl | hj
      · exact (best b (by simp)).trans overM
      · rcases List.mem_cons.mp hj with rfl | hj
        · exact (best b (by simp)).trans overN
        · exact best j (by simp [hj])

theorem mem_eligibles {u : Attention} {n : Nat} : n ∈ (List.range 16).filter (eligible u) ↔ n < 16 ∧ eligible u n = true := by
  simp [List.mem_filter]

/-- The source picked is the eligible one that outranks every eligible one. -/
theorem pickSource_eq {u : Attention} {n : Nat} (hn : n < 16) (en : eligible u n = true)
    (best : ∀ m, m < 16 → eligible u m = true → Outranks u n m) : pickSource u = some n := by
  have rises : ((List.range 16).filter (eligible u)).Pairwise (· < ·) := List.pairwise_lt_range.filter _
  have mem : n ∈ (List.range 16).filter (eligible u) := mem_eligibles.mpr ⟨hn, en⟩
  unfold pickSource
  cases hl : (List.range 16).filter (eligible u) with
  | nil => simp [hl] at mem
  | cons m l =>
    rw [hl] at rises mem
    obtain ⟨k, hk, kmem, kbest⟩ := foldl_betterSource_outranks u l m rises
    have keligible : k < 16 ∧ eligible u k = true := mem_eligibles.mp (hl ▸ kmem)
    have same : k = n := (kbest n mem).antisymm (best k keligible.1 keligible.2)
    rw [← same]
    exact hk

/-- With nothing eligible nothing is picked. -/
theorem pickSource_none {u : Attention} (h : ∀ n, n < 16 → eligible u n = false) : pickSource u = none := by
  have empty : (List.range 16).filter (eligible u) = [] := by
    refine List.filter_eq_nil_iff.mpr fun n hn => ?_
    simp [h n (List.mem_range.mp hn)]
  rw [pickSource, empty]
  rfl

/-- Settles O13: the pick outranks every eligible source, and the block takes it. -/
theorem takeNoticePicks : Obligations.TakeNoticePicks := fun s p ready => by
  refine ⟨fun n => eligible_iff _ _, fun n hn en best => ?_, fun none => ?_⟩
  · refine exec_data (t := s.setUnit p _) rfl rfl ready (taken_any rfl rfl) ?_
    simp only [serve, serveTakeNotice, ended_unit, pickSource_eq hn en best]
    rfl
  · refine exec_data rfl rfl ready (taken_any rfl rfl) ?_
    simp only [serve, serveTakeNotice, ended_unit, pickSource_none none]
    rfl

/-! ## WRITE PENDING and CALL STATION (R171) -/

theorem definedSources_getLsbD (p : Port) {n : Nat} (hn : n < 16) : (definedSources p).getLsbD n = sourceNamed p n := by
  cases p <;> interval_cases n <;> rfl

theorem sourceBit_getLsbD (k : Nat) {n : Nat} (hn : n < 16) : (sourceBit k).getLsbD n = decide (n = k) := by
  simp only [sourceBit, BitVec.getLsbD_shiftLeft, BitVec.getLsbD_one, hn]
  by_cases h : n = k
  · subst h; simp
  · by_cases lt : n < k
    · simp [lt, h]
    · simp [lt, h, show n - k ≠ 0 by omega]

theorem writtenPending_getLsbD (p : Port) (old enable values : Word16) (active : Bool) {n : Nat} (hn : n < 16) :
    (writtenPending p old enable values active).getLsbD n =
      if enable.getLsbD n && sourceNamed p n then values.getLsbD n || (decide (n = 15) && active && old.getLsbD n)
      else old.getLsbD n := by
  have alarm : (if active then old &&& sourceBit srcAlarm else 0).getLsbD n = (decide (n = 15) && active && old.getLsbD n) := by
    cases active with
    | false => simp
    | true => simp [srcAlarm, sourceBit_getLsbD 15 hn, Bool.and_comm]
  simp only [writtenPending, BitVec.getLsbD_or, BitVec.getLsbD_and, BitVec.getLsbD_not, hn, alarm, definedSources_getLsbD p hn]
  cases enable.getLsbD n && sourceNamed p n <;> cases old.getLsbD n <;> simp

theorem setUnit_unit (s : State) (p : Port) : s.setUnit p (s.unit p) = s := by cases p <;> rfl

/-- A raising sets the flag of a source whose level is not OFF, and else changes nothing (R166). -/
theorem raise_eq (p : Port) (n : Nat) (s : State) :
    raise p n s =
      if sourceLevel (s.unit p) n = .off then s
      else s.setUnit p { s.unit p with pending := (s.unit p).pending ||| sourceBit n } := by
  unfold raise raiseIn
  split
  · exact setUnit_unit s p
  · rfl

/-- Settles O15: the written set bit by bit, and CALL raised where its level is not OFF. -/
theorem pendingWritten : Obligations.PendingWritten := by
  refine ⟨fun s p enable values ready => ⟨writtenPending p (s.unit p).pending enable values s.store.active, ?_, fun n hn => ?_⟩,
    fun s x ready => ?_, fun s v ready h0 h1 => ?_, fun s p v ready hp => ?_⟩
  · exact exec_plainly (t := s.setUnit p _) rfl rfl ready (taken_any rfl rfl) rfl
  · exact writtenPending_getLsbD p _ enable values _ hn
  · refine (exec_plainly (t := raise x.port srcCall s) (r := .callStation (stationByte x)) (v := .ok) (k := 0x07) rfl rfl ready (taken_ps rfl rfl nofun) ?_).trans ?_
    · simp only [serve, serveCallStation, withStation_named]
      rfl
    · rw [raise_eq]
      rfl
  · exact exec_same rfl rfl ready (taken_ps rfl rfl nofun) (withStation_unnamed h0 h1 _ _)
  · exact exec_notPermitted rfl rfl ready rfl (by simp [PortClass.holds, hp]) rfl

/-! ## The settings of a unit (R167) -/

theorem changeableSource_iff (p : Port) (n : Nat) : changeableSource p n = true ↔ n < (if p = .ps then 6 else 9) := by
  unfold changeableSource
  by_cases h : n < 9
  · rw [definedSources_getLsbD p (by omega)]
    cases p <;> simp [sourceNamed]
    all_goals omega
  · cases p <;> simp [h]
    all_goals omega

/-- Settles O16, by the cases of the two settings. -/
theorem noticeSettings : Obligations.NoticeSettings := fun s p ready => by
  refine ⟨fun n l v hl hn => ?_, fun n l h => ?_, fun b hb => ?_, fun b hb => ?_, ?_⟩
  · refine exec_plainly (t := s.setUnit p _) rfl rfl ready (taken_any rfl rfl) ?_
    simp only [serve, serveSetNoticeLevel, hl, (changeableSource_iff p n.toNat).mpr hn, if_true]
    rfl
  · refine exec_same rfl rfl ready (taken_any rfl rfl) ?_
    simp only [serve, serveSetNoticeLevel]
    rcases h with h | h
    · simp only [h]
    · cases levelOf l with
      | none => rfl
      | some v => exact if_neg ((changeableSource_iff p n.toNat).not.mpr h)
  · exact exec_plainly (t := s.setUnit p _) rfl rfl ready (taken_any rfl rfl) (if_pos hb)
  · exact exec_same rfl rfl ready (taken_any rfl rfl) (if_neg hb)
  · exact exec_data rfl rfl ready (taken_any rfl rfl) rfl

end Sys2Proof.Machine

/-! The judgement of frames, the periods of chip select, the resets as the ports take them, and what a command leaves of windows and
reset cause. -/

namespace Sys2Proof.Machine

/-! ## Ends of periods -/

theorem dropFrame_ended (p : Port) (s : State) : dropFrame p (ended p s) = periodOver p true s := by
  simp [dropFrame, ended, periodOver, PortState.endPeriod]

theorem ended_port_same (p : Port) (s : State) : (ended p s).port p = (s.port p).endPeriod := State.setPort_port_same s p _

theorem ended_occupied (p : Port) (s : State) : ((ended p s).port p).occupied = (s.port p).occupied := by
  rw [ended_port_same, endPeriod_occupied]

theorem portRefuses_occupied {p : Port} {s : State} (h : (s.port p).occupied = true) (c : Byte) (v : Status) :
    portRefuses p c v (ended p s) = periodOver p true s := by
  rw [portRefuses, ended_occupied, if_pos h, dropFrame_ended]

theorem portRefuses_empty {p : Port} {s : State} (h : (s.port p).occupied = false) (c : Byte) (v : Status) :
    portRefuses p c v (ended p s) = plainly p c v s := by
  rw [portRefuses, ended_occupied, h]
  exact respond_endPeriod s p c (.plain v)

/-! ## Frames (R161, R163) -/

/-- A frame of bytes on a running part ends its period and is judged. -/
theorem exec_requestFrame {s : State} {p : Port} {c : Byte} {rest : List Byte} (running : s.inReset = false) (hc : c ≠ 0) :
    exec (.requestFrame p (c :: rest)) s = .next (takeFrame p (judgeBytes p (c :: rest)) s) := by
  show Host.Outcome.next (atRise p (periodEnds p (c :: rest)) s) = _
  rw [atRise_running _ _ running, periodEnds, if_neg hc]

section
variable {s : State} {p : Port} {c len : Byte} {payload : List Byte} {k : PortClass}

theorem judgeBytes_badLength (h : ¬ (len.toNat ≤ 248 ∧ payload.length = len.toNat)) :
    judgeBytes p (c :: len :: payload) = (c, .badLength) := by
  simp only [judgeBytes, judge, decide_eq_true_eq, if_neg h]

theorem judgeBytes_unknown (h : len.toNat ≤ 248 ∧ payload.length = len.toNat) (hk : codeClass c = none) :
    judgeBytes p (c :: len :: payload) = (c, .unknown) := by
  simp only [judgeBytes, judge, decide_eq_true_eq, if_pos h, hk]

theorem judgeBytes_notPermitted (h : len.toNat ≤ 248 ∧ payload.length = len.toNat) (hk : codeClass c = some k)
    (hp : k.holds p = false) : judgeBytes p (c :: len :: payload) = (c, .notPermitted) := by
  simp only [judgeBytes, judge, decide_eq_true_eq, if_pos h, hk, hp, Bool.false_eq_true, if_false]

theorem judgeBytes_good (h : len.toNat ≤ 248 ∧ payload.length = len.toNat) (hk : codeClass c = some k) (hp : k.holds p = true) :
    judgeBytes p (c :: len :: payload) = (c, .good (parseRequest c payload)) := by
  simp only [judgeBytes, judge, decide_eq_true_eq, if_pos h, hk, hp, if_true]

/-- A frame refused by the port is dropped where a slot is not empty. -/
theorem takeFrame_refused_occupied {f : Byte × Judgement} (h : (s.port p).occupied = true)
    (refused : f.2 = .badLength ∨ f.2 = .unknown ∨ f.2 = .notPermitted) : takeFrame p f s = periodOver p true s := by
  rcases refused with e | e | e <;> simp only [takeFrame, e] <;> exact portRefuses_occupied h _ _

theorem resetCode_iff {c : Byte} : resetCode c = true ↔ c = 0x08 ∨ c = 0x33 := decide_eq_true_iff

/-- A good frame of no reset is dropped where a slot is not empty. -/
theorem takeGood_occupied {r : Option Request} (h : (s.port p).occupied = true) (hr : ∀ q, r = some q → q.code = c)
    (h1 : c ≠ 0x08) (h2 : c ≠ 0x33) : takeGood p c r (ended p s) = periodOver p true s := by
  unfold takeGood
  split
  · exact absurd (hr _ rfl).symm h1
  · exact absurd (hr _ rfl).symm h2
  · rw [ended_occupied, if_pos h, dropFrame_ended]
  · have plain : resetCode c = false := Bool.eq_false_iff.mpr fun reset => (resetCode_iff.mp reset).elim h1 h2
    rw [takeMisfit, plain, ended_occupied, if_neg (by decide), if_pos h, dropFrame_ended]

theorem takeFrame_occupied (h : (s.port p).occupied = true) (h1 : c ≠ 0x08) (h2 : c ≠ 0x33) :
    takeFrame p (judgeBytes p (c :: len :: payload)) s = periodOver p true s := by
  by_cases fits : len.toNat ≤ 248 ∧ payload.length = len.toNat
  · cases hk : codeClass c with
    | none => exact takeFrame_refused_occupied h (by rw [judgeBytes_unknown fits hk]; exact .inr (.inl rfl))
    | some k =>
      cases hp : k.holds p with
      | false => exact takeFrame_refused_occupied h (by rw [judgeBytes_notPermitted fits hk hp]; exact .inr (.inr rfl))
      | true =>
        rw [judgeBytes_good fits hk hp]
        exact takeGood_occupied h (fun q hq => parseRequest_code hq) h1 h2
  · exact takeFrame_refused_occupied h (by rw [judgeBytes_badLength fits]; exact .inl rfl)

/-- A reset's request has no payload. -/
theorem parseRequest_reset (hc : c = 0x08 ∨ c = 0x33) (h : payload ≠ []) : parseRequest c payload = none := by
  cases payload with
  | nil => exact absurd rfl h
  | cons b rest => rcases hc with rfl | rfl <;> rfl

/-- A reset with a payload is BAD-ARGUMENT on an occupied port, and what the port held is lost (log 11). -/
theorem takeFrame_misfitReset (h : (s.port p).occupied = true) (hc : c = 0x08 ∨ c = 0x33)
    (fits : len.toNat ≤ 248 ∧ payload.length = len.toNat) (hk : codeClass c = some k) (hp : k.holds p = true) (hpay : payload ≠ []) :
    takeFrame p (judgeBytes p (c :: len :: payload)) s =
      s.setPort p { work := none, dropped := true, shifting := none, lastFrame := some (s.port p).frameOut.frame,
                    response := some { status := .badArgument, echo := c, clamped := false, more := false, payload := .empty } } := by
  have reset : resetCode c = true := resetCode_iff.mpr hc
  have losing : ((ended p s).port p).losing = true := by rw [PortState.losing, ended_occupied, h, Bool.true_or]
  rw [judgeBytes_good fits hk hp, parseRequest_reset hc hpay]
  show takeMisfit p c (ended p s) = _
  rw [takeMisfit, reset, if_pos rfl, losing]
  simp [resetResponse, ended, Reply.response, Reply.plain, PortState.endPeriod]

end

/-- Settles O11, by the cases of the judgement. -/
theorem framesJudged : Obligations.FramesJudged := fun s p c len payload running hc => by
  refine ⟨fun h h1 h2 => ?_, fun h => ⟨?_, fun reset k hk => ⟨fun bad => ?_, fun h1 h2 hp hpay => ?_⟩⟩,
    fun h => ⟨?_, fun bad => ?_, fun fits => ⟨fun hk => ?_, fun k hk hp => ?_, fun k hk hp misfit => ?_⟩⟩⟩ <;>
    rw [exec_requestFrame running hc]
  · rw [takeFrame_occupied h h1 h2]
  · rw [takeFrame_refused_occupied h (.inl rfl)]
  · by_cases fits : len.toNat ≤ 248 ∧ payload.length = len.toNat
    · have hp : k.holds p = false := bad.resolve_left (not_not.mpr fits)
      rw [takeFrame_refused_occupied h (by rw [judgeBytes_notPermitted fits hk hp]; exact .inr (.inr rfl))]
    · rw [takeFrame_refused_occupied h (by rw [judgeBytes_badLength fits]; exact .inl rfl)]
  · rw [takeFrame_misfitReset h reset ⟨h1, h2⟩ hk hp hpay]
  · exact congrArg _ (portRefuses_empty h c .badLength)
  · rw [judgeBytes_badLength bad]
    exact congrArg _ (portRefuses_empty h c .badLength)
  · rw [judgeBytes_unknown fits hk]
    exact congrArg _ (portRefuses_empty h c .unknownRequest)
  · rw [judgeBytes_notPermitted fits hk hp]
    exact congrArg _ (portRefuses_empty h c .notPermitted)
  · rw [judgeBytes_good fits hk hp, misfit]
    show Host.Outcome.next (takeMisfit p c (ended p s)) = _
    cases reset : resetCode c with
    | false =>
      rw [takeMisfit, reset, ended_occupied, h]
      exact congrArg _ (respond_endPeriod s p c (.plain .badArgument))
    | true =>
      have losing : ((ended p s).port p).losing = (s.port p).dropped := by
        rw [PortState.losing, ended_occupied, h, Bool.false_or, ended_port_same, endPeriod_dropped]
      rw [takeMisfit, reset, if_pos rfl, losing]
      simp [resetResponse, ended, Reply.response, Reply.plain, PortState.endPeriod, plainly, answered]

/-! ## The resets of the whole part -/

/-- The blocks at a supervisor reset, before the trunks take their way to all-open. -/
def State.blocksReset (s : State) : State :=
  { s with
    cause := .supervisor, ports := abandonAll s.ports, attention := ⟨.reset, .reset, .reset⟩,
    matrix := s.matrix.supervisorReset, store := s.store.kept s.store.armed, channels := ⟨.reset, .reset⟩,
    benches := ⟨s.benches.a.supervisorReset, s.benches.b.supervisorReset⟩, hv := s.hv.supervisorReset,
    printer := .reset s.printer.busy s.printer.fault }

/-- The trunks' way to all-open, and their load, are work. -/
theorem worked_supervisorReset (s : State) : Worked s.blocksReset (supervisorReset s) := by
  have trunks : Worked s.blocksReset (supervisorResetTrunk .b (supervisorResetTrunk .a s.blocksReset)) :=
    (worked_supervisorResetTrunk _ _).after (worked_supervisorResetTrunk _ _)
  unfold supervisorReset
  dsimp only
  split
  · exact (worked_requestHousekeeping _ _).after trunks
  · exact (worked_chainStart _).after trunks

/-- RESET DEVICE on a running part, as its port takes it (R164). -/
theorem exec_resetDevice {s : State} (running : s.inReset = false) :
    exec (.resetDevice .ps) s = .next (takeResetDevice .ps (ended .ps s)) := by
  show Host.Outcome.next (atRise .ps (submit .ps .resetDevice) s) = _
  rw [atRise_running _ _ running, submit_resetDevice]
  rfl

/-- STATION RESET on a running part, as its port takes it (R164). -/
theorem exec_stationReset {s : State} (x : Station) (running : s.inReset = false) :
    exec (.stationReset x.port) s = .next (takeStationReset x.port x (ended x.port s)) := by
  show Host.Outcome.next (atRise x.port (submit x.port .stationReset) s) = _
  rw [atRise_running _ _ running, submit_stationReset]
  rfl

/-! ## Periods of chip select (R162) -/

theorem fixFrame_response {v : PortState} {a : Response} (h : v.response = some a) :
    v.fixFrame = { frame := { response := a, dropped := v.dropped }, fromSlot := true } := by
  simp only [PortState.fixFrame, h]

theorem fixFrame_work {v : PortState} {r : Request} (h : v.response = none) (hw : v.work = some r) :
    v.fixFrame = { frame := { response := waitResponse r.code, dropped := v.dropped }, fromSlot := false } := by
  simp only [PortState.fixFrame, h, hw]

theorem fixFrame_empty {v : PortState} (h : v.response = none) (hw : v.work = none) :
    v.fixFrame = { frame := { response := waitResponse 0, dropped := v.dropped }, fromSlot := false } := by
  simp only [PortState.fixFrame, h, hw]

theorem frameOut_shifting {v : PortState} {f : Shift} (h : v.shifting = some f) : v.frameOut = f := by
  simp only [PortState.frameOut, h, Option.getD_some]

theorem exec_chipSelectFall (p : Port) (s : State) :
    exec (.chipSelectFall p) s = .next (s.setPort p { s.port p with shifting := some (s.port p).fixFrame }) := rfl

theorem exec_fetch_running {p : Port} {s : State} (h : s.inReset = false) : exec (.fetch p) s = .next (s.setPort p (s.port p).delivered) :=
  congrArg Host.Outcome.next (atRise_running _ _ h)

/-- The bits of the flags byte (R175). -/
theorem flags_bits (f : Frame) :
    f.flags.getLsbD 0 = f.dropped ∧ f.flags.getLsbD 1 = f.response.clamped ∧ f.flags.getLsbD 2 = f.response.more ∧
      f.flags.toNat < 8 := by
  unfold Frame.flags
  cases f.dropped <;> cases f.response.clamped <;> cases f.response.more <;> decide

theorem lineReset_port {s : State} (b : BuildMax) (p : Port) (h : s.porn = false) : (lineReset b s).port p = (s.port p).abandon := by
  rw [lineReset, if_neg (by simp [h])]
  cases p <;> rfl

theorem supervisorReset_port (s : State) (p : Port) : (supervisorReset s).port p = (s.port p).abandon := by
  have ports : (supervisorReset s).ports = abandonAll s.ports := (worked_supervisorReset s).ports
  rw [State.port, ports]
  cases p <;> rfl

/-- Settles O12, by the slots of the port. -/
theorem periodsDeliver : Obligations.PeriodsDeliver := fun s p => by
  refine ⟨fun a h => ?_, fun r h hw => ?_, fun h hw => ?_, fun f hf => ⟨fun running => ?_, fun held => ⟨?_, fun bytes => ?_⟩⟩,
    fun b f running hf => ?_, fun f running hp hf => ?_, ?_, fun rest => ?_, fun f => ⟨fun bs h => ?_, flags_bits f⟩, rfl⟩
  · rw [exec_chipSelectFall, fixFrame_response h]
  · rw [exec_chipSelectFall, fixFrame_work h hw]
  · rw [exec_chipSelectFall, fixFrame_empty h hw]
  · rw [exec_fetch_running running]
    simp only [PortState.delivered, PortState.endPeriod, frameOut_shifting hf]
    cases f.fromSlot <;> rfl
  · rw [← frameOut_shifting hf]
    exact congrArg Host.Outcome.next (atRise_held _ _ held)
  · rw [← frameOut_shifting hf]
    exact congrArg Host.Outcome.next (atRise_held _ _ held)
  · obtain ⟨hporn, hline⟩ := lines_of_running running
    refine ⟨_, exec_lineReset b hline, ?_⟩
    rw [lineReset_port b p hporn, PortState.abandon, hf]
    rfl
  · refine ⟨_, exec_resetDevice running, ?_⟩
    rw [takeResetDevice, resetResponse, State.setPort_port_ne _ _ _ hp, supervisorReset_port, ended, State.setPort_port_ne _ _ _ hp,
      PortState.abandon, hf]
    rfl
  · show Host.Outcome.next (atRise p (periodEnds p []) s) = _
    cases running : s.inReset with
    | false => rw [atRise_running _ _ running]; rfl
    | true => rw [atRise_held _ _ running]
  · show Host.Outcome.next (atRise p (periodEnds p (0 :: rest)) s) = Host.Outcome.next (atRise p (fetchEnds p) s)
    rfl
  · simp only [Frame.bytes?, h, Option.map_some, Frame.around, List.cons_append, List.nil_append]

/-! ## Windows and reset cause under every command (R20, R174) -/

theorem endReset_window_cause (l : ResetLine) (i : Inputs) {s : State} :
    (endReset l i s).cause = s.cause ∧ ∀ x, (s.window x).lock = true → (endReset l i s).window x = s.window x := by
  have line : (releaseLine l s).cause = s.cause ∧ (releaseLine l s).matrix = s.matrix := by cases l <;> exact ⟨rfl, rfl⟩
  have pass := kept_clearingPass (takeInputs i (releaseLine l s))
  have window (x : Station) : (takeInputs i (releaseLine l s)).window x = s.window x := by
    show (releaseLine l s).window x = _
    rw [State.window, line.2]
    rfl
  unfold endReset
  dsimp only
  split
  · exact ⟨line.1, fun x _ => by rw [State.window, line.2]; rfl⟩
  · refine ⟨pass.cause.trans line.1, fun x h => ?_⟩
    rw [pass.locked x (by rwa [window]), window]

/-- Every command but the power-on and the line reset keeps a locked window, and the reset cause but for a reset of the device. -/
theorem exec_window_cause {i : Instr} {s t : State} (h : exec i s = .next t) (h1 : ∀ b, i ≠ .powerOnReset b)
    (h2 : ∀ b, i ≠ .lineReset b) :
    (t.cause = s.cause ∨ ResetsDevice i) ∧ ∀ x, (s.window x).lock = true → t.window x = s.window x := by
  by_cases h3 : ∃ l v, i = .resetEnd l v
  · obtain ⟨l, v, rfl⟩ := h3
    have e : t = if lineAsserted l s then endReset l v s else s := (Host.Outcome.next.inj h).symm
    obtain ⟨cause, window⟩ := endReset_window_cause l v (s := s)
    rw [e]
    split
    · exact ⟨.inl cause, window⟩
    · exact ⟨.inl rfl, fun _ _ => rfl⟩
  · obtain ⟨u, e, k, -⟩ := ordinary i s h1 h2 fun l v e => h3 ⟨l, v, e⟩
    rw [e] at h
    cases h
    rcases k with k | ⟨device, k⟩
    · exact ⟨.inl k.cause, k.locked⟩
    · exact ⟨.inr device, k.locked⟩

/-- Settles O58. -/
theorem causeWritten : Obligations.CauseWritten := by
  refine ⟨fun s b h => ⟨_, exec_powerOnReset b h, rfl⟩, fun s b hp hl => ⟨_, exec_lineReset b hl, ?_⟩, fun s b hp => ⟨_, rfl, ?_⟩,
    fun s running => ⟨_, exec_resetDevice running, ?_⟩, fun i s t e h1 h2 h3 h4 => ?_, fun s p ready => ?_⟩
  · rw [lineReset, if_neg (by simp [hp])]
  · split
    · rfl
    · rw [lineReset, if_pos hp]
  · exact (worked_supervisorReset (ended .ps s)).cause
  · refine (exec_window_cause e h1 h2).1.resolve_right ?_
    rintro (h | ⟨bytes, h⟩)
    · exact h3 h
    · exact h4 bytes h
  · exact exec_data rfl rfl ready (taken_any rfl rfl) rfl

/-! ## What work leaves of the matrix -/

section
variable {s t : State} (h : Worked s t)
include h

theorem Worked.matrixState : t.matrix.state = s.matrix.state := congrArg (fun g => g.1) h.ground
theorem Worked.image : t.matrix.image = s.matrix.image := congrArg (fun g => g.2.1) h.ground
theorem Worked.selTable : t.matrix.selTable = s.matrix.selTable := congrArg (fun g => g.2.2.1) h.ground
theorem Worked.presence : t.matrix.presence = s.matrix.presence := congrArg (fun g => g.2.2.2.1) h.ground
theorem Worked.windows : t.matrix.windows = s.matrix.windows := congrArg (fun g => g.2.2.2.2.1) h.ground
theorem Worked.hot : t.matrix.hot = s.matrix.hot := congrArg (fun g => g.2.2.2.2.2.1) h.ground
theorem Worked.hkWait : t.matrix.hkWait = s.matrix.hkWait := congrArg (fun g => g.2.2.2.2.2.2) h.ground

end

/-! ## Windows (R18 to R20) -/

theorem exec_resetDevice_windows (s : State) :
    ∃ t, exec (.resetDevice .ps) s = .next t ∧ t.matrix.windows = s.matrix.windows := by
  cases running : s.inReset with
  | false => exact ⟨_, exec_resetDevice running, (worked_supervisorReset (ended .ps s)).windows⟩
  | true => exact ⟨_, congrArg Host.Outcome.next (atRise_held .ps (submit .ps .resetDevice) running), rfl⟩

theorem stationReset_windows (x : Station) (s : State) : (stationReset x s).matrix.windows = s.matrix.windows := by
  have work := (worked_stationResetTrunk x _).after
    ((worked_stationResetChannel x _).after (worked_endHolding x true (resetRun x (leaveCheck x s))))
  exact work.windows.trans (congrArg Matrix.windows (resetRun_matrix x (leaveCheck x s)))

theorem exec_stationReset_windows (x : Station) (s : State) :
    ∃ t, exec (.stationReset x.port) s = .next t ∧ t.matrix.windows = s.matrix.windows := by
  cases running : s.inReset with
  | false => exact ⟨_, exec_stationReset x running, stationReset_windows x (ended x.port s)⟩
  | true => exact ⟨_, congrArg Host.Outcome.next (atRise_held x.port (submit x.port .stationReset) running), rfl⟩

section
variable {s : State} {x : Station} {base limit : Byte} {w : Window}

/-- SET WINDOW with base and limit in range, refused. -/
theorem serveSetWindow_refused {why : Status} (hb : base.toNat ≤ 63) (hl : limit.toNat ≤ 63)
    (hw : w = { s.window x with base := base.toNat, limit := limit.toNat }) (h : windowRefusal x w s = some why) :
    serveSetWindow (stationByte x) base limit s = same why s := by
  rw [serveSetWindow, withStation_named, if_neg (by omega)]
  simp only [← hw, h]

/-- SET WINDOW with base and limit in range, taken. -/
theorem serveSetWindow_taken (hb : base.toNat ≤ 63) (hl : limit.toNat ≤ 63)
    (hw : w = { s.window x with base := base.toNat, limit := limit.toNat }) (h : windowRefusal x w s = none) :
    serveSetWindow (stationByte x) base limit s = (applyWindow x w s, some (.plain .ok)) := by
  rw [serveSetWindow, withStation_named, if_neg (by omega)]
  simp only [← hw, h]

end

/-- A refusal of SET WINDOW with base and limit in range. -/
theorem exec_setWindow_refused {s : State} {x : Station} {base limit : Byte} {why : Status} (ready : Ready s .ps)
    (hb : base.toNat ≤ 63) (hl : limit.toNat ≤ 63)
    (refused : windowRefusal x { s.window x with base := base.toNat, limit := limit.toNat } s = some why) :
    exec (.setWindow .ps (stationByte x) base limit) s = .next (plainly .ps 0x10 why s) := by
  exact exec_same rfl rfl ready (taken_ps rfl rfl nofun) (serveSetWindow_refused (s := ended .ps s) hb hl rfl refused)

theorem windowsOverlap_iff (v w : Window) :
    windowsOverlap v w = true ↔ v.base ≤ v.limit ∧ w.base ≤ w.limit ∧ v.base ≤ w.limit ∧ w.base ≤ v.limit := by
  simp only [windowsOverlap, Window.enabled, Bool.and_eq_true, decide_eq_true_eq, and_assoc]

section
variable {s : State} {x : Station} {w : Window}

theorem windowRefusal_runOpen (h : runOpen s x = true) : windowRefusal x w s = some .runOpen := if_pos h

theorem windowRefusal_overlap (h : runOpen s x = false) (o : windowsOverlap w (s.window x.other) = true) :
    windowRefusal x w s = some .overlap := by
  rw [windowRefusal, h, if_neg (by decide), if_pos o]

theorem windowRefusal_locked (h : runOpen s x = false) (o : windowsOverlap w (s.window x.other) = false)
    (l : (s.window x).lock = true) : windowRefusal x w s = some .locked := by
  rw [windowRefusal, h, if_neg (by decide), o, if_neg (by decide), if_pos l]

theorem windowRefusal_busy (h : runOpen s x = false) (o : windowsOverlap w (s.window x.other) = false)
    (l : (s.window x).lock = false) (busy : (s.trunk x).state ≠ .idle) : windowRefusal x w s = some .busy := by
  rw [windowRefusal, h, if_neg (by decide), o, if_neg (by decide), l, if_neg (by decide), if_pos busy]

theorem windowRefusal_none (h : runOpen s x = false) (o : windowsOverlap w (s.window x.other) = false)
    (l : (s.window x).lock = false) (idle : (s.trunk x).state = .idle) : windowRefusal x w s = none := by
  rw [windowRefusal, h, if_neg (by decide), o, if_neg (by decide), l, if_neg (by decide), if_neg (by simp [idle])]

end

/-- Settles O18: the lock under every command is part of what every command keeps. -/
theorem lockedWindowStays : Obligations.LockedWindowStays := by
  refine ⟨fun s x ready => ?_, fun i s t x lock e h1 h2 => (exec_window_cause e h1 h2).2 x lock,
    fun s x base limit ready lock hb hl run apart => ?_, fun s b running => ?_,
    fun s y => ⟨exec_resetDevice_windows s, exec_stationReset_windows y s⟩⟩
  · refine exec_plainly (t := s.setMatrix _) rfl rfl ready (taken_ps rfl rfl nofun) ?_
    simp only [serve, serveLockWindow, withStation_named]
    rfl
  · refine exec_setWindow_refused ready hb hl (windowRefusal_locked run ?_ lock)
    simpa only [lock] using apart
  · obtain ⟨hporn, hline⟩ := lines_of_running running
    refine ⟨⟨_, exec_powerOnReset b hporn, fun x => by cases x <;> rfl⟩, ⟨_, exec_lineReset b hline, fun x => ?_⟩⟩
    rw [lineReset, if_neg (by simp [hporn])]
    cases x <;> rfl

/-- The cards from base to limit, one by one. -/
theorem cardRange_getLsbD {base limit c : Nat} (h : base ≤ limit) (hl : limit ≤ 63) (hc : c < 64) :
    (cardRange base limit).getLsbD c = decide (base ≤ c ∧ c ≤ limit) := by
  rw [Bool.eq_iff_iff]
  simp only [cardRange, BitVec.getLsbD_shiftLeft, BitVec.getLsbD_ushiftRight, BitVec.getLsbD_allOnes, hc, decide_true,
    Bool.true_and, Bool.and_eq_true, Bool.not_eq_true', decide_eq_true_eq, decide_eq_false_iff_not]
  omega

theorem Window.cards_getLsbD {w : Window} {c : Nat} (hl : w.limit ≤ 63) (hc : c < 64) :
    w.cards.getLsbD c = decide (w.base ≤ c ∧ c ≤ w.limit) := by
  unfold Window.cards Window.enabled
  by_cases h : w.base ≤ w.limit
  · rw [if_pos (decide_eq_true h), cardRange_getLsbD h hl hc]
  · rw [if_neg (by simpa using h), decide_eq_false (by omega)]
    exact BitVec.getLsbD_zero

/-- The card selectors after a window has taken its cards (R19). -/
theorem take_card {v : Selectors} {x : Station} {cards : CardSet} {c : Nat} (hc : c < 64) (apart : v.a &&& v.b = 0) :
    (v.take x cards).card c =
      if cards.getLsbD c then .to x else if v.card c = .to x then .none else v.card c := by
  have not_both : ¬ (v.a.getLsbD c = true ∧ v.b.getLsbD c = true) := fun ⟨ha, hb⟩ => by
    have bit : (v.a &&& v.b).getLsbD c = true := by rw [BitVec.getLsbD_and, ha, hb]; rfl
    rw [apart] at bit
    simp at bit
  cases x <;> simp only [Selectors.take, Selectors.card, BitVec.getLsbD_and, BitVec.getLsbD_not, hc, decide_true, Bool.true_and] <;>
    by_cases hk : cards.getLsbD c = true <;> by_cases ha : v.a.getLsbD c = true <;> by_cases hb : v.b.getLsbD c = true <;> simp_all

end Sys2Proof.Machine

/-! The chain's arbiter and SET WINDOW. -/

namespace Sys2Proof.Machine

/-! ## The arbiter (R4, R5) -/

/-- The arbiter moves nothing that decides whether a housekeeping request may start. -/
theorem arbitrate_mayStart (m : Matrix) (k : Housekeeping) : m.arbitrate.mayStart k = m.mayStart k := by
  rcases arbitrate_cases m with h | ⟨_, _, _, _, h⟩ | ⟨_, _, _, _, h⟩ <;> rw [h] <;> cases k <;> rfl

theorem arbitrate_busy {m : Matrix} {l : ChainLoad} (h : m.load = some l) : m.arbitrate = m := by
  simp only [Matrix.arbitrate, h, Option.isSome_some, if_true]

theorem arbitrate_starts {m : Matrix} {k : Housekeeping} (free : m.load = none) (hk : m.hk = some k) (may : m.mayStart k = true) :
    m.arbitrate = { m with load := some (m.housekeepingLoad k), hk := none } := by
  simp only [Matrix.arbitrate, free, Option.isSome_none, Bool.false_eq_true, if_false, hk, may, if_true]

/-- With no housekeeping request that may start, a trunk is served. -/
theorem arbitrate_trunk {m : Matrix} (free : m.load = none) (none : ∀ k, m.hk = some k → m.mayStart k = false) :
    m.arbitrate = m.startTrunk := by
  cases hk : m.hk with
  | none => simp only [Matrix.arbitrate, free, Option.isSome_none, Bool.false_eq_true, if_false, hk]
  | some k => simp only [Matrix.arbitrate, free, Option.isSome_none, Bool.false_eq_true, if_false, hk, none k hk]

theorem nextTrunk_none {m : Matrix} (h : m.slots = ⟨none, none⟩) : m.nextTrunk = none := by
  unfold Matrix.nextTrunk
  rw [h]
  cases m.lastServed <;> rfl

theorem startTrunk_none {m : Matrix} (h : m.slots = ⟨none, none⟩) : m.startTrunk = m := by
  rw [Matrix.startTrunk, nextTrunk_none h]

/-- The only trunk that waits is served, and of two the one not last served. -/
theorem startTrunk_some {m : Matrix} {y : Station} {r : Relays} (h : m.slots.get y = some r)
    (turn : m.slots.get y.other = none ∨ m.lastServed ≠ y) :
    m.startTrunk = { m with load := some (m.trunkLoad y r), slots := m.slots.set y none, lastServed := y } := by
  have next : m.nextTrunk = some (y, r) := by
    unfold Matrix.nextTrunk
    by_cases last : m.lastServed = y
    · have other : m.slots.get y.other = none := turn.resolve_right (not_not.mpr last)
      simp only [last, other, h]
    · have other : m.lastServed.other = y := by
        cases hl : m.lastServed <;> cases y <;> simp_all [Station.other]
      simp only [other, h]
  rw [Matrix.startTrunk, next]

/-- The arbiter serves what waits. -/
theorem chainServes_arbitrate {m : Matrix} (free : m.load = none) : ChainServes m m.arbitrate := by
  refine ⟨fun k hk may => ?_, fun none => ?_⟩
  · rw [arbitrate_starts free hk may]
    exact ⟨rfl, rfl, rfl, rfl⟩
  · rw [arbitrate_trunk free none]
    refine ⟨?_, fun empty => ?_, fun y r h turn => ?_⟩
    · unfold Matrix.startTrunk
      split <;> rfl
    · rw [startTrunk_none empty]
      exact ⟨free, rfl, rfl⟩
    · rw [startTrunk_some h turn]
      exact ⟨rfl, rfl, rfl⟩

/-! ## Housekeeping requests -/

/-- The matrix with a housekeeping request in its slot. -/
def Matrix.requesting (m : Matrix) (k : Housekeeping) : Matrix := { m with hk := some k }

/-- A housekeeping request with none of a clearing pass before it is placed. -/
theorem requestHousekeeping_eq {k : Housekeeping} {s : State} (h : s.matrix.hk ≠ some .clearing) :
    requestHousekeeping k s = s.setMatrix (s.matrix.requesting k).arbitrate := by
  rw [requestHousekeeping, if_neg h]
  rfl

/-- A placed request waits in its slot, or its load is on the chain. -/
theorem requestHousekeeping_placed {k : Housekeeping} {s : State} (h : s.matrix.hk ≠ some .clearing) :
    (requestHousekeeping k s).matrix.hk = some k ∨
      ∃ l, (requestHousekeeping k s).matrix.load = some l ∧ l.requester = .housekeeping k := by
  rw [requestHousekeeping_eq h]
  rcases arbitrate_cases (s.matrix.requesting k) with e | ⟨j, -, hj, -, e⟩ | ⟨x, r, -, -, e⟩
  · exact .inl (congrArg Matrix.hk e)
  · cases hj
    refine .inr ⟨_, congrArg Matrix.load e, ?_⟩
    cases k <;> rfl
  · exact .inl (congrArg Matrix.hk e)

/-- A placed request as the statements say it, with the contents that the arbiter fixes. -/
theorem housekeepingPlaced {s u t : State} {k : Housekeeping} {c : RelayImage} (load : u.matrix.load = s.matrix.load)
    (slots : u.matrix.slots = s.matrix.slots) (h : u.matrix.hk ≠ some .clearing)
    (contents : ∀ m : Matrix, m = u.matrix.requesting k → m.housekeepingLoad k = { requester := .housekeeping k, contents := c })
    (ht : t.matrix = (requestHousekeeping k u).matrix) : HousekeepingPlaced s t k c := by
  have placed : t.matrix = (u.matrix.requesting k).arbitrate := by rw [ht, requestHousekeeping_eq h]; rfl
  rw [HousekeepingPlaced, placed, arbitrate_mayStart, ← load, ← slots]
  refine ⟨fun free may => ?_, fun free may empty => ?_, fun l hl => ?_⟩
  · rw [arbitrate_starts (m := u.matrix.requesting k) free rfl may, contents _ rfl]
    exact ⟨rfl, rfl⟩
  · rw [arbitrate_trunk (m := u.matrix.requesting k) free (by rintro j ⟨⟩; exact may), startTrunk_none (m := u.matrix.requesting k) empty]
    exact ⟨free, rfl⟩
  · rw [arbitrate_busy (m := u.matrix.requesting k) hl]
    exact ⟨hl, rfl⟩

theorem requestHousekeeping_ended (k : Housekeeping) (p : Port) (s : State) :
    requestHousekeeping k (ended p s) = ended p (requestHousekeeping k s) := by
  unfold requestHousekeeping
  rw [ended_matrix]
  split <;> rfl

/-! ## SET WINDOW (R18, R19) -/

section
variable {s : State} {x : Station} {w : Window}

/-- With the table unchanged, or off READY, only window and table are written. -/
theorem applyWindow_quiet (h : s.matrix.selTable.take x w.cards = s.matrix.selTable ∨ s.matrix.state ≠ .ready) :
    applyWindow x w s =
      s.setMatrix { s.matrix with windows := s.matrix.windows.set x w, selTable := s.matrix.selTable.take x w.cards } := by
  refine if_neg ?_
  rintro ⟨changed, ready⟩
  exact h.elim changed (· ready)

/-- Else a window load is requested with them. -/
theorem applyWindow_loads (changed : s.matrix.selTable.take x w.cards ≠ s.matrix.selTable) (ready : s.matrix.state = .ready) :
    applyWindow x w s =
      requestHousekeeping .window
        (s.setMatrix { s.matrix with windows := s.matrix.windows.set x w, selTable := s.matrix.selTable.take x w.cards }) :=
  if_pos ⟨changed, ready⟩

theorem applyWindow_ended (p : Port) : applyWindow x w (ended p s) = ended p (applyWindow x w s) := by
  by_cases h : s.matrix.selTable.take x w.cards ≠ s.matrix.selTable ∧ s.matrix.state = .ready
  · rw [applyWindow_loads (s := s) h.1 h.2, applyWindow_loads (s := ended p s) h.1 h.2, ← requestHousekeeping_ended]
    rfl
  · have quiet : s.matrix.selTable.take x w.cards = s.matrix.selTable ∨ s.matrix.state ≠ .ready := by
      rwa [not_and_or, not_not] at h
    rw [applyWindow_quiet (s := s) quiet, applyWindow_quiet (s := ended p s) quiet]
    rfl

/-- Whether a window load is requested or not, windows and table stand written and the matrix is else the old one. -/
theorem applyWindow_matrix :
    (applyWindow x w s).matrix.windows = s.matrix.windows.set x w ∧ (applyWindow x w s).matrix.state = s.matrix.state ∧
      (applyWindow x w s).matrix.image = s.matrix.image ∧
      (applyWindow x w s).matrix.selTable = s.matrix.selTable.take x w.cards := by
  have work : Worked (s.setMatrix { s.matrix with windows := s.matrix.windows.set x w, selTable := s.matrix.selTable.take x w.cards })
      (applyWindow x w s) := by
    unfold applyWindow
    dsimp only
    split
    · exact worked_requestHousekeeping _ _
    · exact .refl _
  exact ⟨work.windows, work.matrixState, work.image, work.selTable⟩

end

/-- Settles O19: the refusals in order, and the window load with the table already written. -/
theorem windowSet : Obligations.WindowSet := fun s x base limit w ready hw => by
  have overlap_iff : windowsOverlap w (s.window x.other) = true ↔
      base.toNat ≤ limit.toNat ∧ (s.window x.other).base ≤ (s.window x.other).limit ∧
        base.toNat ≤ (s.window x.other).limit ∧ (s.window x.other).base ≤ limit.toNat := by
    rw [windowsOverlap_iff, hw]
  refine ⟨fun far => ?_, fun hb hl => ⟨fun run => ?_, fun run => ⟨fun o => ?_, fun apart => ?_⟩⟩⟩
  · refine exec_same rfl rfl ready (taken_ps rfl rfl nofun) ?_
    rw [serve, serveSetWindow, withStation_named, if_pos far]
  · exact exec_setWindow_refused ready hb hl (windowRefusal_runOpen run)
  · exact exec_setWindow_refused ready hb hl (windowRefusal_overlap run (hw ▸ overlap_iff.mpr o))
  · have noOverlap : windowsOverlap w (s.window x.other) = false := Bool.eq_false_iff.mpr (overlap_iff.not.mpr apart)
    refine ⟨fun lock => exec_setWindow_refused ready hb hl (windowRefusal_locked run (hw ▸ noOverlap) lock),
      fun lock busy => exec_setWindow_refused ready hb hl (windowRefusal_busy run (hw ▸ noOverlap) lock busy), fun lock idle => ?_⟩
    have passes : windowRefusal x w s = none := windowRefusal_none run noOverlap lock idle
    have taken : exec (.setWindow .ps (stationByte x) base limit) s = .next (plainly .ps 0x10 .ok (applyWindow x w s)) := by
      refine exec_plainly rfl rfl ready (taken_ps rfl rfl nofun) ?_
      rw [serve, serveSetWindow_taken (s := ended .ps s) hb hl hw passes, applyWindow_ended]
    obtain ⟨windows, state, image, table⟩ := applyWindow_matrix (s := s) (x := x) (w := w)
    refine ⟨fun quiet => by rw [taken, applyWindow_quiet quiet], _, taken, ?_, ?_, state, image, fun c hc sel => ?_,
      fun changed hready noClearing => ?_⟩
    · show (applyWindow x w s).matrix.windows.get x = w
      rw [windows, Both.get_set_same]
    · show (applyWindow x w s).matrix.windows.get x.other = _
      rw [windows, Both.get_set_ne _ _ (by cases x <;> nofun)]
      rfl
    · show (applyWindow x w s).matrix.selTable.card c = _
      have limits : w.limit ≤ 63 := by rw [hw]; exact hl
      have cards : w.cards.getLsbD c = decide (base.toNat ≤ c ∧ c ≤ limit.toNat) := by
        rw [Window.cards_getLsbD limits hc, hw]
      rw [table, take_card hc sel, cards]
      simp only [decide_eq_true_eq]
    · have loads := applyWindow_loads (s := s) (x := x) (w := w) changed hready
      refine ⟨?_, fun i hi => ?_⟩
      · have placed := requestHousekeeping_placed (k := .window)
          (s := s.setMatrix { s.matrix with windows := s.matrix.windows.set x w, selTable := s.matrix.selTable.take x w.cards }) noClearing
        rwa [← loads] at placed
      · refine housekeepingPlaced
          (u := s.setMatrix { s.matrix with windows := s.matrix.windows.set x w, selTable := s.matrix.selTable.take x w.cards })
          rfl rfl noClearing (fun m hm => ?_) (loads ▸ rfl)
        have known : m.known = i := by rw [hm]; exact congrArg (·.getD { relays := .allOpen, sel := .none }) hi
        rw [hm] at known ⊢
        simp only [Matrix.housekeepingLoad, known]
        rfl

end Sys2Proof.Machine

/-! The invariant of the source (R123 to R127): it is not kept by CLEAR HV FAULT, since it ties no monitor reading to a failed discharge. -/

namespace Sys2Proof.Machine

/-- A failed discharge of trunk A whose switch still stands TO-A while the monitor reads cold, with CLEAR HV FAULT in the queue. -/
def coldFault : State :=
  { State.reset with
    hv := { Hv.reset .v1000 ⟨false, false⟩ false with
      holder := some .a, releasePending := true, source := .faulted, sw := .to .a, latch := some .a },
    pending := [.clearHvFault .ps] }

theorem coldFault_bench (x : Station) : coldFault.bench x = .reset := by cases x <;> rfl

theorem coldFault_trunk (x : Station) : coldFault.trunk x = .reset := by cases x <;> rfl

theorem coldFault_inactive (x : Station) : ¬ StepActive (coldFault.bench x) := by
  rw [coldFault_bench]
  exact fun ⟨run, _⟩ => absurd run nofun

/-- The invariant admits it: the holder's release is pending with the switch not OFF, and the latch is set with the source FAULTED. -/
theorem coldFault_safe : SourceSafe coldFault where
  energ _ h := absurd h nofun
  quiet _ := .inr rfl
  latched := ⟨fun _ => rfl, fun _ => rfl⟩
  switch x h := by cases h; rfl
  pending _ := nofun
  holding _ _ h := absurd h nofun
  working _ h := absurd h nofun
  waiting x h := by rw [coldFault_bench] at h; cases h
  stepping x h := absurd h (coldFault_inactive x)
  queued x st h := by rw [coldFault_bench] at h; cases h
  recorded x h := by rw [coldFault_bench] at h; exact absurd rfl h
  settled x h := by rw [coldFault_bench] at h; cases h
  reset x h := by rw [coldFault_trunk] at h; cases h
  timer h := absurd h nofun
  held h := absurd h nofun

/-- The part is left with the source OFF and the switch TO-A. -/
theorem coldFault_cleared :
    ∃ t, step coldFault = .next t ∧ t.hv.energ = none ∧ t.hv.source = .off ∧ t.hv.sw = .to .a :=
  ⟨_, rfl, rfl, rfl, rfl⟩

/-- Refutes O7: CLEAR HV FAULT asks only whether the latched trunk reads cold (R127). On a cold trunk with the switch still TO-X, which the
invariant does not exclude, it leaves the source OFF with the switch not OFF and no energisation. -/
theorem not_sourceStaysSafe : ¬ Obligations.SourceStaysSafe := fun h => by
  obtain ⟨t, e, energ, off, sw⟩ := coldFault_cleared
  rcases (h _ t coldFault_safe e).1.quiet energ with ⟨-, switchOff⟩ | faulted
  · rw [sw] at switchOff
    cases switchOff
  · rw [off] at faulted
    cases faulted

end Sys2Proof.Machine

/-! The stages of an energisation and the supervision (R122 to R124, R132). -/

namespace Sys2Proof.Machine

/-- While the part runs an event does what it does. -/
theorem next_running {s : State} (f : State → State) (running : s.inReset = false) :
    (Host.Outcome.next (whenRunning f s) : Host.Outcome State Fault Refusal) = .next (f s) :=
  congrArg _ (whenRunning_running f running)

/-! ## Stages -/

section
variable {s : State} {e : Energisation} {g : Stage}

theorem atStage_some (h : s.hv.energ = some e) (hg : e.stage = g) : atStage s g = some e := by
  simp [atStage, h, hg]

theorem atStage_ne (h : s.hv.energ = some e) (hg : e.stage ≠ g) : atStage s g = none := by
  simp [atStage, h, hg]

theorem atStage_none (h : s.hv.energ = none) (g : Stage) : atStage s g = none := by
  simp [atStage, h]

end

section
variable {s : State}

theorem switchCloses_eq {e : Energisation} (h : atStage s .connecting = some e) :
    switchCloses s = s.setHv { s.hv with path := false, source := .ramping, energ := some { e with stage := .ramping } } := by
  simp only [switchCloses, h]
  rfl

theorem switchCloses_none (h : atStage s .connecting = none) : switchCloses s = s := by
  simp only [switchCloses, h]

theorem setpointReached_eq {e : Energisation} {v : Nat} (h : atStage s .ramping = some e) (hv : e.setpoint ≤ v) :
    setpointReached v s = s.setHv { s.hv with source := .dwelling, energ := some { e with stage := .dwelling } } := by
  simp only [setpointReached, h, hv, if_true]
  rfl

theorem setpointReached_none {v : Nat} (h : ∀ e, atStage s .ramping = some e → v < e.setpoint) : setpointReached v s = s := by
  unfold setpointReached
  split
  · next e he => exact if_neg (Nat.not_le_of_lt (h e he))
  · rfl

theorem dwellEnds_eq {e : Energisation} (h : atStage s .dwelling = some e) :
    dwellEnds s = s.setHv { s.hv with source := .sampling, energ := some { e with stage := .sampling } } := by
  simp only [dwellEnds, h]
  rfl

theorem dwellEnds_none (h : atStage s .dwelling = none) : dwellEnds s = s := by
  simp only [dwellEnds, h]

/-! ## Entry to DISCHARGING (R125) -/

/-- The source with an energisation discharging on a hot trunk, and its outcome noted. -/
def Hv.discharging (h : Hv) (e : Energisation) (o : EnergOutcome) : Hv :=
  { h with path := true, source := .discharging, energ := some { e with stage := .discharging, outcome := some o } }

theorem enterDischarge_hot {e : Energisation} (o : EnergOutcome) (hot : s.hot e.trunk = true) :
    enterDischarge e o s = (s.setHv (s.hv.discharging e o), none) := by
  rw [enterDischarge, if_pos hot]
  rfl

theorem enterDischarge_cold {e : Energisation} (o : EnergOutcome) (cold : s.hot e.trunk = false) :
    enterDischarge e o s = endDischarge e o s := by
  rw [enterDischarge, cold]
  rfl

theorem tellEngine_none (s : State) : tellEngine (s, none) = s := rfl

theorem arcs_hot {e : Energisation} (c : ArcCause) (hot : s.hot e.trunk = true) :
    arcs e c s = s.setHv (s.hv.discharging e (.arc c)) := by
  rw [arcs, enterDischarge_hot _ hot, tellEngine_none]

theorem sampleEnds_hot {e : Energisation} (v i : Nat) (h : atStage s .sampling = some e) (hot : s.hot e.trunk = true) :
    sampleEnds v i s = s.setHv (s.hv.discharging e (reading v i)) := by
  simp only [sampleEnds, h, enterDischarge_hot _ hot, tellEngine_none]

theorem sampleEnds_none (v i : Nat) (h : atStage s .sampling = none) : sampleEnds v i s = s := by
  simp only [sampleEnds, h]

end

theorem insulationResistance_eq (v i : Nat) :
    insulationResistance v i = if i = 0 then 60000 else min 60000 (v * 1000 / i) := by
  unfold insulationResistance Config.insulationMax
  rw [min_comm]

/-- Settles O47, stage by stage. -/
theorem stagesAdvance : Obligations.StagesAdvance := by
  refine ⟨fun s v running => ⟨fun e he => ⟨fun hg => ?_, fun hg => ?_, fun hg hv => ?_, fun other => ?_, fun hg => ?_, fun hg => ?_⟩,
    fun he => ⟨?_, ?_, ?_⟩⟩, fun s e v i r running he => ⟨fun hg hot hr => ?_, fun hg => ?_⟩⟩
  · exact (next_running _ running).trans (congrArg _ (switchCloses_eq (atStage_some he hg)))
  · exact (next_running _ running).trans (congrArg _ (switchCloses_none (atStage_ne he hg)))
  · exact (next_running _ running).trans (congrArg _ (setpointReached_eq (atStage_some he hg) hv))
  · refine (next_running _ running).trans (congrArg _ (setpointReached_none fun f hf => ?_))
    by_cases hg : e.stage = .ramping
    · rw [atStage_some he hg] at hf
      cases hf
      exact other.resolve_left (not_not.mpr hg)
    · rw [atStage_ne he hg] at hf
      cases hf
  · exact (next_running _ running).trans (congrArg _ (dwellEnds_eq (atStage_some he hg)))
  · exact (next_running _ running).trans (congrArg _ (dwellEnds_none (atStage_ne he hg)))
  · exact (next_running _ running).trans (congrArg _ (switchCloses_none (atStage_none he _)))
  · exact (next_running _ running).trans (congrArg _ (setpointReached_none fun f hf => by rw [atStage_none he] at hf; cases hf))
  · exact (next_running _ running).trans (congrArg _ (dwellEnds_none (atStage_none he _)))
  · refine (next_running _ running).trans (congrArg _ ((sampleEnds_hot v i (atStage_some he hg) hot).trans ?_))
    rw [reading, insulationResistance_eq, ← hr]
    rfl
  · exact (next_running _ running).trans (congrArg _ (sampleEnds_none v i (atStage_ne he hg)))

/-- Settles O48: each condition of the supervision met in its stage enters the discharge, and any other changes nothing. -/
theorem arcsEnd : Obligations.ArcsEnd := fun s e hvi hvv running he hot => by
  have stage (g : Stage) : atStage s g = if e.stage = g then some e else none := by
    split
    · next h => exact atStage_some he h
    · next h => exact atStage_ne he h
  refine ⟨fun hg trip => ?_, fun other => ?_, fun hg sag => ?_, fun other => ?_, fun hg => ?_, fun hg => ?_⟩ <;>
    refine (next_running _ running).trans (congrArg _ ?_)
  · have watched : (atStage s .ramping).or (atStage s .dwelling) = some e := by
      rcases hg with hg | hg <;> simp [stage, hg]
    have reached : tripReached e hvi = true := decide_eq_true trip
    simp only [tripCurrent, watched, reached, if_true]
    exact arcs_hot _ hot
  · unfold tripCurrent
    split
    · next f hf =>
      rcases other with ⟨h1, h2⟩ | small
      · simp [stage, h1, h2] at hf
      · have same : f = e := by
          simp only [stage] at hf
          split at hf <;> split at hf <;> simp_all
        have short : tripReached f hvi = false := by rw [same]; exact decide_eq_false (Nat.not_le_of_lt small)
        rw [short]
        rfl
    · rfl
  · have reached : sagReached e hvv = true := decide_eq_true sag
    simp only [sags, atStage_some he hg, reached, if_true]
    exact arcs_hot _ hot
  · unfold sags
    split
    · next f hf =>
      rcases other with h1 | high
      · rw [atStage_ne he h1] at hf
        cases hf
      · have same : f = e := by
          rw [stage] at hf
          split at hf <;> simp_all
        have short : sagReached f hvv = false := by rw [same]; exact decide_eq_false (Nat.not_lt_of_le high)
        rw [short]
        rfl
    · rfl
  · simp only [rampTimesOut, atStage_some he hg]
    exact arcs_hot _ hot
  · simp only [rampTimesOut, atStage_ne he hg]

end Sys2Proof.Machine

/-! What handing a trunk a configuration does and leaves alone, and the grant of the source that the arbiter makes. -/

namespace Sys2Proof.Machine

/-! ## The parts of the HV unit -/

/-- The lending part of the HV unit: who holds and who asks (R116 to R121). -/
def Hv.lending (h : Hv) :
    (Option Station × Bool × Bool × Bool × Both Bool × Both Bool) × List Station × Nat × Option Nat × Bool :=
  ((h.holder, h.releasePending, h.quiet, h.reserved, h.stepAsk, h.reserveAsk), h.line, h.string, h.holdTimer, h.holderStep)

/-- The supply part of the HV unit: source, energisation, switch and path (R122 to R126). -/
def Hv.supply (h : Hv) : SourceState × Option Energisation × Switch × Option EnergResult × Bool :=
  (h.source, h.energ, h.sw, h.last, h.path)

/-- Lending, supply and terms are the whole unit. -/
theorem Hv.eq_of_parts {h k : Hv} (lending : h.lending = k.lending) (supply : h.supply = k.supply) (terms : h.terms = k.terms) : h = k := by
  cases h
  cases k
  simp_all [Hv.lending, Hv.supply, Hv.terms]

/-! ## Handing a configuration -/

/-- No energisation of trunk X stands that a change of the trunk would cut. -/
def Uncut (s : State) (x : Station) : Prop := ∀ e, s.hv.energ = some e → e.trunk = x → e.stage = .discharging

/-- Between s and t trunk X alone has been worked: every station, attention unit, the other trunk and channel, and the lending of the
source are as before, and so is the source where no energisation of the trunk could be cut. -/
structure Handing (x : Station) (s t : State) : Prop where
  benches : t.benches = s.benches
  attention : t.attention = s.attention
  trunk : ∀ y, y ≠ x → t.trunk y = s.trunk y
  channel : ∀ y, y ≠ x → t.channel y = s.channel y
  lending : t.hv.lending = s.hv.lending
  hv : Uncut s x → t.hv = s.hv
  settled : (s.trunk x).state ≠ .settled → t.hv = s.hv ∧ t.channels = s.channels

namespace Handing

variable {x : Station} {s t u : State}

theorem refl (x : Station) (s : State) : Handing x s s :=
  ⟨rfl, rfl, fun _ _ => rfl, fun _ _ => rfl, rfl, fun _ => rfl, fun _ => ⟨rfl, rfl⟩⟩

theorem of_setTrunk (s : State) (x : Station) (v : Trunk) : Handing x s (s.setTrunk x v) :=
  ⟨rfl, rfl, fun _ h => State.setTrunk_trunk_ne _ _ _ h, fun _ _ => rfl, rfl, fun _ => rfl, fun _ => ⟨rfl, rfl⟩⟩

/-- A change of the matrix behind one that may have left SETTLED. -/
theorem then_matrix (h : Handing x s t) {m : Matrix} (k : ∀ y, y ≠ x → m.trunks.get y = t.trunk y) : Handing x s (t.setMatrix m) :=
  ⟨h.benches, h.attention, fun y hy => (k y hy).trans (h.trunk y hy), h.channel, h.lending, h.hv, h.settled⟩

theorem then_setTrunk (h : Handing x s t) (v : Trunk) : Handing x s (t.setTrunk x v) :=
  ⟨h.benches, h.attention, fun y hy => (State.setTrunk_trunk_ne _ _ _ hy).trans (h.trunk y hy), h.channel, h.lending, h.hv, h.settled⟩

theorem then_requestLoad (h : Handing x s t) (y : Station) (r : Relays) : Handing x s (requestLoad y r t) :=
  h.then_matrix fun z _ => congrArg (fun v : Both Trunk => v.get z) (arbitrate_frame _).2.2

end Handing

section
variable {x : Station} {s : State}

/-- With no energisation of the trunk that could be cut, nothing ends. -/
theorem cutEnergisation_uncut (h : Uncut s x) (c : CutCause) : cutEnergisation x c s = (s, none) := by
  unfold cutEnergisation
  split
  · next e he =>
    split
    · next hx =>
      simp only [h e he hx]
    · rfl
  · rfl

theorem connectSource_uncut (h : Uncut s x) : connectSource x s = s := by
  unfold connectSource
  split
  · next e he =>
    split
    · next hx =>
      rw [h e he hx.1] at hx
      cases hx.2
    · rfl
  · rfl

theorem cutAperture_uncut (h : Uncut s x) : (cutAperture x s).hv = s.hv := by
  unfold cutAperture
  dsimp only
  split
  · split
    · rw [connectSource_uncut (s := s.setChannel x _) h]
      rfl
    · rfl
  · rfl

theorem leaveSettled_uncut (h : Uncut s x) : (leaveSettled x s).hv = s.hv := by
  unfold leaveSettled
  rw [cutEnergisation_uncut h]
  exact cutAperture_uncut h

/-- Between s and t only channel X and the supply of the source have changed. -/
structure Supplying (x : Station) (s t : State) : Prop where
  benches : t.benches = s.benches
  attention : t.attention = s.attention
  matrix : t.matrix = s.matrix
  channel : ∀ y, y ≠ x → t.channel y = s.channel y
  lending : t.hv.lending = s.hv.lending

theorem Supplying.refl (x : Station) (s : State) : Supplying x s s := ⟨rfl, rfl, rfl, fun _ _ => rfl, rfl⟩

theorem Supplying.trans {t u : State} (h : Supplying x s t) (k : Supplying x t u) : Supplying x s u :=
  ⟨k.benches.trans h.benches, k.attention.trans h.attention, k.matrix.trans h.matrix,
    fun y hy => (k.channel y hy).trans (h.channel y hy), k.lending.trans h.lending⟩

theorem supplying_setHv {h : Hv} (lending : h.lending = s.hv.lending) : Supplying x s (s.setHv h) :=
  ⟨rfl, rfl, rfl, fun _ _ => rfl, lending⟩

theorem supplying_setChannel (s : State) (x : Station) (c : Channel) : Supplying x s (s.setChannel x c) :=
  ⟨rfl, rfl, rfl, fun _ hy => State.setChannel_channel_ne _ _ _ hy, rfl⟩

theorem supplying_connectSource (x : Station) (s : State) : Supplying x s (connectSource x s) := by
  unfold connectSource
  repeat' split
  · exact supplying_setHv rfl
  · exact .refl x s
  · exact .refl x s

theorem supplying_cutAperture (x : Station) (s : State) : Supplying x s (cutAperture x s) := by
  unfold cutAperture
  dsimp only
  repeat' split
  · exact (supplying_setChannel s x _).trans (supplying_connectSource x _)
  · exact supplying_setChannel s x _
  · exact .refl x s

theorem supplying_endDischarge (e : Energisation) (o : EnergOutcome) (s : State) : Supplying e.trunk s (endDischarge e o s).1 :=
  (supplying_setHv (h := { s.hv with sw := .off, path := false, source := .off, energ := none, last := some (e.result o) }) rfl).trans
    (supplying_setChannel _ _ _)

theorem supplying_enterDischarge (e : Energisation) (o : EnergOutcome) (s : State) : Supplying e.trunk s (enterDischarge e o s).1 := by
  unfold enterDischarge
  split
  · exact supplying_setHv rfl
  · exact supplying_endDischarge e o s

theorem supplying_cutEnergisation (x : Station) (c : CutCause) (s : State) : Supplying x s (cutEnergisation x c s).1 := by
  unfold cutEnergisation
  split
  · next e _ =>
    split
    · next hx =>
      split
      · exact (supplying_setHv (h := { s.hv with energ := none, last := some (e.result (e.settle (.cut c))) }) rfl).trans
          (supplying_setChannel _ _ _)
      iterate 4 exact hx ▸ supplying_enterDischarge e _ s
      · exact .refl x s
    · exact .refl x s
  · exact .refl x s

theorem supplying_leaveSettled (x : Station) (s : State) : Supplying x s (leaveSettled x s) :=
  (supplying_cutEnergisation x _ s).trans (supplying_cutAperture x _)

theorem Supplying.handing {t : State} (h : Supplying x s t) (hv : Uncut s x → t.hv = s.hv) (settled : (s.trunk x).state = .settled) :
    Handing x s t :=
  ⟨h.benches, h.attention, fun y _ => by simp only [State.trunk, h.matrix], h.channel, h.lending, hv, fun n => absurd settled n⟩

theorem handing_takeUp (x : Station) (c : Configuration) (s : State) : Handing x s (takeUp x c s).1 := by
  have left : Handing x s (if (s.trunk x).state = .settled then leaveSettled x s else s) := by
    split
    · next h => exact (supplying_leaveSettled x s).handing leaveSettled_uncut h
    · exact .refl x s
  rcases takeUp_cases x c s _ _ rfl rfl with ⟨-, e⟩ | ⟨-, -, e⟩ | ⟨-, -, -, e⟩ | ⟨-, -, -, -, e⟩ | ⟨-, -, -, -, e⟩ <;> rw [e]
  · exact left.then_setTrunk _
  · exact (left.then_setTrunk _).then_requestLoad _ _
  · exact (left.then_setTrunk _).then_requestLoad _ _
  · exact left.then_setTrunk _
  · exact left.then_setTrunk _

/-- A trunk's request leaves every trunk's own record. -/
theorem requestLoad_trunk (x y : Station) (r : Relays) (s : State) : (requestLoad x r s).trunk y = s.trunk y :=
  congrArg (fun v : Both Trunk => v.get y) (arbitrate_frame _).2.2

/-- The configuration taken up is the one in work, where it was not complete at once. -/
theorem takeUp_config (x : Station) (c : Configuration) (s : State) :
    (takeUp x c s).2 = false ∧ ((takeUp x c s).1.trunk x).config = some c ∨
    (takeUp x c s).2 = true ∧ c = .empty ∧ ((takeUp x c s).1.trunk x).config = none := by
  rcases takeUp_cases x c s _ _ rfl rfl with ⟨-, e⟩ | ⟨-, -, e⟩ | ⟨-, -, -, e⟩ | ⟨-, -, -, empty, e⟩ | ⟨-, -, -, -, e⟩ <;> rw [e]
  · exact .inl ⟨rfl, by rw [State.setTrunk_trunk_same]⟩
  · exact .inl ⟨rfl, by rw [requestLoad_trunk, State.setTrunk_trunk_same]⟩
  · exact .inl ⟨rfl, by rw [requestLoad_trunk, State.setTrunk_trunk_same]⟩
  · exact .inr ⟨rfl, empty, by rw [State.setTrunk_trunk_same]; rfl⟩
  · exact .inl ⟨rfl, by rw [State.setTrunk_trunk_same]; rfl⟩

/-- An IDLE or SETTLED trunk takes an arriving configuration up at once on a READY matrix (R10). -/
theorem arrive_takes {x : Station} {s : State} (c : Configuration) (ready : s.matrix.state = .ready)
    (h : (s.trunk x).state = .idle ∨ (s.trunk x).state = .settled) : arrive x c s = takeUp x c s := by
  rcases h with h | h <;> simp [arrive, ready, h]

/-- A configuration waits where the matrix is not READY, the trunk is at work, or the supervisor all-open load is due (R9, R12, R16). -/
theorem arrive_waits {x : Station} {s : State} (c : Configuration)
    (h : s.matrix.state ≠ .ready ∨ (s.trunk x).state = .opening ∨ (s.trunk x).state = .closing ∨ (s.trunk x).state = .settling ∨
      (s.trunk x).state = .guarded ∧ (s.trunk x).part = .deviceAllOpen) :
    arrive x c s = (s.setTrunk x { s.trunk x with waiting := some c }, false) := by
  by_cases ready : s.matrix.state = .ready
  · rcases h with h | h | h | h | ⟨h, k⟩
    · exact absurd ready h
    all_goals simp [arrive, *]
  · simp [arrive, ready]

/-- A GUARDED trunk holds the newest configuration (R13). -/
theorem arrive_held {x : Station} {s : State} (c : Configuration) (ready : s.matrix.state = .ready)
    (h : (s.trunk x).state = .guarded) (part : (s.trunk x).part ≠ .deviceAllOpen) :
    arrive x c s = (s.setTrunk x { s.trunk x with config := some c, waiting := none }, false) := by
  simp [arrive, *]

/-- A configuration that arrives is taken up, waits or is held. -/
theorem arrive_cases (x : Station) (c : Configuration) (s : State) :
    arrive x c s = takeUp x c s ∨ arrive x c s = (s.setTrunk x { s.trunk x with waiting := some c }, false) ∨
    arrive x c s = (s.setTrunk x { s.trunk x with config := some c, waiting := none }, false) := by
  by_cases ready : s.matrix.state = .ready
  · cases h : (s.trunk x).state
    case idle => exact .inl (arrive_takes c ready (.inl h))
    case settled => exact .inl (arrive_takes c ready (.inr h))
    case guarded =>
      by_cases part : (s.trunk x).part = .deviceAllOpen
      · exact .inr (.inl (arrive_waits c (by simp [h, part])))
      · exact .inr (.inr (arrive_held c ready h part))
    all_goals exact .inr (.inl (arrive_waits c (by simp [h])))
  · exact .inr (.inl (arrive_waits c (.inl ready)))

theorem handing_arrive (x : Station) (c : Configuration) (s : State) : Handing x s (arrive x c s).1 := by
  rcases arrive_cases x c s with h | h | h <;> rw [h]
  · exact handing_takeUp x c s
  · exact .of_setTrunk s x _
  · exact .of_setTrunk s x _

/-- A configuration that has arrived is the one in work, or waits, where it was not complete at once. -/
theorem arrive_has (x : Station) (c : Configuration) (s : State) : TrunkHas (arrive x c s).1 x c := by
  rcases arrive_cases x c s with h | h | h <;> rw [h]
  · rcases takeUp_config x c s with ⟨-, k⟩ | ⟨-, k, -⟩
    · exact .inr (.inl k)
    · exact .inl k
  · exact .inr (.inr (by rw [State.setTrunk_trunk_same]))
  · exact .inr (.inl (by rw [State.setTrunk_trunk_same]))

end

end Sys2Proof.Machine

/-! The engines hand configurations, and the arbiter grants the source. -/

namespace Sys2Proof.Machine

/-! ## An engine hands a configuration -/

section
variable {x y : Station} {s t u : State}

theorem Handing.bench (h : Handing x s t) (y : Station) : t.bench y = s.bench y := by simp only [State.bench, h.benches]

theorem Handing.unit (h : Handing x s t) (p : Port) : t.unit p = s.unit p := by simp only [State.unit, h.attention]

/-- The station with a configuration handed. -/
def Bench.handing (b : Bench) (c : Configuration) : Bench := { b with handed := c, wait := .trunk }

theorem handing_handConfig (x : Station) (c : Configuration) (s : State) :
    Handing x (s.setBench x ((s.bench x).handing c)) (handConfig x c s) := handing_arrive x c _

theorem handConfig_bench_same (x : Station) (c : Configuration) (s : State) : (handConfig x c s).bench x = (s.bench x).handing c := by
  rw [(handing_handConfig x c s).bench, State.setBench_bench_same]

theorem handConfig_handed (x : Station) (c : Configuration) (s : State) : Handed (handConfig x c s) x c := by
  refine ⟨?_, ?_, arrive_has x c _⟩ <;> rw [handConfig_bench_same] <;> rfl

/-- Between s and t only station X, its trunk and channel, and the supply of the source have changed. -/
structure Apart (x : Station) (s t : State) : Prop where
  bench : ∀ y, y ≠ x → t.bench y = s.bench y
  attention : t.attention = s.attention
  trunk : ∀ y, y ≠ x → t.trunk y = s.trunk y
  channel : ∀ y, y ≠ x → t.channel y = s.channel y
  lending : t.hv.lending = s.hv.lending
  hv : Uncut s x → t.hv = s.hv

theorem Apart.refl (x : Station) (s : State) : Apart x s s :=
  ⟨fun _ _ => rfl, rfl, fun _ _ => rfl, fun _ _ => rfl, rfl, fun _ => rfl⟩

theorem Uncut.of_hv (h : Uncut s x) (e : t.hv = s.hv) : Uncut t x := by rw [Uncut, e]; exact h

theorem Apart.trans (h : Apart x s t) (k : Apart x t u) : Apart x s u :=
  ⟨fun y hy => (k.bench y hy).trans (h.bench y hy), k.attention.trans h.attention, fun y hy => (k.trunk y hy).trans (h.trunk y hy),
    fun y hy => (k.channel y hy).trans (h.channel y hy), k.lending.trans h.lending,
    fun e => (k.hv (e.of_hv (h.hv e))).trans (h.hv e)⟩

theorem Handing.apart (h : Handing x s t) : Apart x s t := ⟨fun y _ => h.bench y, h.attention, h.trunk, h.channel, h.lending, h.hv⟩

theorem apart_setBench (s : State) (x : Station) (b : Bench) : Apart x s (s.setBench x b) :=
  ⟨fun _ hy => State.setBench_bench_ne _ _ _ hy, rfl, fun _ _ => rfl, fun _ _ => rfl, rfl, fun _ => rfl⟩

theorem apart_handConfig (x : Station) (c : Configuration) (s : State) : Apart x s (handConfig x c s) :=
  (apart_setBench s x _).trans (handing_handConfig x c s).apart

theorem checking_iff (s : State) : checking s = true ↔ s.store.state = .checking := decide_eq_true_iff

theorem handStep_held (h : s.store.state = .checking) : handStep x s = holdRead x .step s := by
  simp [handStep, checking, h]

theorem handStep_handed {st : StepRecord} (h : s.store.state ≠ .checking) (hs : (s.bench x).step = some st) :
    handStep x s = handConfig x (stepConfig s.store.words st) s := by
  simp [handStep, checking, h, hs]

theorem apart_handStep (x : Station) (s : State) : Apart x s (handStep x s) := by
  unfold handStep holdRead
  split
  · exact apart_setBench s x _
  · split
    · exact apart_handConfig x _ s
    · exact .refl x s

theorem apart_stepMayGo (x : Station) (s : State) : Apart x s (stepMayGo x s) := by
  unfold stepMayGo
  split
  · split
    · exact (apart_setBench s x _).trans (apart_handStep x _)
    · exact .refl x s
  · exact .refl x s

/-- The step of a station in WAIT-HV enters CONFIGURE when it may go (R140). -/
theorem stepMayGo_waiting {st : StepRecord} (hs : (s.bench x).step = some st) (hw : st.state = .waitHv) :
    stepMayGo x s = handStep x (s.setBench x { s.bench x with step := some { st with state := .configure } }) := by
  simp [stepMayGo, hs, hw]

theorem stepMayGo_configures {st : StepRecord} (hs : (s.bench x).step = some st) (hw : st.state = .waitHv) :
    Configures s (stepMayGo x s) x st := by
  rw [stepMayGo_waiting hs hw]
  generalize hu : s.setBench x { s.bench x with step := some { st with state := .configure } } = u
  have step : (u.bench x).step = some { st with state := .configure } := by rw [← hu, State.setBench_bench_same]
  have store : u.store = s.store := by rw [← hu]; rfl
  by_cases hc : s.store.state = .checking
  · rw [handStep_held (by rw [store]; exact hc)]
    exact ⟨by simp [holdRead, step], fun _ => by simp [holdRead], fun n => absurd hc n⟩
  · rw [handStep_handed (by rw [store]; exact hc) step, store]
    refine ⟨?_, fun h => absurd h hc, fun _ => handConfig_handed x _ _⟩
    rw [handConfig_bench_same]
    exact step

end

/-! ## A grant -/

section
variable {x y : Station} {s t u : State}

theorem Notified.of_worked {p : Port} {n : Nat} (h : Worked s t) (k : Notified t u p n) : Notified s u p n := fun hn => by
  refine k ?_
  have : sourceLevel (t.unit p) n = sourceLevel (s.unit p) n := by unfold sourceLevel; rw [(h.units p).1]
  rw [this]
  exact hn

theorem Notified.worked {p : Port} {n : Nat} (k : Notified s t p n) (h : Worked t u) : Notified s u p n := fun hn =>
  (h.units p).2.2.2 n (k hn)

theorem notified_raise (p : Port) (n : Nat) (s : State) (hn : n < 16) : Notified s (raise p n s) p n := raise_pending p n s hn

theorem grant_stepless (h : s.hv.stepAsk.get x = false) : grant x s = raise x.port srcHvGranted (s.setHv (s.hv.granted x)) := by
  simp [grant, h]

theorem grant_stepping (h : s.hv.stepAsk.get x = true) :
    grant x s = stepMayGo x (raise x.port srcHvGranted (s.setHv (s.hv.granted x))) := by
  simp [grant, h]

/-- A grant changes the asks and the holding as the HV unit's part of it says, and nothing else of the lending. -/
theorem grant_lending (x : Station) (s : State) : (grant x s).hv.lending = (s.hv.granted x).lending := by
  unfold grant
  dsimp only
  split
  · exact (apart_stepMayGo x _).lending
  · rfl

theorem Hv.asks_clearAsks (h : Hv) (x : Station) : (h.clearAsks x).asks x = false := by
  simp [Hv.clearAsks, Hv.setReserveAsk, Hv.setStepAsk, Hv.lineUp, Hv.asks]

theorem Hv.asks_of_lending {h k : Hv} (e : h.lending = k.lending) (y : Station) : h.asks y = k.asks y := by
  simp only [Hv.lending, Prod.mk.injEq] at e
  obtain ⟨⟨-, -, -, -, hs, hr⟩, -⟩ := e
  simp only [Hv.asks, hs, hr]

/-- A grant to a station (R116, R120, R140). -/
theorem granted_grant (x : Station) (s : State) : Granted s (grant x s) x := by
  have lending := grant_lending x s
  have asks := (Hv.asks_of_lending lending x).trans (Hv.asks_clearAsks s.hv x)
  have raised : Notified s (raise x.port srcHvGranted (s.setHv (s.hv.granted x))) x.port srcHvGranted :=
    notified_raise x.port srcHvGranted (s.setHv (s.hv.granted x)) (by decide)
  simp only [Hv.lending, Hv.granted, Prod.mk.injEq] at lending
  obtain ⟨⟨holder, -, -, reserved, -, -⟩, -, string, timer, step⟩ := lending
  refine ⟨holder, asks, string, step, reserved, timer, ?_, fun ask st hs hw => ?_⟩
  · by_cases ask : s.hv.stepAsk.get x = true
    · rw [grant_stepping ask]
      exact raised.worked (worked_stepMayGo x _)
    · rw [grant_stepless (by simpa using ask)]
      exact raised
  · rw [grant_stepping ask]
    exact stepMayGo_configures (s := raise x.port srcHvGranted (s.setHv (s.hv.granted x))) hs hw

theorem lookForGrant_next (h : s.hv.next = some x) : lookForGrant s = grant x s := by
  have : s.hv.line.find? (fun y => s.hv.grantable y) = some x := h
  simp only [lookForGrant, this]

theorem lookForGrant_none (h : s.hv.next = none) : lookForGrant s = s := by
  have : s.hv.line.find? (fun y => s.hv.grantable y) = none := h
  simp only [lookForGrant, this]

theorem Hv.next_of_empty {h : Hv} (e : h.line = []) : h.next = none := by simp [Hv.next, e]

/-- The line and the conditions of a grant say who is next. -/
theorem Hv.next_congr {h k : Hv} (line : h.line = k.line) (g : ∀ z, h.grantable z = k.grantable z) : h.next = k.next := by
  unfold Hv.next
  rw [line]
  exact congrArg (fun f => k.line.find? f) (funext g)

/-- The arbiter grants the station that is next (R117). -/
theorem granted_lookForGrant (h : s.hv.next = some x) : Granted s (lookForGrant s) x := by
  rw [lookForGrant_next h]
  exact granted_grant x s

/-! ## A release -/

theorem releaseHolder_none (h : s.hv.holder = none) : releaseHolder s = s := by simp [releaseHolder, h]

theorem releaseHolder_pending (h : s.hv.holder = some x) (sw : s.hv.sw ≠ .off) :
    releaseHolder s = s.setHv { s.hv with releasePending := true } := by simp [releaseHolder, h, sw]

/-- The state after the HV unit's part of a release, with HV-RELEASED raised unless it is quiet (R119, R133). -/
def released (x : Station) (s : State) : State :=
  if s.hv.quiet then s.setHv s.hv.released else raise x.port srcHvReleased (s.setHv s.hv.released)

theorem releaseHolder_off (h : s.hv.holder = some x) (sw : s.hv.sw = .off) : releaseHolder s = lookForGrant (released x s) := by
  simp [releaseHolder, released, h, sw]

@[simp] theorem released_hv : (released x s).hv = s.hv.released := by unfold released; split <;> rfl
@[simp] theorem released_bench (y : Station) : (released x s).bench y = s.bench y := by unfold released; split <;> rfl
@[simp] theorem released_store : (released x s).store = s.store := by unfold released; split <;> rfl
@[simp] theorem released_matrix : (released x s).matrix = s.matrix := by unfold released; split <;> rfl
@[simp] theorem released_channels : (released x s).channels = s.channels := by unfold released; split <;> rfl

theorem worked_released (x : Station) (s : State) : Worked s (released x s) := by
  unfold released
  split
  · exact worked_setHv rfl
  · exact (worked_raise _ _ _).after (worked_setHv rfl)

theorem notified_released (loud : s.hv.quiet = false) : Notified s (released x s) x.port srcHvReleased := by
  rw [released, loud]
  exact notified_raise x.port srcHvReleased (s.setHv s.hv.released) (by decide)

/-- The conditions of a grant read permission, E-STOP, lid, latch and holder. -/
theorem Hv.grantable_congr {h k : Hv} (terms : h.terms = k.terms) (holder : h.holder = k.holder) (z : Station) :
    h.grantable z = k.grantable z := by
  simp only [Hv.terms, Prod.mk.injEq] at terms
  obtain ⟨permission, -, -, latch, lids, estop⟩ := terms
  simp only [Hv.grantable, permission, latch, lids, estop, holder]

theorem Hv.next_released (h : Hv) : h.released.next = ({ h with holder := none } : Hv).next :=
  Hv.next_congr rfl (Hv.grantable_congr rfl rfl)

/-- A grant after a release is a grant by the asks that stood before it. -/
theorem Granted.of_released (h : Granted (released x s) t y) : Granted s t y := by
  obtain ⟨holder, asks, string, step, reserved, timer, raised, configures⟩ := h
  simp only [released_hv, released_bench] at step reserved timer configures
  refine ⟨holder, asks, string, step, reserved, timer, raised.of_worked (worked_released x s), fun a st hs hw => ?_⟩
  have c := configures a st hs hw
  simpa only [Configures, released_store] using c

/-- A release with nobody to grant. -/
theorem releaseHolder_nobody (h : s.hv.holder = some x) (sw : s.hv.sw = .off) (next : ({ s.hv with holder := none } : Hv).next = none) :
    releaseHolder s = released x s := by
  rw [releaseHolder_off h sw, lookForGrant_none]
  rw [released_hv, Hv.next_released, next]

/-- A release that the station in line profits from (R117, R119). -/
theorem releaseHolder_grants (h : s.hv.holder = some x) (sw : s.hv.sw = .off)
    (next : ({ s.hv with holder := none } : Hv).next = some y) :
    Granted s (releaseHolder s) y ∧ (s.hv.quiet = false → Notified s (releaseHolder s) x.port srcHvReleased) := by
  rw [releaseHolder_off h sw]
  refine ⟨(granted_lookForGrant ?_).of_released, fun loud => (notified_released loud).worked (worked_lookForGrant _)⟩
  rw [released_hv, Hv.next_released, next]

/-- While no station's conditions hold, a release grants nobody. -/
theorem Hv.next_barred {h : Hv} (barred : ∀ z, h.grantable z = false) : h.next = none := by
  simp [Hv.next, barred]

end

end Sys2Proof.Machine

/-! Reserving, releasing and clearing the source; lids and E-STOP clearing. -/

namespace Sys2Proof.Machine

/-! ## RESERVE HV (R118) -/

section
variable {x y : Station} {s t : State}

theorem serveReserveHv_barred (h : s.hv.permission.allows = false) : serveReserveHv x s = same .hvBarred s := by
  simp [serveReserveHv, h]

theorem serveReserveHv_interlock (h : s.hv.permission.allows = true) (k : s.hv.estop = true ∨ s.hv.lidClosed.get x = false) :
    serveReserveHv x s = same .interlock s := by
  rcases k with k | k <;> simp [serveReserveHv, h, k]

theorem serveReserveHv_fault (h : s.hv.permission.allows = true) (estop : s.hv.estop = false) (lid : s.hv.lidClosed.get x = true)
    (latch : s.hv.latch ≠ none) : serveReserveHv x s = same .hvFault s := by
  simp [serveReserveHv, h, estop, lid, Option.isSome_iff_ne_none.mpr latch]

/-- With permission, E-STOP, lid and latch in order the request is judged by the holder. -/
theorem serveReserveHv_judged (h : s.hv.permission.allows = true) (estop : s.hv.estop = false) (lid : s.hv.lidClosed.get x = true)
    (latch : s.hv.latch = none) :
    serveReserveHv x s =
      if s.hv.holder = some x then
        if s.hv.releasePending then same .busy s
        else
          (s.setHv { s.hv with reserved := true, holdTimer := if s.hv.holderStep then s.hv.holdTimer else some s.hv.limits.hold },
            some (.plain .ok))
      else if s.hv.holder = none then (grant x (s.setHv (s.hv.setReserveAsk x true)), some (.plain .ok))
      else if s.hv.reserveAsk.get x then same .accepted s
      else (s.setHv (s.hv.setReserveAsk x true), some (.plain .accepted)) := by
  simp [serveReserveHv, h, estop, lid, latch]

theorem setReserveAsk_true (h : Hv) (x : Station) :
    h.setReserveAsk x true =
      { h with
        reserveAsk := h.reserveAsk.set x true
        line := if h.line.contains x then h.line else h.line ++ [x] } := by
  simp [Hv.setReserveAsk, Hv.lineUp, Hv.asks]

theorem Station.other_ne (x : Station) : x.other ≠ x := by cases x <;> decide

theorem taken_reserve (x : Station) : Taken x.port .reserveHv := taken_station rfl rfl nofun

end

/-- The payload of a plain answer, in the terms of the port: a state with its response. -/
theorem exec_plain {s : State} {i : Instr} {p : Port} {r : Request} {k : Byte} {v : Status} {t : State} (hi : i.request? = some (p, r))
    (hk : r.code = k) (h : Ready s p) (taken : Taken p r) (served : serve p r (ended p s) = (t, some (.plain v))) :
    exec i s = .next (respond p k (.plain v) t) := by
  rw [exec_replied hi hk h taken (a := .plain v) (by rw [served]), served]

theorem respond_status (p : Port) (c : Byte) (a : Reply) (t : State) :
    ((respond p c a t).port p).response.map (·.status) = some a.status := by
  unfold respond
  rw [State.setPort_port_same]
  rfl

/-- Settles O44, refusal by refusal, then by the holder. -/
theorem reserveAnswered : Obligations.ReserveAnswered := fun s x ready => by
  have same {v : Status} (h : serveReserveHv x (ended x.port s) = same v (ended x.port s)) :
      exec (.reserveHv x.port) s = .next (plainly x.port 0x43 v s) :=
    exec_same rfl rfl ready (taken_reserve x) ((ofStation_port x _ _).trans h)
  have plain {v : Status} {t : State} (h : serveReserveHv x (ended x.port s) = (ended x.port t, some (.plain v))) :
      exec (.reserveHv x.port) s = .next (plainly x.port 0x43 v t) :=
    exec_plainly rfl rfl ready (taken_reserve x) ((ofStation_port x _ _).trans h)
  refine ⟨fun h => same (serveReserveHv_barred h), fun allows => ⟨fun h => same (serveReserveHv_interlock allows h),
    fun estop lid => ⟨fun latch => same (serveReserveHv_fault allows estop lid latch), fun latch => ?_⟩⟩⟩
  have judged := serveReserveHv_judged (s := ended x.port s) (x := x) allows estop lid latch
  refine ⟨fun holder pending => same ?_, fun holder pending => plain ?_, fun holder ask => same ?_, fun holder ask => plain ?_,
    fun holder ask => ?_⟩
  · simp [judged, holder, pending]
  · simp [judged, holder, pending]
    rfl
  · simp [judged, holder, ask, Station.other_ne]
  · simp [judged, holder, ask, Station.other_ne, setReserveAsk_true]
    rfl
  · have stepless : (s.hv.setReserveAsk x true).stepAsk.get x = false := ask
    have asked : (s.hv.setReserveAsk x true).reserveAsk.get x = true := by simp [setReserveAsk_true]
    have served : serveReserveHv x (ended x.port s) =
        (grant x ((ended x.port s).setHv (s.hv.setReserveAsk x true)), some (.plain .ok)) := by
      simp [judged, holder]
    rw [grant_stepless (s := (ended x.port s).setHv (s.hv.setReserveAsk x true)) stepless] at served
    have cleared := Hv.asks_clearAsks (s.hv.setReserveAsk x true) x
    refine ⟨_, exec_plain rfl rfl ready (taken_reserve x) ((ofStation_port x _ _).trans served), respond_status _ _ _ _, rfl, ?_,
      rfl, stepless, ?_, cleared, rfl, rfl, rfl, rfl,
      notified_raise x.port srcHvGranted ((ended x.port s).setHv ((s.hv.setReserveAsk x true).granted x)) (by decide)⟩
    · show ((s.hv.setReserveAsk x true).reserveAsk.get x || _) = true
      rw [asked]
      rfl
    · show (if (s.hv.setReserveAsk x true).stepAsk.get x then _ else _) = _
      rw [stepless]
      rfl

end Sys2Proof.Machine

/-! While no grant can be made, the work of one station's step reaches that station alone. -/

namespace Sys2Proof.Machine

/-- No station can be granted: the permission bars grants, or E-STOP is active (R116, R130). -/
def Barred (s : State) : Prop := s.hv.permission.allows = false ∨ s.hv.estop = true

section
variable {x y : Station} {s t u : State}

theorem Barred.of_terms (b : Barred s) (h : t.hv.terms = s.hv.terms) : Barred t := by
  simp only [Hv.terms, Prod.mk.injEq] at h
  obtain ⟨permission, -, -, -, -, estop⟩ := h
  simpa only [Barred, permission, estop] using b

theorem Barred.worked (b : Barred s) (h : Worked s t) : Barred t := b.of_terms h.terms

theorem Barred.setBench (b : Barred s) (x : Station) (v : Bench) : Barred (s.setBench x v) := b

theorem Barred.raise (b : Barred s) (p : Port) (n : Nat) : Barred (raise p n s) := b

theorem Barred.setHv (b : Barred s) {h : Hv} (terms : h.terms = s.hv.terms) : Barred (s.setHv h) := b.of_terms terms

theorem Barred.next (b : Barred s) : s.hv.next = none :=
  Hv.next_barred fun z => by rcases b with b | b <;> simp [Hv.grantable, b]

theorem lookForGrant_barred (b : Barred s) : lookForGrant s = s := lookForGrant_none b.next

theorem releaseHolder_barred (b : Barred s) (h : s.hv.holder = some x) (sw : s.hv.sw = .off) : releaseHolder s = released x s := by
  rw [releaseHolder_off h sw, lookForGrant_barred (b.worked (worked_released x s))]

/-! ## The work of one station -/

/-- Between s and t no station but X has changed, nor its trunk or channel. -/
structure Beside (x : Station) (s t : State) : Prop where
  bench : ∀ y, y ≠ x → t.bench y = s.bench y
  trunk : ∀ y, y ≠ x → t.trunk y = s.trunk y
  channel : ∀ y, y ≠ x → t.channel y = s.channel y

theorem Beside.refl (x : Station) (s : State) : Beside x s s := ⟨fun _ _ => rfl, fun _ _ => rfl, fun _ _ => rfl⟩

theorem Beside.trans (h : Beside x s t) (k : Beside x t u) : Beside x s u :=
  ⟨fun y hy => (k.bench y hy).trans (h.bench y hy), fun y hy => (k.trunk y hy).trans (h.trunk y hy),
    fun y hy => (k.channel y hy).trans (h.channel y hy)⟩

/-- The last operation first: it fixes the state in between. -/
theorem Beside.after (k : Beside x t u) (h : Beside x s t) : Beside x s u := h.trans k

theorem Apart.beside (h : Apart x s t) : Beside x s t := ⟨h.bench, h.trunk, h.channel⟩

theorem Supplying.beside (h : Supplying x s t) : Beside x s t :=
  ⟨fun y _ => by simp only [State.bench, h.benches], fun y _ => by simp only [State.trunk, h.matrix], h.channel⟩

theorem beside_setHv (x : Station) (s : State) (h : Hv) : Beside x s (s.setHv h) := ⟨fun _ _ => rfl, fun _ _ => rfl, fun _ _ => rfl⟩

theorem beside_raise (x : Station) (p : Port) (n : Nat) (s : State) : Beside x s (raise p n s) :=
  ⟨fun _ _ => rfl, fun _ _ => rfl, fun _ _ => rfl⟩

theorem beside_setBench (x : Station) (s : State) (b : Bench) : Beside x s (s.setBench x b) := (apart_setBench s x b).beside

theorem beside_released (x z : Station) (s : State) : Beside x s (released z s) := by
  unfold released
  split
  · exact beside_setHv x s _
  · exact (beside_raise x _ _ _).after (beside_setHv x s _)

theorem beside_releaseHolder (b : Barred s) : Beside x s (releaseHolder s) := by
  rcases releaseHolder_cases s with ⟨-, e⟩ | ⟨-, -, e⟩ | ⟨z, h, sw, -⟩
  · rw [e]
    exact .refl x s
  · rw [e]
    exact beside_setHv x s _
  · rw [releaseHolder_barred b h sw]
    exact beside_released x z s

theorem beside_releaseIfDue (b : Barred s) : Beside x s (releaseIfDue s) := by
  unfold releaseIfDue
  split
  · exact beside_releaseHolder b
  · exact .refl x s

theorem beside_stepEnd (q : Bool) (b : Barred s) : Beside x s (stepEnd x q s) := by
  have release (h : Hv) (terms : h.terms = s.hv.terms) : Beside x s (releaseHolder (s.setHv h)) :=
    (beside_releaseHolder (b.worked (worked_setHv terms))).after (beside_setHv x s h)
  unfold stepEnd
  dsimp only
  split
  · split
    · exact release _ rfl
    · split
      · split
        · exact release _ (by split <;> split <;> rfl)
        · exact beside_setHv x s _
      · exact release _ rfl
  · exact .refl x s

theorem beside_stepWaits (b : Barred s) : Beside x s (stepWaits x s) := by
  unfold stepWaits
  split
  · exact (apart_stepMayGo x _).beside.after (beside_setHv x s _)
  · rw [lookForGrant_barred (b.setHv (terms_setStepAsk _ _ _))]
    exact beside_setHv x s _

theorem beside_takeUpQueued (q : StepRecord) (b : Barred s) : Beside x s (takeUpQueued x q s) := by
  unfold takeUpQueued
  dsimp only
  split
  · exact beside_setBench x s _
  · exact (beside_stepWaits (b.setBench x _)).after (beside_setBench x s _)

theorem beside_activityDone (b : Barred s) : Beside x s (activityDone x s) := by
  have done (v : Bench) : Beside x s (raise x.port srcStepDone (s.setBench x v)) :=
    (beside_raise x _ _ _).after (beside_setBench x s v)
  unfold activityDone
  dsimp only
  split
  · exact done _
  · split
    · exact (beside_takeUpQueued _ ((b.setBench x _).raise _ _)).after (done _)
    · exact done _
  all_goals exact beside_setBench x s _

theorem beside_handEmpty (b : Barred s) : Beside x s (handEmpty x s) := by
  have arrived := (handing_arrive x .empty (s.setBench x { s.bench x with handed := .empty, wait := .allOpen })).apart.beside.after
    (beside_setBench x s _)
  unfold handEmpty
  dsimp only
  split
  · refine (beside_activityDone (b.worked ?_)).after arrived
    exact Worked.after (worked_arrive _ _ _) (worked_setBench rfl)
  · exact arrived

theorem beside_finishStep (b : Barred s) : Beside x s (finishStep x s) := by
  unfold finishStep
  dsimp only
  split
  · next st _ =>
    have marked := beside_setBench x s { s.bench x with step := some { st with state := .finish }, locator := [] }
    have barred : Barred (s.setBench x { s.bench x with step := some { st with state := .finish }, locator := [] }) := b
    split
    · exact (beside_handEmpty (barred.setHv (terms_setStepAsk _ _ _))).after ((beside_setHv x _ _).after marked)
    · exact (beside_handEmpty (barred.worked (worked_stepEnd _ _ _))).after ((beside_stepEnd _ barred).after marked)
  · exact .refl x s

theorem beside_dropQueued (x : Station) (s : State) : Beside x s (dropQueued x s) := by
  unfold dropQueued
  split
  · exact (beside_setHv x _ _).after (beside_setBench x s _)
  · exact .refl x s

theorem beside_markInterrupted (x : Station) (s : State) : Beside x s (markInterrupted x s) :=
  (beside_setBench x _ _).after ((beside_setBench x _ _).after (beside_dropQueued x s))

theorem beside_recordDefect (x : Station) (b : Bool) (d : Defect) (s : State) : Beside x s (recordDefect x b d s) := by
  unfold recordDefect
  split
  · exact (beside_raise x _ _ _).after (beside_setBench x s _)
  · exact .refl x s

theorem beside_recordRanges (x : Station) (st : StepRecord) (es : List Entry) (s : State) : Beside x s (recordRanges x st es s) := by
  induction es generalizing s with
  | nil => exact .refl x s
  | cons e es ih => exact (ih _).after (beside_recordDefect x _ _ s)

theorem beside_handLocate (x : Station) (s : State) : Beside x s (handLocate x s) := by
  unfold handLocate holdRead
  split
  · exact beside_setBench x s _
  · split
    · exact (apart_handConfig x _ s).beside
    · exact .refl x s

theorem beside_locateNext (st : StepRecord) (r : List Entry × List Entry) (b : Barred s) : Beside x s (locateNext x st r s) := by
  have recorded := (beside_recordRanges x st r.2 (s.setBench x { s.bench x with locator := r.1 })).after (beside_setBench x s _)
  unfold locateNext
  dsimp only
  split
  · refine (beside_finishStep (b.worked ?_)).after recorded
    exact Worked.after (worked_recordRanges _ _ _ _) (worked_setBench rfl)
  · exact (beside_handLocate x _).after recorded

theorem beside_locateGoOn (st : StepRecord) (es : List Entry) (b : Barred s) : Beside x s (locateGoOn x st es s) := by
  unfold locateGoOn
  split
  · split
    · exact (beside_locateNext _ _ (b.worked (worked_recordDefect _ _ _ _))).after (beside_recordDefect x _ _ s)
    · exact beside_locateNext _ _ b
  · exact beside_locateNext _ _ b

theorem beside_stepResult (r : EnergResult) (b : Barred s) : Beside x s (stepResult x r s) := by
  unfold stepResult
  dsimp only
  split
  · next st0 _ =>
    split
    · have noted := beside_setBench x s { s.bench x with step := some (st0.after r) }
      have barred : Barred (s.setBench x { s.bench x with step := some (st0.after r) }) := b
      generalize s.setBench x { s.bench x with step := some (st0.after r) } = v at noted barred
      split
      · exact (beside_finishStep (barred.worked (worked_markInterrupted _ _))).after ((beside_markInterrupted x v).after noted)
      iterate 3 exact (beside_finishStep barred).after noted
      · split
        · refine Beside.after ?_ noted
          unfold locateResult
          split
          · exact beside_locateNext _ _ barred
          · exact beside_locateGoOn _ _ barred
        · refine Beside.after ?_ noted
          unfold stepReading
          split
          · exact beside_finishStep barred
          · split
            · exact (beside_locateGoOn _ _ (barred.setBench x _)).after (beside_setBench x v _)
            · exact (beside_finishStep (barred.worked (worked_recordDefect _ _ _ _))).after (beside_recordDefect x _ _ v)
      · exact (beside_finishStep (barred.worked (worked_recordDefect _ _ _ _))).after ((beside_recordDefect x _ _ v).after noted)
      · exact ((apart_handConfig x _ _).beside.after (beside_setBench x v _)).after noted
    · exact .refl x s
  · exact .refl x s

theorem beside_tellEngine {r : State × Ended} (b : Barred r.1) (told : r.2 = none ∨ ∃ v, r.2 = some (x, v)) :
    Beside x r.1 (tellEngine r) := by
  unfold tellEngine
  rcases told with e | ⟨v, e⟩ <;> rw [e]
  · exact .refl x _
  · exact (beside_releaseIfDue (b.worked (worked_stepResult _ _ _))).after (beside_stepResult v b)

/-- An interruption of a station's step reaches that station alone. -/
theorem beside_interruptStep (c : CutCause) (b : Barred s) : Beside x s (interruptStep x c s) := by
  have marked := beside_markInterrupted x s
  have barred := b.worked (worked_markInterrupted x s)
  unfold interruptStep
  dsimp only
  split
  · split
    · split
      · exact .refl x s
      · exact beside_dropQueued x s
    · split
      · exact (beside_tellEngine (barred.worked (worked_cutEnergisation _ _ _)) (cutEnergisation_told x c _).1).after
          ((supplying_cutEnergisation x c _).beside.after marked)
      · exact (beside_finishStep barred).after marked
  · exact .refl x s

end

end Sys2Proof.Machine

/-! Taking up a configuration, said once: where it is complete at once, and what it makes of the trunk (R10). -/

namespace Sys2Proof.Machine

section
variable {x y z : Station} {s t u : State}

theorem targetOf_empty (w : Window) : targetOf w .empty = .allOpen := by
  simp [targetOf, Configuration.empty, Relays.allOpen, Window.map]

theorem closesSome_allOpen (r : Relays) : r.closesSome .allOpen = false := by
  simp [Relays.closesSome, Relays.allOpen]

/-- The state in which trunk X has left SETTLED, where it stood there. -/
def left (x : Station) (s : State) : State := if (s.trunk x).state = .settled then leaveSettled x s else s

/-- Leaving SETTLED changes nothing that decides how a configuration is taken up. -/
theorem left_matrix (x : Station) (s : State) : (left x s).matrix = s.matrix := by
  unfold left
  split
  · exact (supplying_leaveSettled x s).matrix
  · rfl

theorem left_unsettled (h : (s.trunk x).state ≠ .settled) : left x s = s := if_neg h

theorem left_trunk (x y : Station) (s : State) : (left x s).trunk y = s.trunk y := by simp only [State.trunk, left_matrix]
theorem left_hot (x y : Station) (s : State) : (left x s).hot y = s.hot y := by simp only [State.hot, left_matrix]
theorem left_window (x y : Station) (s : State) : (left x s).window y = s.window y := by simp only [State.window, left_matrix]
theorem left_relays (x y : Station) (s : State) : trunkRelays (left x s) y = trunkRelays s y := by
  simp only [trunkRelays, State.window, left_matrix]

/-- The trunk with a configuration taken up. -/
def takingUp (x : Station) (c : Configuration) (s : State) : Trunk :=
  { s.trunk x with config := some c, target := targetOf (s.window x) c, part := .load, settleTimer := none }

/-- Taking up, in terms of the state before. -/
theorem takeUp_eq (x : Station) (c : Configuration) (s : State) :
    takeUp x c s =
      if s.hot x then ((left x s).setTrunk x { takingUp x c s with state := .guarded }, false)
      else if (trunkRelays s x).opensSome (targetOf (s.window x) c) then
        (requestLoad x ((trunkRelays s x).opened (targetOf (s.window x) c))
          ((left x s).setTrunk x { takingUp x c s with state := .opening }), false)
      else if (trunkRelays s x).closesSome (targetOf (s.window x) c) then
        (requestLoad x (targetOf (s.window x) c) ((left x s).setTrunk x { takingUp x c s with state := .closing }), false)
      else if c = .empty then ((left x s).setTrunk x (takingUp x c s).rest, true)
      else ((left x s).setTrunk x (takingUp x c s).settle, false) := by
  have h : (if (s.trunk x).state = .settled then leaveSettled x s else s) = left x s := rfl
  unfold takeUp
  simp only [h, left_trunk, left_hot, left_window, left_relays]
  rfl

theorem takeUp_hot (c : Configuration) (hot : s.hot x = true) :
    takeUp x c s = ((left x s).setTrunk x { takingUp x c s with state := .guarded }, false) := by
  rw [takeUp_eq, if_pos hot]

section
variable {c : Configuration} (cold : s.hot x = false)
include cold

theorem takeUp_opens (o : (trunkRelays s x).opensSome (targetOf (s.window x) c) = true) :
    takeUp x c s =
      (requestLoad x ((trunkRelays s x).opened (targetOf (s.window x) c))
        ((left x s).setTrunk x { takingUp x c s with state := .opening }), false) := by
  rw [takeUp_eq, cold, if_neg Bool.false_ne_true, if_pos o]

variable (o : (trunkRelays s x).opensSome (targetOf (s.window x) c) = false)
include o

theorem takeUp_closes (k : (trunkRelays s x).closesSome (targetOf (s.window x) c) = true) :
    takeUp x c s = (requestLoad x (targetOf (s.window x) c) ((left x s).setTrunk x { takingUp x c s with state := .closing }), false) := by
  rw [takeUp_eq, cold, if_neg Bool.false_ne_true, o, if_neg Bool.false_ne_true, if_pos k]

theorem takeUp_settles (k : (trunkRelays s x).closesSome (targetOf (s.window x) c) = false) (n : c ≠ .empty) :
    takeUp x c s = ((left x s).setTrunk x (takingUp x c s).settle, false) := by
  rw [takeUp_eq, cold, if_neg Bool.false_ne_true, o, if_neg Bool.false_ne_true, k, if_neg Bool.false_ne_true, if_neg n]

end

theorem takeUp_done (c : Configuration) (d : DoneAtOnce s x c) :
    takeUp x c s = ((left x s).setTrunk x (takingUp x c s).rest, true) := by
  obtain ⟨rfl, cold, o, k⟩ := d
  rw [takeUp_eq, cold, if_neg Bool.false_ne_true, o, if_neg Bool.false_ne_true, k, if_neg Bool.false_ne_true, if_pos rfl]

/-- A configuration is complete at once exactly where R10 says so. -/
theorem takeUp_done_iff (x : Station) (c : Configuration) (s : State) : (takeUp x c s).2 = true ↔ DoneAtOnce s x c := by
  refine ⟨fun h => ?_, fun d => by rw [takeUp_done c d]⟩
  by_contra n
  cases hot : s.hot x
  case true => simp [takeUp_hot c hot] at h
  case false =>
    cases o : (trunkRelays s x).opensSome (targetOf (s.window x) c)
    case true => simp [takeUp_opens hot o] at h
    case false =>
      cases k : (trunkRelays s x).closesSome (targetOf (s.window x) c)
      case true => simp [takeUp_closes hot o k] at h
      case false =>
        have points : c ≠ .empty := fun e => n ⟨e, hot, o, k⟩
        simp [takeUp_settles hot o k points] at h

theorem doneAtOnce_empty (s : State) (x : Station) : DoneAtOnce s x .empty ↔ s.hot x = false ∧ ¬ Closed s x := by
  simp [DoneAtOnce, Closed, targetOf_empty, closesSome_allOpen]

/-- The empty configuration needs no load exactly on a cold trunk whose relays are all open (R10). -/
theorem takeUp_empty_done (x : Station) (s : State) : (takeUp x .empty s).2 = true ↔ s.hot x = false ∧ ¬ Closed s x := by
  rw [takeUp_done_iff, doneAtOnce_empty]

theorem arrive_empty_pending (h : Closed s x ∨ s.hot x = true) : (arrive x .empty s).2 = false := by
  rcases arrive_cases x .empty s with e | e | e <;> rw [e]
  rw [Bool.eq_false_iff, ne_eq, takeUp_empty_done]
  rintro ⟨cold, open_⟩
  rcases h with h | h
  · exact open_ h
  · rw [cold] at h
    cases h

/-! ## A trunk's request -/

/-- The matrix with a trunk's request in its slot. -/
def Matrix.asking (m : Matrix) (x : Station) (r : Relays) : Matrix := { m with slots := m.slots.set x (some r) }

theorem requestLoad_eq (x : Station) (r : Relays) (s : State) : requestLoad x r s = s.setMatrix (s.matrix.asking x r).arbitrate := rfl

/-- Whether a housekeeping request may start is read from the image, the table and the monitors (R5). -/
theorem mayStart_congr {m n : Matrix} (image : m.image = n.image) (table : m.selTable = n.selTable) (hot : m.hot = n.hot)
    (k : Housekeeping) : m.mayStart k = n.mayStart k := by
  cases m
  cases n
  dsimp only at image table hot
  subst image table hot
  cases k <;> rfl

/-- A trunk's request on a chain where nothing else may start, or behind a load in progress (R3, R4). -/
theorem loadRequested {m : Matrix} (hm : u.matrix = m) (load : m.load = s.matrix.load) (hk : m.hk = s.matrix.hk) (slots : m.slots = s.matrix.slots)
    (last : m.lastServed = s.matrix.lastServed) (ground : m.ground = s.matrix.ground) (r : Relays) :
    LoadRequested s (requestLoad x r u) x r := by
  simp only [Matrix.ground, Prod.mk.injEq] at ground
  obtain ⟨-, image, table, -, windows, hot, -⟩ := ground
  have may (k : Housekeeping) : (m.asking x r).mayStart k = s.matrix.mayStart k :=
    mayStart_congr image table hot k
  have contents : (m.asking x r).trunkLoad x r = s.matrix.trunkLoad x r := by
    simp only [Matrix.trunkLoad, Matrix.asking, Matrix.known, image, table, windows]
  rw [requestLoad_eq, hm]
  refine ⟨fun free none alone => ?_, fun l busy => ?_⟩
  · have other : (m.asking x r).slots.get x.other = Option.none := by
      show (m.slots.set x (some r)).get x.other = _
      rw [Both.get_set_other, slots, alone]
    have mine : (m.asking x r).slots.get x = some r := Both.get_set_same _ _ _
    have started : (m.asking x r).arbitrate =
        { m.asking x r with
          load := some ((m.asking x r).trunkLoad x r)
          slots := (m.asking x r).slots.set x Option.none
          lastServed := x } := by
      rw [arbitrate_trunk (m := m.asking x r) (load.trans free) (fun k h => by rw [may]; exact none k (hk.symm.trans h))]
      exact startTrunk_some mine (.inl other)
    simp only [State.setMatrix_matrix, started, contents]
    exact ⟨trivial, Both.get_set_same _ _ _, trivial⟩
  · rw [State.setMatrix_matrix, arbitrate_busy (m := m.asking x r) (l := l) (load.trans busy)]
    exact ⟨load.trans busy, Both.get_set_same _ _ _, last⟩

/-- What taking up makes of the trunk (R10). -/
theorem takesUp_takeUp (x : Station) (c : Configuration) (s : State) : TakesUp s (takeUp x c s).1 x c (s.trunk x).waiting := by
  rintro g rfl now rfl k rfl
  have trunk (r : Relays) (v : Trunk) : (requestLoad x r ((left x s).setTrunk x v)).trunk x = v := by
    rw [requestLoad_trunk, State.setTrunk_trunk_same]
  have requested (r : Relays) (v : Trunk) : LoadRequested s (requestLoad x r ((left x s).setTrunk x v)) x r := by
    refine loadRequested (m := { s.matrix with trunks := s.matrix.trunks.set x v }) ?_ rfl rfl rfl rfl rfl r
    rw [State.setTrunk_matrix, left_matrix]
  refine ⟨fun hot => ?_, fun cold => ⟨fun o => ?_, fun o k => ?_, fun o k n => ?_⟩⟩
  · rw [takeUp_hot c hot, State.setTrunk_trunk_same]
    rfl
  · rw [takeUp_opens cold o]
    exact ⟨(trunk _ _).trans rfl, requested _ _⟩
  · rw [takeUp_closes cold o k]
    exact ⟨(trunk _ _).trans rfl, requested _ _⟩
  · rw [takeUp_settles cold o k n, State.setTrunk_trunk_same]
    rfl

end

end Sys2Proof.Machine

/-! The equations of a step's end and of its interruption. -/

namespace Sys2Proof.Machine

section
variable {x y z : Station} {s t u : State}

/-! ## What a grant leaves of a station whose step does not wait for it -/

/-- Station Z, its trunk and its channel stand as they stood. -/
structure Untouched (z : Station) (s t : State) : Prop where
  bench : t.bench z = s.bench z
  trunk : t.trunk z = s.trunk z
  channel : t.channel z = s.channel z

theorem Untouched.refl (z : Station) (s : State) : Untouched z s s := ⟨rfl, rfl, rfl⟩

theorem Untouched.trans (h : Untouched z s t) (k : Untouched z t u) : Untouched z s u :=
  ⟨k.bench.trans h.bench, k.trunk.trans h.trunk, k.channel.trans h.channel⟩

theorem Beside.untouched (h : Beside x s t) (hz : z ≠ x) : Untouched z s t := ⟨h.bench z hz, h.trunk z hz, h.channel z hz⟩

/-- The step of station Z is not in WAIT-HV. -/
def NotWaiting (s : State) (z : Station) : Prop := ∀ st, (s.bench z).step = some st → st.state ≠ .waitHv

theorem NotWaiting.of_bench (h : NotWaiting s z) (e : t.bench z = s.bench z) : NotWaiting t z := by
  rw [NotWaiting, e]
  exact h

theorem stepMayGo_idle (h : NotWaiting s x) : stepMayGo x s = s := by
  unfold stepMayGo
  split
  · next st hs => rw [if_neg (h st hs)]
  · rfl

theorem untouched_stepMayGo (h : NotWaiting s z) : Untouched z s (stepMayGo x s) := by
  by_cases hz : z = x
  · subst hz
    rw [stepMayGo_idle h]
    exact .refl z s
  · exact (apart_stepMayGo x s).beside.untouched hz

theorem untouched_grant (h : NotWaiting s z) : Untouched z s (grant x s) := by
  unfold grant
  dsimp only
  split
  · have k := untouched_stepMayGo (x := x) (s := raise x.port srcHvGranted (s.setHv (s.hv.granted x))) h
    exact ⟨k.bench, k.trunk, k.channel⟩
  · exact ⟨rfl, rfl, rfl⟩

theorem untouched_lookForGrant (h : NotWaiting s z) : Untouched z s (lookForGrant s) := by
  rcases lookForGrant_cases s with ⟨-, e⟩ | ⟨y, -, -, e⟩ <;> rw [e]
  · exact .refl z s
  · exact untouched_grant h

theorem untouched_released (z x : Station) (s : State) : Untouched z s (released x s) := by
  unfold released
  split <;> exact ⟨rfl, rfl, rfl⟩

theorem untouched_releaseHolder (h : NotWaiting s z) : Untouched z s (releaseHolder s) := by
  rcases releaseHolder_cases s with ⟨-, e⟩ | ⟨-, -, e⟩ | ⟨x, hx, sw, -⟩
  · rw [e]
    exact .refl z s
  · rw [e]
    exact ⟨rfl, rfl, rfl⟩
  · rw [releaseHolder_off hx sw]
    have r := untouched_released z x s
    exact r.trans (untouched_lookForGrant (h.of_bench r.bench))

theorem untouched_releaseIfDue (h : NotWaiting s z) : Untouched z s (releaseIfDue s) := by
  unfold releaseIfDue
  split
  · exact untouched_releaseHolder h
  · exact .refl z s

theorem untouched_stepEnd (q : Bool) (h : NotWaiting s z) : Untouched z s (stepEnd x q s) := by
  have release (v : Hv) : Untouched z s (releaseHolder (s.setHv v)) := by
    have k := untouched_releaseHolder (s := s.setHv v) h
    exact ⟨k.bench, k.trunk, k.channel⟩
  unfold stepEnd
  dsimp only
  split
  · split
    · exact release _
    · split
      · split
        · exact release _
        · exact ⟨rfl, rfl, rfl⟩
      · exact release _
  · exact .refl z s

/-! ## The queued step and the marks of an interruption -/

/-- The HV unit after the queued step of a station is dropped (R145). -/
def Hv.unqueued (h : Hv) (x : Station) (queued : Bool) : Hv := if queued then h.setStepAsk x false else h

theorem dropQueued_eq (x : Station) (s : State) :
    dropQueued x s =
      (s.setBench x { s.bench x with queued := none }).setHv (s.hv.unqueued x (s.bench x).queued.isSome) := by
  unfold dropQueued Hv.unqueued
  cases h : (s.bench x).queued with
  | some q => simp
  | none =>
    have same : s.setBench x { s.bench x with queued := none } = s := by
      rw [← h]
      cases x <;> rfl
    simp only [Option.isSome_none, Bool.false_eq_true, if_false, same]
    rfl

/-- A station whose step is interrupted, with its record marked and the queued step dropped (R145). -/
def Bench.interrupted (b : Bench) : Bench :=
  { b with
    record := b.record.map (fun r => { r with stepInterrupted := true })
    locator := []
    step := b.step.map (fun st => { st with interrupted := true })
    queued := none }

theorem markInterrupted_eq (x : Station) (s : State) :
    markInterrupted x s = (s.setBench x (s.bench x).interrupted).setHv (s.hv.unqueued x (s.bench x).queued.isSome) := by
  unfold markInterrupted mapRecord
  rw [dropQueued_eq]
  simp only [State.setHv_bench, State.setBench_bench_same]
  unfold Bench.interrupted
  cases x <;> rfl

theorem Hv.unqueued_lending (h : Hv) (x : Station) (q : Bool) :
    (h.unqueued x q).holder = h.holder ∧ (h.unqueued x q).releasePending = h.releasePending ∧ (h.unqueued x q).quiet = h.quiet ∧
    (h.unqueued x q).reserved = h.reserved ∧ (h.unqueued x q).reserveAsk = h.reserveAsk ∧ (h.unqueued x q).string = h.string ∧
    (h.unqueued x q).holdTimer = h.holdTimer ∧ (h.unqueued x q).holderStep = h.holderStep := by
  cases q <;> exact ⟨rfl, rfl, rfl, rfl, rfl, rfl, rfl, rfl⟩

theorem Hv.unqueued_supply (h : Hv) (x : Station) (q : Bool) : (h.unqueued x q).supply = h.supply := by cases q <;> rfl

theorem Hv.unqueued_terms (h : Hv) (x : Station) (q : Bool) : (h.unqueued x q).terms = h.terms := by cases q <;> rfl

theorem Hv.energ_of_supply {h k : Hv} (e : h.supply = k.supply) : h.energ = k.energ := congrArg (fun v => v.2.1) e
theorem Hv.sw_of_supply {h k : Hv} (e : h.supply = k.supply) : h.sw = k.sw := congrArg (fun v => v.2.2.1) e
theorem Hv.source_of_supply {h k : Hv} (e : h.supply = k.supply) : h.source = k.source := congrArg (fun v => v.1) e

/-! ## Finishing a step (R144) -/

/-- A station whose step has entered FINISH. -/
def Bench.finishing (b : Bench) (st : StepRecord) : Bench := { b with step := some { st with state := .finish }, locator := [] }

/-- A station that has handed the empty configuration and waits for it (R68). -/
def Bench.clearing (b : Bench) : Bench := { b with handed := .empty, wait := .allOpen }

theorem finishStep_waiting {st : StepRecord} (hs : (s.bench x).step = some st) (hw : st.state = .waitHv) :
    finishStep x s = handEmpty x ((s.setBench x ((s.bench x).finishing st)).setHv (s.hv.setStepAsk x false)) := by
  simp only [finishStep, hs, hw, if_true]
  rfl

theorem finishStep_ends {st : StepRecord} (hs : (s.bench x).step = some st) (hw : st.state ≠ .waitHv) :
    finishStep x s = handEmpty x (stepEnd x (s.bench x).queued.isSome (s.setBench x ((s.bench x).finishing st))) := by
  simp only [finishStep, hs, if_neg hw]
  rfl

theorem notWaiting_finishing (s : State) (x : Station) (st : StepRecord) : NotWaiting (s.setBench x ((s.bench x).finishing st)) x := by
  intro st' h
  rw [State.setBench_bench_same] at h
  cases h
  exact nofun

/-- The empty configuration is handed and not complete at once. -/
theorem handEmpty_pending (h : (arrive x .empty (s.setBench x (s.bench x).clearing)).2 = false) :
    handEmpty x s = (arrive x .empty (s.setBench x (s.bench x).clearing)).1 := by
  unfold Bench.clearing at h
  simp only [handEmpty, h]
  rfl

theorem handEmpty_done (h : (arrive x .empty (s.setBench x (s.bench x).clearing)).2 = true) :
    handEmpty x s = activityDone x (arrive x .empty (s.setBench x (s.bench x).clearing)).1 := by
  unfold Bench.clearing at h
  simp only [handEmpty, h]
  rfl

/-- Where the empty configuration is not complete at once, handing it changes station X, its trunk, and what a cut of them needs. -/
theorem apart_handEmpty (h : (arrive x .empty (s.setBench x (s.bench x).clearing)).2 = false) : Apart x s (handEmpty x s) := by
  rw [handEmpty_pending h]
  exact (apart_setBench s x _).trans (handing_arrive x .empty _).apart

theorem handEmpty_bench_same (h : (arrive x .empty (s.setBench x (s.bench x).clearing)).2 = false) :
    (handEmpty x s).bench x = (s.bench x).clearing := by
  rw [handEmpty_pending h, (handing_arrive x .empty _).bench, State.setBench_bench_same]

/-- A trunk that stands, closed or hot, on a READY matrix has the empty configuration in work (R10, R13). -/
theorem arrive_empty_config (ready : s.matrix.state = .ready) (h : (s.trunk x).state = .idle ∨ (s.trunk x).state = .settled)
    (needs : Closed s x ∨ s.hot x = true) : ((arrive x .empty s).1.trunk x).config = some .empty := by
  have pending := arrive_empty_pending needs
  rw [arrive_takes .empty ready h] at pending ⊢
  rcases takeUp_config x .empty s with ⟨-, k⟩ | ⟨k, -⟩
  · exact k
  · rw [k] at pending
    cases pending

/-! ## Ends of the energisation -/

/-- A cut of an energisation that runs on a hot trunk discharges it with the cut noted (R128). -/
theorem cutEnergisation_hot {e : Energisation} (c : CutCause) (h : s.hv.energ = some e)
    (stage : e.stage = .connecting ∨ e.stage = .ramping ∨ e.stage = .dwelling ∨ e.stage = .sampling) (hot : s.hot e.trunk = true) :
    cutEnergisation e.trunk c s = (s.setHv (s.hv.discharging e (e.settle (.cut c))), none) := by
  rcases stage with g | g | g | g <;> simp only [cutEnergisation, h, g, if_true, enterDischarge_hot _ hot]

theorem interruptStep_none (c : CutCause) (h : (s.bench x).step = none) : interruptStep x c s = s := by
  simp [interruptStep, h]

theorem interruptStep_finish {st : StepRecord} {c : CutCause} (h : (s.bench x).step = some st) (f : st.state = .finish) (hc : c ≠ .abort) :
    interruptStep x c s = dropQueued x s := by
  simp [interruptStep, h, f, hc]

theorem interruptStep_configuring {st : StepRecord} (c : CutCause) (h : (s.bench x).step = some st) (f : st.state ≠ .finish)
    (w : (s.bench x).wait ≠ .energisation) : interruptStep x c s = finishStep x (markInterrupted x s) := by
  simp [interruptStep, h, f, w]

theorem interruptStep_energised {st : StepRecord} (c : CutCause) (h : (s.bench x).step = some st) (f : st.state ≠ .finish)
    (w : (s.bench x).wait = .energisation) : interruptStep x c s = tellEngine (cutEnergisation x c (markInterrupted x s)) := by
  simp [interruptStep, h, f, w]

/-- An interruption of a step whose energisation runs on a hot trunk: the marks, and the discharge (R128, R145). -/
theorem interruptStep_discharges {st : StepRecord} {e : Energisation} (c : CutCause) (h : (s.bench e.trunk).step = some st)
    (f : st.state ≠ .finish) (w : (s.bench e.trunk).wait = .energisation) (he : s.hv.energ = some e)
    (stage : e.stage = .connecting ∨ e.stage = .ramping ∨ e.stage = .dwelling ∨ e.stage = .sampling) (hot : s.hot e.trunk = true) :
    interruptStep e.trunk c s =
      (s.setBench e.trunk (s.bench e.trunk).interrupted).setHv
        ((s.hv.unqueued e.trunk (s.bench e.trunk).queued.isSome).discharging e (e.settle (.cut c))) := by
  have marked : (markInterrupted e.trunk s).hv.energ = some e := by
    rw [markInterrupted_eq]
    exact (Hv.energ_of_supply (Hv.unqueued_supply _ _ _)).trans he
  have hot' : (markInterrupted e.trunk s).hot e.trunk = true := by
    rw [markInterrupted_eq]
    exact hot
  rw [interruptStep_energised c h f w, cutEnergisation_hot c marked stage hot', tellEngine_none, markInterrupted_eq]
  rfl

/-- A release that is pending stays so while the switch does not stand OFF (R119). -/
theorem releaseIfDue_pending (due : s.hv.releasePending = true) (held : s.hv.holder = some x) (sw : s.hv.sw ≠ .off) :
    releaseIfDue s = s.setHv { s.hv with releasePending := true } := by
  rw [releaseIfDue, if_pos due, releaseHolder_pending held sw]

theorem releaseIfDue_not (h : s.hv.releasePending = false) : releaseIfDue s = s := by simp [releaseIfDue, h]

theorem releaseIfDue_due (h : s.hv.releasePending = true) : releaseIfDue s = releaseHolder s := by simp [releaseIfDue, h]

end

end Sys2Proof.Machine

/-! Lids (R117, R129). -/

namespace Sys2Proof.Machine

section
variable {x y : Station} {s : State}

/-- The HV unit of a holder that is to lose the source, its release pending (R129 to R131). -/
def Hv.losing (h : Hv) : Hv := { h with reserved := false, holdTimer := none, releasePending := true }

theorem loseSource_held (held : s.hv.holder = some x) : loseSource s = s.setHv s.hv.losing := by
  unfold loseSource
  rw [held]
  rfl

/-- The HV unit once a holder that loses the source has had its energisation cut: the discharge runs, and the release waits for its end. -/
def Hv.cutting (h : Hv) (x : Station) (queued : Bool) (e : Energisation) (c : CutCause) : Hv :=
  (h.losing.unqueued x queued).discharging e (.cut c)

/-- A holder loses the source while its energisation runs on its hot trunk: the step is marked, the energisation cut, and the release
stays pending behind the discharge (R119, R128, R145). -/
theorem losing_discharges {st : StepRecord} {e : Energisation} (c : CutCause) (lost : s.hv = s.hv.losing) (held : s.hv.holder = some e.trunk)
    (he : s.hv.energ = some e) (stage : e.stage = .connecting ∨ e.stage = .ramping ∨ e.stage = .dwelling ∨ e.stage = .sampling)
    (sw : s.hv.sw ≠ .off) (open_ : e.outcome = none) (hot : s.hot e.trunk = true) (hs : (s.bench e.trunk).step = some st)
    (f : st.state ≠ .finish) (w : (s.bench e.trunk).wait = .energisation) :
    releaseIfDue (interruptStep e.trunk c s) =
      (s.setBench e.trunk (s.bench e.trunk).interrupted).setHv (s.hv.cutting e.trunk (s.bench e.trunk).queued.isSome e c) := by
  obtain ⟨holder, pending, -⟩ := Hv.unqueued_lending s.hv e.trunk (s.bench e.trunk).queued.isSome
  have due : s.hv.releasePending = true := by rw [lost]; rfl
  have noted : e.settle (.cut c) = .cut c := by rw [Energisation.settle, open_]; rfl
  have cut : (s.hv.unqueued e.trunk (s.bench e.trunk).queued.isSome).discharging e (.cut c) =
      s.hv.cutting e.trunk (s.bench e.trunk).queued.isSome e c := by rw [Hv.cutting, ← lost]
  have kept : { s.hv.cutting e.trunk (s.bench e.trunk).queued.isSome e c with releasePending := true } =
      s.hv.cutting e.trunk (s.bench e.trunk).queued.isSome e c := by
    cases (s.bench e.trunk).queued <;> rfl
  rw [interruptStep_discharges c hs f w he stage hot, noted, cut]
  rw [releaseIfDue_pending (x := e.trunk) ?_ ?_ ?_]
  · simp only [State.setHv_hv, kept]
    rfl
  · exact (by rw [State.setHv_hv, ← cut]; exact pending.trans due)
  · rw [State.setHv_hv, ← cut]
    exact holder.trans held
  · rw [State.setHv_hv, ← cut]
    show (s.hv.unqueued e.trunk _).sw ≠ .off
    rw [Hv.sw_of_supply (Hv.unqueued_supply _ _ _)]
    exact sw

theorem cutting_fields (h : Hv) (x : Station) (q : Bool) (e : Energisation) (c : CutCause) :
    (h.cutting x q e c).source = .discharging ∧ (h.cutting x q e c).path = true ∧
    (h.cutting x q e c).energ = some { e with stage := .discharging, outcome := some (.cut c) } ∧
    (h.cutting x q e c).releasePending = true ∧ (h.cutting x q e c).reserved = false ∧ (h.cutting x q e c).terms = h.terms := by
  cases q <;> exact ⟨rfl, rfl, rfl, rfl, rfl, rfl⟩

/-- An idle holder with the switch OFF and nobody to grant is released (R119, R129). -/
theorem losing_releases (c : CutCause) (lost : s.hv.releasePending = true) (held : s.hv.holder = some x) (sw : s.hv.sw = .off)
    (next : ({ s.hv with holder := none } : Hv).next = none) (idle : (s.bench x).step = none) :
    releaseIfDue (interruptStep x c s) = released x s := by
  rw [interruptStep_none c idle, releaseIfDue_due lost, releaseHolder_nobody held sw next]

/-- The HV unit after the release of an idle holder. -/
def Hv.letGo (h : Hv) : Hv :=
  { h with holder := none, reserved := false, releasePending := false, holdTimer := none, holderStep := false }

theorem released_loud (loud : s.hv.quiet = false) : released x s = raise x.port srcHvReleased (s.setHv s.hv.letGo) := by
  have : s.hv.released = s.hv.letGo := by simp [Hv.released, Hv.letGo, loud]
  simp [released, loud, this]

/-- The HV unit with a lid's state taken. -/
def Hv.withLid (h : Hv) (x : Station) (closed : Bool) : Hv := { h with lidClosed := h.lidClosed.set x closed }

theorem lidOpens_other (closed : s.hv.lidClosed.get x = true) (other : s.hv.holder ≠ some x) :
    lidOpens x s = s.setHv (s.hv.withLid x false) := by
  simp only [lidOpens, closed, other, if_true, if_false]
  rfl

theorem lidOpens_holder (closed : s.hv.lidClosed.get x = true) (held : s.hv.holder = some x) :
    lidOpens x s = holderLidOpens x (s.setHv (s.hv.withLid x false)) := by
  simp only [lidOpens, closed, held, if_true]
  rfl

/-- Settles O50: the lid of a holder cuts through `losing_discharges`, or releases; a lid that closes lets the arbiter look. -/
theorem lidsAct : Obligations.LidsAct := fun s x running => by
  have opens := next_running (s := s) (lidOpens x) running
  have closes := next_running (s := s) (lidCloses x) running
  refine ⟨fun closed other => ?_, fun closed held idle off sw line loud => ?_,
    fun e st closed held he trunk stage on sw outcome hot hs f w => ?_, fun open_ line => ?_, fun open_ y next => ?_⟩
  · exact opens.trans (congrArg _ (lidOpens_other closed other))
  · refine opens.trans (congrArg _ ?_)
    have lost : holderLidOpens x (s.setHv (s.hv.withLid x false)) =
        releaseIfDue (interruptStep x .lid (loseSource (s.setHv (s.hv.withLid x false)))) := by
      rw [holderLidOpens, State.setHv_hv, show (s.hv.withLid x false).source = .off from off]
      rfl
    rw [lidOpens_holder closed held, lost, loseSource_held (s := s.setHv (s.hv.withLid x false)) held]
    refine (losing_releases (s := s.setHv (s.hv.withLid x false).losing) .lid rfl held sw (Hv.next_of_empty line) idle).trans ?_
    exact released_loud (s := s.setHv (s.hv.withLid x false).losing) loud
  · subst trunk
    generalize hu : lidInterlock e.trunk (s.setHv (s.hv.withLid e.trunk false)) = u
    have hv : u.hv = s.hv.withLid e.trunk false := by rw [← hu]; rfl
    have bench (y : Station) : u.bench y = s.bench y := by rw [← hu]; rfl
    have hot' : u.hot e.trunk = true := by rw [← hu]; exact hot
    have lost : lidOpens e.trunk s = releaseIfDue (interruptStep e.trunk .lid (u.setHv u.hv.losing)) := by
      have loses := loseSource_held (s := u) (x := e.trunk) (by rw [hv]; exact held)
      rw [lidOpens_holder closed held, ← loses, ← hu, holderLidOpens, State.setHv_hv,
        if_pos (show (s.hv.withLid e.trunk false).source.outputOn = true from on)]
    have cut := losing_discharges (s := u.setHv u.hv.losing) .lid rfl (by rw [hv]; exact held) (by rw [hv]; exact he) (.inr stage)
      (by rw [hv]; exact fun off => nomatch sw.symm.trans off) outcome hot' (by rw [State.setHv_bench, bench, hs]) f
      (by rw [State.setHv_bench, bench]; exact w)
    rw [State.setHv_hv, State.setHv_bench, bench] at cut
    rw [← lost] at cut
    obtain ⟨source, path, energ, pending, reserved, -⟩ := cutting_fields u.hv.losing e.trunk (s.bench e.trunk).queued.isSome e .lid
    have interlock (p : Port) (hp : p = e.trunk.port ∨ p = .ps) : Notified s u p srcInterlock := by
      have first : Notified s (raise e.trunk.port srcInterlock (s.setHv (s.hv.withLid e.trunk false))) e.trunk.port srcInterlock :=
        notified_raise _ _ _ (by decide)
      rw [← hu]
      rcases hp with rfl | rfl
      · exact first.worked (worked_raise _ _ _)
      · exact (notified_raise .ps srcInterlock (raise e.trunk.port srcInterlock (s.setHv _)) (by decide)).of_worked
          (s := s.setHv (s.hv.withLid e.trunk false)) (worked_raise _ _ _)
    refine ⟨_, opens, ?_⟩
    rw [cut]
    refine ⟨source, path, energ, pending, reserved, ?_, ?_, interlock _ (.inl rfl), interlock _ (.inr rfl), ?_⟩
    · simp [Bench.interrupted, hs]
    · simp [Bench.interrupted]
    · simp [bench]
  · refine closes.trans (congrArg _ ?_)
    rw [lidCloses, open_, if_neg Bool.false_ne_true]
    exact lookForGrant_none (s := s.setHv (s.hv.withLid x true)) (Hv.next_of_empty line)
  · refine ⟨_, closes, ?_⟩
    rw [lidCloses, open_, if_neg Bool.false_ne_true]
    have lids := congrArg (fun v => v.2.2.2.2.1) (worked_lookForGrant (s.setHv (s.hv.withLid x true))).terms
    exact ⟨lids, granted_lookForGrant (s := s.setHv (s.hv.withLid x true)) next⟩

end

end Sys2Proof.Machine

/-! The end of a step under a release that is pending, a failed discharge, and CLEAR HV FAULT (R126, R127). -/

namespace Sys2Proof.Machine

section
variable {x y z : Station} {s t u : State}

/-! ## The step end reported, and the empty configuration handed -/

/-- The state in which a step has entered FINISH: the step end is reported, or in WAIT-HV the ask withdrawn (R144). -/
def stepClosed (x : Station) (st : StepRecord) (s : State) : State :=
  if st.state = .waitHv then (s.setBench x ((s.bench x).finishing st)).setHv (s.hv.setStepAsk x false)
  else stepEnd x (s.bench x).queued.isSome (s.setBench x ((s.bench x).finishing st))

theorem finishStep_eq {st : StepRecord} (hs : (s.bench x).step = some st) : finishStep x s = handEmpty x (stepClosed x st s) := by
  unfold stepClosed
  split
  · next w => exact finishStep_waiting hs w
  · next w => exact finishStep_ends hs w

theorem worked_stepClosed (x : Station) (st : StepRecord) (s : State) : Worked s (stepClosed x st s) := by
  have marked : Worked s (s.setBench x ((s.bench x).finishing st)) := worked_setBench rfl
  unfold stepClosed
  split
  · exact marked.trans (worked_setHv rfl)
  · exact marked.trans (worked_stepEnd _ _ _)

theorem untouched_stepClosed (st : StepRecord) (s : State) : Untouched x (s.setBench x ((s.bench x).finishing st)) (stepClosed x st s) := by
  unfold stepClosed
  split
  · exact ⟨rfl, rfl, rfl⟩
  · exact untouched_stepEnd _ (notWaiting_finishing s x st)

theorem stepClosed_bench (st : StepRecord) (s : State) : (stepClosed x st s).bench x = (s.bench x).finishing st :=
  (untouched_stepClosed st s).bench.trans (State.setBench_bench_same _ _ _)

theorem stepClosed_trunk (st : StepRecord) (s : State) : (stepClosed x st s).trunk x = s.trunk x := (untouched_stepClosed st s).trunk

theorem Worked.hotAt (h : Worked s t) (y : Station) : t.hot y = s.hot y := by simp only [State.hot, h.hot]

theorem Worked.windowAt (h : Worked s t) (y : Station) : t.window y = s.window y := by simp only [State.window, h.windows]

theorem Worked.relays (h : Worked s t) (y : Station) : trunkRelays t y = trunkRelays s y := by
  simp only [trunkRelays, Matrix.known, h.image, h.windowAt]

/-- A trunk that works on a configuration, so that a new one waits (R12). -/
def Working (s : State) (x : Station) : Prop :=
  (s.trunk x).state = .opening ∨ (s.trunk x).state = .closing ∨ (s.trunk x).state = .settling

theorem arrive_working (c : Configuration) (w : Working s x) :
    arrive x c s = (s.setTrunk x { s.trunk x with waiting := some c }, false) := by
  refine arrive_waits c (.inr ?_)
  rcases w with w | w | w
  · exact .inl w
  · exact .inr (.inl w)
  · exact .inr (.inr (.inl w))

/-- On a trunk at work, closed or hot, the empty configuration of a step's end is not complete at once. -/
theorem finishStep_pending {st : StepRecord} (hs : (s.bench x).step = some st) (needs : Closed s x ∨ s.hot x = true ∨ Working s x) :
    Apart x (stepClosed x st s) (finishStep x s) ∧ (finishStep x s).bench x = ((s.bench x).finishing st).clearing ∧
    finishStep x s = (arrive x .empty ((stepClosed x st s).setBench x ((s.bench x).finishing st).clearing)).1 := by
  have w := worked_stepClosed x st s
  have pending : (arrive x .empty ((stepClosed x st s).setBench x ((stepClosed x st s).bench x).clearing)).2 = false := by
    rcases needs with closed | hot | works
    · refine arrive_empty_pending (.inl ?_)
      show (trunkRelays (stepClosed x st s) x).opensSome .allOpen = true
      rw [w.relays]
      exact closed
    · refine arrive_empty_pending (.inr ?_)
      rw [State.setBench_hot, w.hotAt, hot]
    · rw [arrive_working]
      show Working (stepClosed x st s) x
      unfold Working
      rw [stepClosed_trunk]
      exact works
  rw [finishStep_eq hs]
  refine ⟨apart_handEmpty pending, ?_, ?_⟩
  · rw [handEmpty_bench_same pending, stepClosed_bench]
  · rw [handEmpty_pending pending, stepClosed_bench]

/-- A step's end behind a pending release with the switch set changes nothing of the holding (R119, item 1). -/
theorem stepEnd_pending (q : Bool) (held : s.hv.holder = some x) (due : s.hv.releasePending = true) (sw : s.hv.sw ≠ .off) :
    stepEnd x q s = s.setHv { s.hv.countString with holderStep := false, releasePending := true } := by
  have due' : s.hv.countString.releasePending = true := due
  rw [stepEnd, if_pos held]
  dsimp only
  rw [if_pos due']
  exact releaseHolder_pending (s := s.setHv { s.hv.countString with holderStep := false }) held sw

/-- What a step's end behind a pending release with the switch set leaves of the HV unit. -/
structure StillHeld (h k : Hv) (x : Station) : Prop where
  holder : k.holder = h.holder
  pending : k.releasePending = true
  reserved : k.reserved = h.reserved
  ask : h.stepAsk.get x = false → k.stepAsk.get x = false
  supply : k.supply = h.supply
  terms : k.terms = h.terms

theorem stepClosed_stillHeld (st : StepRecord) (held : s.hv.holder = some x) (due : s.hv.releasePending = true) (sw : s.hv.sw ≠ .off) :
    StillHeld s.hv (stepClosed x st s).hv x := by
  unfold stepClosed
  split
  · exact ⟨rfl, due, rfl, fun _ => Both.get_set_same _ _ _, rfl, rfl⟩
  · rw [stepEnd_pending (s := s.setBench x ((s.bench x).finishing st)) _ held due sw]
    exact ⟨rfl, rfl, rfl, id, rfl, rfl⟩

/-- A step ends on a hot trunk behind a pending release, with no energisation: only the station, its trunk and the marks of the step end
change. -/
theorem finishStep_stillHeld {st : StepRecord} (hs : (s.bench x).step = some st) (hot : s.hot x = true) (held : s.hv.holder = some x)
    (due : s.hv.releasePending = true) (sw : s.hv.sw ≠ .off) (none : s.hv.energ = none) : StillHeld s.hv (finishStep x s).hv x := by
  have closed := stepClosed_stillHeld st held due sw
  have uncut : Uncut (stepClosed x st s) x := fun e he _ => by
    rw [Hv.energ_of_supply closed.supply, none] at he
    cases he
  rw [(finishStep_pending hs (.inr (.inl hot))).1.hv uncut]
  exact closed

/-- With no energisation, what a grant hands a trunk cuts nothing. -/
theorem supply_lookForGrant (none : s.hv.energ = none) : (lookForGrant s).hv.supply = s.hv.supply := by
  rcases lookForGrant_cases s with ⟨-, e⟩ | ⟨y, -, -, e⟩ <;> rw [e]
  unfold grant
  dsimp only
  split
  · exact (congrArg Hv.supply <| (apart_stepMayGo y (raise y.port srcHvGranted (s.setHv (s.hv.granted y)))).hv
      fun e he _ => nomatch none.symm.trans he).trans rfl
  · rfl

/-! ## A failed discharge (R126) -/

theorem stepResult_fault {st : StepRecord} {r : EnergResult} (hs : (s.bench x).step = some st) (run : (s.bench x).run = .insulation)
    (wait : (s.bench x).wait = .energisation) (fault : r.outcome = .fault) :
    stepResult x r s = finishStep x (markInterrupted x (s.setBench x { s.bench x with step := some (st.after r) })) := by
  unfold stepResult
  simp only [hs, run, wait, fault, and_self, if_true]

/-- A result that no step waits for is discarded. -/
theorem stepResult_discarded (r : EnergResult) (h : (s.bench x).step = none ∨ ¬ ((s.bench x).run = .insulation ∧ (s.bench x).wait = .energisation)) :
    stepResult x r s = s := by
  unfold stepResult
  dsimp only
  split
  · next st hs =>
    rcases h with h | h
    · rw [hs] at h
      cases h
    · rw [if_neg h]
  · rfl

/-- The HV unit after a failed discharge (R126). -/
def Hv.failed (h : Hv) (e : Energisation) : Hv :=
  { h with
    latch := some e.trunk
    source := .faulted
    energ := none
    last := some (e.result .fault)
    reserved := false
    holdTimer := none
    releasePending := true }

theorem dischargeTimesOut_hot {e : Energisation} (h : atStage s .discharging = some e) (hot : s.hot e.trunk = true) :
    dischargeTimesOut s = releaseIfDue (stepResult e.trunk (e.result .fault) (raise .ps srcHvFault (s.setHv (s.hv.failed e)))) := by
  simp only [dischargeTimesOut, h, hot, if_true]
  rfl

theorem dischargeTimesOut_cold {e : Energisation} (h : atStage s .discharging = some e) (cold : s.hot e.trunk = false) :
    dischargeTimesOut s = s := by
  simp [dischargeTimesOut, h, cold]

/-- The step of a station whose discharge has failed is marked, dropped from the queue, and finished. -/
theorem stepResult_failed {st : StepRecord} {e : Energisation} (hs : (s.bench x).step = some st) (run : (s.bench x).run = .insulation)
    (wait : (s.bench x).wait = .energisation) (hot : s.hot x = true) (held : s.hv.holder = some x) (due : s.hv.releasePending = true)
    (sw : s.hv.sw ≠ .off) (none : s.hv.energ = none) :
    StillHeld s.hv (stepResult x (e.result .fault) s).hv x ∧
    (stepResult x (e.result .fault) s).bench x =
      (({ s.bench x with step := some (st.after (e.result .fault)) } : Bench).interrupted.finishing
        { st.after (e.result .fault) with interrupted := true }).clearing ∧
    ((s.bench x).queued.isSome = true → (stepResult x (e.result .fault) s).hv.stepAsk.get x = false) := by
  rw [stepResult_fault hs run wait rfl, markInterrupted_eq]
  simp only [State.setBench_bench_same]
  generalize hm : (((s.setBench x { s.bench x with step := some (st.after (e.result .fault)) }).setBench x
    ({ s.bench x with step := some (st.after (e.result .fault)) } : Bench).interrupted).setHv
      ((s.setBench x { s.bench x with step := some (st.after (e.result .fault)) }).hv.unqueued x (s.bench x).queued.isSome)) = m
  have hv : m.hv = s.hv.unqueued x (s.bench x).queued.isSome := by rw [← hm]; rfl
  have bench : m.bench x = ({ s.bench x with step := some (st.after (e.result .fault)) } : Bench).interrupted := by
    rw [← hm, State.setHv_bench, State.setBench_bench_same]
  have step : (m.bench x).step = some { st.after (e.result .fault) with interrupted := true } := by rw [bench]; rfl
  have hot' : m.hot x = true := by rw [← hm]; exact hot
  obtain ⟨holder, pending, -, reserved, -⟩ := Hv.unqueued_lending s.hv x (s.bench x).queued.isSome
  have supply := Hv.unqueued_supply s.hv x (s.bench x).queued.isSome
  have terms := Hv.unqueued_terms s.hv x (s.bench x).queued.isSome
  rw [← hv] at holder pending reserved supply terms
  have still := finishStep_stillHeld step hot' (holder.trans held) (pending.trans due) (by rw [Hv.sw_of_supply supply]; exact sw)
    ((Hv.energ_of_supply supply).trans none)
  refine ⟨⟨still.holder.trans holder, still.pending, still.reserved.trans reserved, fun a => still.ask ?_, still.supply.trans supply,
    still.terms.trans terms⟩, ?_, fun q => still.ask ?_⟩
  · rw [hv, Hv.unqueued]
    split
    · exact Both.get_set_same _ _ _
    · exact a
  · rw [(finishStep_pending step (.inr (.inl hot'))).2.1, bench]
  · rw [hv, Hv.unqueued, if_pos q]
    exact Both.get_set_same _ _ _

theorem StillHeld.refl {h : Hv} (due : h.releasePending = true) : StillHeld h h x := ⟨rfl, due, rfl, id, rfl, rfl⟩

/-- Settles O49: the timeout through `stepResult_failed`; CLEAR HV FAULT by the latch and its monitor. -/
theorem dischargeFault : Obligations.DischargeFault := by
  refine ⟨fun s e running he stage => ⟨fun hot held sw => ?_, fun cold => ?_⟩, fun s ready => ?_⟩
  · have fails := (next_running dischargeTimesOut running).trans (congrArg _ (dischargeTimesOut_hot (atStage_some he stage) hot))
    generalize hu : raise .ps srcHvFault (s.setHv (s.hv.failed e)) = u at fails
    have hv : u.hv = s.hv.failed e := by rw [← hu]; rfl
    have bench (y : Station) : u.bench y = s.bench y := by rw [← hu]; rfl
    have raised : Notified s u .ps srcHvFault := by
      rw [← hu]
      exact notified_raise .ps srcHvFault (s.setHv (s.hv.failed e)) (by decide)
    have held' : u.hv.holder = some e.trunk := by rw [hv]; exact held
    have sw' : u.hv.sw = .to e.trunk := by rw [hv]; exact sw
    have set : u.hv.sw ≠ .off := fun off => nomatch sw'.symm.trans off
    have due : u.hv.releasePending = true := by rw [hv]; rfl
    have hot' : u.hot e.trunk = true := by rw [← hu]; exact hot
    have gone : u.hv.energ = none := by rw [hv]; rfl
    have still : StillHeld u.hv (stepResult e.trunk (e.result .fault) u).hv e.trunk := by
      by_cases h : ∃ st, (u.bench e.trunk).step = some st ∧ (u.bench e.trunk).run = .insulation ∧ (u.bench e.trunk).wait = .energisation
      · obtain ⟨st, hs, run, wait⟩ := h
        exact (stepResult_failed hs run wait hot' held' due set gone).1
      · rw [stepResult_discarded]
        · exact .refl due
        · by_contra n
          obtain ⟨some_, wait⟩ := not_or.mp n
          obtain ⟨st, hs⟩ := Option.ne_none_iff_exists'.mp some_
          exact h ⟨st, hs, not_not.mp wait⟩
    generalize hv' : stepResult e.trunk (e.result .fault) u = v at fails still
    have kept : releaseIfDue v = v.setHv { v.hv with releasePending := true } :=
      releaseIfDue_pending still.pending (still.holder.trans held') (by rw [Hv.sw_of_supply still.supply]; exact set)
    have worked : Worked u v := hv' ▸ worked_stepResult _ _ _
    have supply := still.supply
    have terms := still.terms
    simp only [Hv.supply, Hv.terms, Prod.mk.injEq, hv] at supply terms
    obtain ⟨source, energ, switch, last, path⟩ := supply
    obtain ⟨-, -, -, latch, -⟩ := terms
    rw [kept] at fails
    refine ⟨_, fails, latch, source, energ, switch.trans sw, path, still.holder.trans held', ?_, rfl, last,
      (raised.worked worked).worked (worked_setHv (h := { v.hv with releasePending := true }) rfl), fun st hs r hr waits => ?_⟩
    · rw [State.setHv_hv]
      show v.hv.reserved = false
      rw [still.reserved, hv]
      rfl
    · obtain ⟨-, -, -, -, -, -, -, -, run, wait, -⟩ := waits
      have failed := stepResult_failed (e := e) (s := u) (x := e.trunk) (st := st) (by rw [bench, hs]) (by rw [bench, run])
        (by rw [bench, wait]) hot' held' due set gone
      rw [hv', bench] at failed
      obtain ⟨-, after, ask⟩ := failed
      simp only [State.setHv_bench, after]
      exact ⟨rfl, congrArg (Option.map _) hr, rfl, ask, rfl⟩
  · exact (next_running dischargeTimesOut running).trans (congrArg _ (dischargeTimesOut_cold (atStage_some he stage) cold))
  · have taken : Taken .ps .clearHvFault := taken_ps rfl rfl nofun
    have clears {x : Station} (latch : s.hv.latch = some x) (cold : s.hot x = false) :
        serveClearHvFault (ended .ps s) =
          (lookForGrant ((ended .ps s).setHv { s.hv with latch := none, source := .off }), some (.plain .ok)) := by
      simp [serveClearHvFault, latch, cold]
    refine ⟨fun clear => exec_same rfl rfl ready taken ?_, fun x latch hot => exec_same rfl rfl ready taken ?_,
      fun x latch cold line => exec_plainly (t := s.setHv { s.hv with latch := none, source := .off }) rfl rfl ready taken ?_,
      fun x latch cold none y next => ?_, fun p ready' hp => exec_notPermitted rfl rfl ready' rfl (by cases p <;> simp_all [PortClass.holds]) rfl⟩
    · show serveClearHvFault _ = _
      simp [serveClearHvFault, clear]
    · show serveClearHvFault _ = _
      simp [serveClearHvFault, latch, hot]
    · refine (clears latch cold).trans ?_
      rw [lookForGrant_none (Hv.next_of_empty (h := { s.hv with latch := none, source := .off }) line)]
      rfl
    · have supply : (lookForGrant ((ended .ps s).setHv { s.hv with latch := Option.none, source := .off })).hv.supply =
          ({ s.hv with latch := Option.none, source := .off } : Hv).supply :=
        supply_lookForGrant (s := (ended .ps s).setHv { s.hv with latch := Option.none, source := .off }) none
      have worked := worked_lookForGrant ((ended .ps s).setHv { s.hv with latch := Option.none, source := .off })
      have granted := granted_lookForGrant (s := (ended .ps s).setHv { s.hv with latch := Option.none, source := .off }) (x := y) next
      refine ⟨_, exec_plain rfl rfl ready taken (clears latch cold), respond_status _ _ _ _, ?_, ?_, granted⟩
      · exact congrArg (fun v => v.2.2.2.1) worked.terms
      · exact Hv.source_of_supply supply

end

end Sys2Proof.Machine

/-! SET HV PERMISSION (R114, R131). -/

namespace Sys2Proof.Machine

section
variable {x y z : Station} {s t u : State}

/-- On a trunk at work the empty configuration of a step's end waits (R12). -/
theorem finishStep_working {st : StepRecord} (hs : (s.bench x).step = some st) (w : Working s x) :
    finishStep x s =
      ((stepClosed x st s).setBench x ((s.bench x).finishing st).clearing).setTrunk x { s.trunk x with waiting := some .empty } := by
  have works : Working ((stepClosed x st s).setBench x ((s.bench x).finishing st).clearing) x := by
    show Working (stepClosed x st s) x
    unfold Working
    rw [stepClosed_trunk]
    exact w
  rw [(finishStep_pending hs (.inr (.inr w))).2.2, arrive_working _ works, State.setBench_trunk, stepClosed_trunk]

/-- Under a bar, a step end behind a pending release with the switch OFF releases the holder. -/
theorem stepClosed_releases {st : StepRecord} (b : Barred s) (held : s.hv.holder = some x) (due : s.hv.releasePending = true)
    (sw : s.hv.sw = .off) (f : st.state ≠ .waitHv) :
    stepClosed x st s =
      released x ((s.setBench x ((s.bench x).finishing st)).setHv { s.hv.countString with holderStep := false }) := by
  have due' : s.hv.countString.releasePending = true := due
  rw [stepClosed, if_neg f, stepEnd, if_pos (show (s.setBench x _).hv.holder = some x from held)]
  dsimp only
  rw [if_pos (show (s.setBench x _).hv.countString.releasePending = true from due')]
  exact releaseHolder_barred (s := (s.setBench x ((s.bench x).finishing st)).setHv { s.hv.countString with holderStep := false })
    b held sw

/-- Under a bar, the step of a holder that loses the source finishes, and the release is made with the switch OFF (R119, R145). -/
theorem finishStep_losing {st : StepRecord} (b : Barred s) (held : s.hv.holder = some x) (due : s.hv.releasePending = true)
    (sw : s.hv.sw = .off) (hs : (s.bench x).step = some st) (w : Working s x) :
    (releaseIfDue (finishStep x s)).bench x = ((s.bench x).finishing st).clearing ∧
    ((releaseIfDue (finishStep x s)).trunk x).waiting = some .empty ∧ (releaseIfDue (finishStep x s)).hv.holder = none ∧
    (s.hv.quiet = false → Notified s (releaseIfDue (finishStep x s)) x.port srcHvReleased) := by
  rw [finishStep_working hs w]
  generalize hu : ((stepClosed x st s).setBench x ((s.bench x).finishing st).clearing).setTrunk x { s.trunk x with waiting := some .empty } = u
  have bench : u.bench x = ((s.bench x).finishing st).clearing := by rw [← hu, State.setTrunk_bench, State.setBench_bench_same]
  have trunk : (u.trunk x).waiting = some .empty := by rw [← hu, State.setTrunk_trunk_same]
  have hv : u.hv = (stepClosed x st s).hv := by rw [← hu]; rfl
  have worked : Worked (stepClosed x st s) u := by
    rw [← hu]
    refine Worked.trans (t := (stepClosed x st s).setBench x ((s.bench x).finishing st).clearing) (worked_setBench ?_) (worked_setTrunk ?_)
    · rw [stepClosed_bench]
      rfl
    · rw [State.setBench_trunk, stepClosed_trunk]
  by_cases f : st.state = .waitHv
  · have hv' : u.hv = s.hv.setStepAsk x false := by rw [hv, stepClosed, if_pos f]; rfl
    have barred : Barred u := b.of_terms (by rw [hv', terms_setStepAsk])
    have release : releaseIfDue u = released x u := by
      rw [releaseIfDue_due (by rw [hv']; exact due),
        releaseHolder_barred barred (x := x) (by rw [hv']; exact held) (by rw [hv']; exact sw)]
    rw [release]
    refine ⟨by rw [released_bench, bench], by rw [State.trunk, released_matrix]; exact trunk, by rw [released_hv]; rfl, fun loud => ?_⟩
    exact (notified_released (s := u) (by rw [hv']; exact loud)).of_worked ((worked_stepClosed x st s).trans worked)
  · have closed := stepClosed_releases b held due sw f
    have hv' : u.hv = ({ s.hv.countString with holderStep := false } : Hv).released := by rw [hv, closed, released_hv]; rfl
    rw [releaseIfDue_not (by rw [hv']; rfl)]
    refine ⟨bench, trunk, by rw [hv']; rfl, fun loud => ?_⟩
    rw [closed] at worked
    refine (Notified.worked ?_ worked)
    refine (notified_released (x := x)
      (s := (s.setBench x ((s.bench x).finishing st)).setHv { s.hv.countString with holderStep := false }) loud)

/-! ## SET HV PERMISSION -/

/-- The HV unit with a permission written (R114). -/
def Hv.permit (h : Hv) (q : Permission) : Hv := { h with permission := q }

theorem serveSetHvPermission_named {v : Byte} {q : Permission} (hq : permissionOf v = some q) (open_ : s.hv.permission.locked = false) :
    serveSetHvPermission v s =
      (if s.hv.permission.allows && !q.allows then barHolder (s.setHv (s.hv.permit q))
       else if !s.hv.permission.allows && q.allows then lookForGrant (s.setHv (s.hv.permit q)) else s.setHv (s.hv.permit q),
        some (.plain .ok)) := by
  simp only [serveSetHvPermission, hq, open_]
  rfl

theorem barHolder_none (h : s.hv.holder = none) : barHolder s = s := by simp [barHolder, h]

theorem barHolder_held (h : s.hv.holder = some x) : barHolder s = releaseIfDue (interruptStep x .barred (s.setHv s.hv.losing)) := by
  simp only [barHolder, h, Hv.losing]

/-- The bar reaches the holder alone. -/
theorem beside_barHolder (b : Barred s) (held : s.hv.holder = some x) : Beside x s (barHolder s) := by
  have barred : Barred (s.setHv s.hv.losing) := b
  rw [barHolder_held held]
  exact (beside_releaseIfDue (barred.worked (worked_interruptStep x .barred _))).after
    ((beside_interruptStep .barred barred).after (beside_setHv x s _))

theorem barHolder_finishing {st : StepRecord} (b : Barred s) (held : s.hv.holder = some x) (sw : s.hv.sw = .off)
    (hs : (s.bench x).step = some st) (f : st.state = .finish) :
    barHolder s = released x (dropQueued x (s.setHv s.hv.losing)) := by
  obtain ⟨holder, pending, -⟩ := Hv.unqueued_lending s.hv.losing x (s.bench x).queued.isSome
  have supply := Hv.unqueued_supply s.hv.losing x (s.bench x).queued.isSome
  have hv : (dropQueued x (s.setHv s.hv.losing)).hv = s.hv.losing.unqueued x (s.bench x).queued.isSome := by rw [dropQueued_eq]; rfl
  rw [barHolder_held held, interruptStep_finish (c := .barred) (s := s.setHv s.hv.losing) hs f nofun, releaseIfDue_due (by rw [hv]; exact pending)]
  refine releaseHolder_barred (Barred.worked (s := s.setHv s.hv.losing) b (worked_dropQueued x _)) (by rw [hv]; exact holder.trans held) ?_
  rw [hv, Hv.sw_of_supply supply]
  exact sw

theorem permission_open {p : Permission} (h : p = .permitted ∨ p = .barred) : p.locked = false := by
  rcases h with rfl | rfl <;> rfl

/-- Settles O43: refusals, a write on the same side, then the bar by the state of the holder's step, and the grant. -/
theorem permissionSet : Obligations.PermissionSet := fun s v ready => by
  have plain {w : Status} {t : State} (h : serveSetHvPermission v (ended .ps s) = (ended .ps t, some (.plain w))) :
      exec (.setHvPermission .ps v) s = .next (plainly .ps 0x40 w t) :=
    exec_plainly rfl rfl ready (taken_ps rfl rfl nofun) h
  have plainState {t : State} (h : serveSetHvPermission v (ended .ps s) = (t, some (.plain .ok))) :
      exec (.setHvPermission .ps v) s = .next (respond .ps 0x40 (.plain .ok) t) :=
    exec_plain rfl rfl ready (taken_ps rfl rfl nofun) h
  refine ⟨fun none => plain ?_, fun q hq => ⟨fun locked => plain ?_, fun unlocked => ?_⟩⟩
  · simp only [serveSetHvPermission, none]
    rfl
  · have lock : (ended .ps s).hv.permission.locked = true := by
      show s.hv.permission.locked = true
      rcases locked with h | h <;> rw [h] <;> rfl
    simp only [serveSetHvPermission, hq, lock, if_true]
    rfl
  · have named := serveSetHvPermission_named (s := ended .ps s) hq (permission_open unlocked)
    have allows : s.hv.permission = .permitted → (ended .ps s).hv.permission.allows = true := fun h => by
      show s.hv.permission.allows = true
      rw [h]
      rfl
    have bars (permitted : s.hv.permission = .permitted) (bar : q.allows = false) :
        serveSetHvPermission v (ended .ps s) = (barHolder ((ended .ps s).setHv (s.hv.permit q)), some (.plain .ok)) := by
      rw [named, allows permitted, bar]
      rfl
    refine ⟨fun side => plain ?_, fun x permitted bar held sw loud idle => plain ?_, fun x st permitted bar held hs => ?_,
      fun y next barred => ?_⟩
    · rw [named]
      show (if s.hv.permission.allows && !q.allows then _ else if !s.hv.permission.allows && q.allows then _ else _, _) = _
      rcases side with same | ⟨bar, holder⟩ | ⟨allow, line⟩
      · rw [same]
        cases s.hv.permission.allows <;> rfl
      · rw [barHolder_none (s := (ended .ps s).setHv ((ended .ps s).hv.permit q)) holder, bar]
        cases s.hv.permission.allows <;> rfl
      · rw [lookForGrant_none (s := (ended .ps s).setHv ((ended .ps s).hv.permit q)) (Hv.next_of_empty line), allow]
        cases s.hv.permission.allows <;> rfl
    · rw [bars permitted bar, barHolder_held (s := (ended .ps s).setHv (s.hv.permit q)) held]
      have barred : Barred (((ended .ps s).setHv (s.hv.permit q)).setHv (s.hv.permit q).losing) := .inl bar
      have next : ({ (s.hv.permit q).losing with holder := none } : Hv).next = none := Hv.next_barred fun z => by
        simp [Hv.grantable, Hv.losing, Hv.permit, bar]
      rw [State.setHv_hv, losing_releases (x := x) (s := ((ended .ps s).setHv (s.hv.permit q)).setHv (s.hv.permit q).losing) .barred rfl held
        sw next idle, released_loud (s := ((ended .ps s).setHv (s.hv.permit q)).setHv (s.hv.permit q).losing) loud]
      rfl
    · generalize hu : (ended .ps s).setHv (s.hv.permit q) = u at bars
      have hv : u.hv = s.hv.permit q := by rw [← hu]; rfl
      have bench (y : Station) : u.bench y = s.bench y := by rw [← hu]; rfl
      have held' : u.hv.holder = some x := by rw [hv]; exact held
      have hs' : (u.bench x).step = some st := by rw [bench, hs]
      have barred : Barred u := .inl (by rw [hv]; exact bar)
      have lost : Barred (u.setHv u.hv.losing) := barred
      have worked : Worked u (barHolder u) := by
        rw [barHolder_held held']
        exact (worked_releaseIfDue _).after ((worked_interruptStep _ _ _).after (worked_setHv (h := u.hv.losing) rfl))
      have permission : (barHolder u).hv.permission = q := (congrArg (fun v => v.1) worked.terms).trans (by rw [hv]; rfl)
      refine ⟨_, plainState (bars permitted bar), respond_status _ _ _ _, permission, ?_, fun f sw => ?_, fun f w sw trunk => ?_,
        fun e he trunk stage sw outcome hot f w => ?_⟩
      · exact ((beside_barHolder barred held').bench _ (Station.other_ne x)).trans (bench _)
      · rw [barHolder_finishing barred held' (by rw [hv]; exact sw) hs' f]
        have dropped : (dropQueued x (u.setHv u.hv.losing)).bench x = { s.bench x with queued := none } := by
          rw [dropQueued_eq, State.setHv_bench, State.setBench_bench_same, State.setHv_bench, bench]
        refine ⟨?_, ?_, ?_, fun loud => ?_⟩
        · show ((released x _).bench x).step = _
          rw [released_bench, dropped]
          exact hs
        · show ((released x _).bench x).queued = _
          rw [released_bench, dropped]
        · show (released x _).hv.holder = _
          rw [released_hv]
          rfl
        · have raised := notified_released (x := x) (s := dropQueued x (u.setHv u.hv.losing)) (by
            rw [dropQueued_eq]
            exact (Hv.unqueued_lending u.hv.losing x _).2.2.1.trans (by rw [hv]; exact loud))
          have r := raised.of_worked ((worked_dropQueued x (u.setHv u.hv.losing)).after (worked_setHv (h := u.hv.losing) rfl))
          rw [← hu] at r ⊢
          exact r
      · rw [barHolder_held held', interruptStep_configuring (s := u.setHv u.hv.losing) .barred hs' f (by rw [State.setHv_bench, bench]; exact w)]
        have marked := (worked_markInterrupted x (u.setHv u.hv.losing)).after (worked_setHv (s := u) (h := u.hv.losing) rfl)
        rw [markInterrupted_eq] at marked ⊢
        generalize hm : ((u.setHv u.hv.losing).setBench x ((u.setHv u.hv.losing).bench x).interrupted).setHv
          ((u.setHv u.hv.losing).hv.unqueued x ((u.setHv u.hv.losing).bench x).queued.isSome) = m at marked
        have mhv : m.hv = u.hv.losing.unqueued x (s.bench x).queued.isSome := by rw [← hm, ← bench]; rfl
        have mbench : m.bench x = (s.bench x).interrupted := by
          rw [← hm, State.setHv_bench, State.setBench_bench_same, State.setHv_bench, bench]
        have mtrunk : m.trunk x = s.trunk x := by rw [← hm, ← hu]; rfl
        obtain ⟨holder, pending, quiet, -⟩ := Hv.unqueued_lending u.hv.losing x (s.bench x).queued.isSome
        have switch := Hv.sw_of_supply (Hv.unqueued_supply u.hv.losing x (s.bench x).queued.isSome)
        rw [← mhv] at holder pending quiet switch
        obtain ⟨after, waiting, gone, raised⟩ := finishStep_losing (st := { st with interrupted := true }) (barred.worked marked)
          (holder.trans held') pending (switch.trans (by rw [hv]; exact sw)) (by rw [mbench, Bench.interrupted, hs]; rfl)
          (by unfold Working; rw [mtrunk]; exact trunk)
        refine ⟨?_, ?_, waiting, gone, fun loud => ?_⟩
        · show ((releaseIfDue (finishStep x m)).bench x).step = _
          rw [after]
          rfl
        · show ((releaseIfDue (finishStep x m)).bench x).queued = _
          rw [after, mbench]
          rfl
        · have r := (raised (quiet.trans (by rw [hv]; exact loud))).of_worked marked
          rw [← hu] at r
          exact r
      · subst trunk
        rw [barHolder_held held', losing_discharges (s := u.setHv u.hv.losing) .barred rfl held' (by rw [hv]; exact he) (.inr stage)
          (by rw [hv]; exact fun off => nomatch sw.symm.trans off) outcome (by rw [← hu]; exact hot) hs' f
          (by rw [State.setHv_bench, bench]; exact w), State.setHv_hv, State.setHv_bench, bench]
        obtain ⟨source, path, energ, pending, reserved, -⟩ := cutting_fields u.hv.losing e.trunk (s.bench e.trunk).queued.isSome e .barred
        refine ⟨source, path, energ, pending, reserved, ?_, ?_, by rw [← hu]; rfl⟩
        · show ((State.setBench _ _ _).bench _).step = _
          rw [State.setBench_bench_same, Bench.interrupted, hs]
          rfl
        · show ((State.setBench _ _ _).bench _).queued = _
          rw [State.setBench_bench_same]
          rfl
    · have allow : q.allows = true := by
        have g : ({ s.hv with permission := q } : Hv).grantable y = true := by
          have := List.find?_some next
          exact this
        simp only [Hv.grantable, Bool.and_eq_true] at g
        exact g.1.1.1.1
      have served : serveSetHvPermission v (ended .ps s) =
          (lookForGrant ((ended .ps s).setHv (s.hv.permit q)), some (.plain .ok)) := by
        rw [named, allow]
        show (if s.hv.permission.allows && _ then _ else if !s.hv.permission.allows && _ then _ else _, _) = _
        rw [barred]
        rfl
      have worked := worked_lookForGrant ((ended .ps s).setHv (s.hv.permit q))
      exact ⟨_, plainState served, respond_status _ _ _ _, congrArg (fun v => v.1) worked.terms,
        granted_lookForGrant (s := (ended .ps s).setHv (s.hv.permit q)) next⟩

end

end Sys2Proof.Machine

/-! E-STOP (R130): both stations lose the source, and no grant is made while it lasts. -/

namespace Sys2Proof.Machine

/-! ## The source while E-STOP lasts -/

/-- E-STOP has cleared every ask and reservation, and a holder's release is pending (R130). -/
structure Losing (h : Hv) : Prop where
  estop : h.estop = true
  stepAsk : h.stepAsk = ⟨false, false⟩
  reserveAsk : h.reserveAsk = ⟨false, false⟩
  line : h.line = []
  reserved : h.reserved = false
  due : h.releasePending = h.holder.isSome

section
variable {x y z : Station} {s t u : State} {h k : Hv}

theorem Both.none_set (x : Station) : (⟨false, false⟩ : Both Bool).set x false = ⟨false, false⟩ := by cases x <;> rfl

theorem Both.none_get (x : Station) : (⟨false, false⟩ : Both Bool).get x = false := by cases x <;> rfl

theorem Losing.setStepAsk (l : Losing h) (x : Station) : h.setStepAsk x false = h := by
  have := l.stepAsk
  have := l.reserveAsk
  have := l.line
  cases h
  simp_all [Hv.setStepAsk, Hv.lineUp, Hv.asks, Both.none_set, Both.none_get]

theorem Losing.unqueued (l : Losing h) (x : Station) (q : Bool) : h.unqueued x q = h := by
  cases q
  · rfl
  · exact l.setStepAsk x

theorem Losing.countString (l : Losing h) : h.countString = h := by
  have : h.waiting = none := by simp [Hv.waiting, l.line]
  simp [Hv.countString, this]

theorem Losing.barred (l : Losing s.hv) : Barred s := .inr l.estop

theorem Losing.congr (l : Losing h) (lending : k.lending = h.lending) (estop : k.estop = h.estop) : Losing k := by
  simp only [Hv.lending, Prod.mk.injEq] at lending
  obtain ⟨⟨holder, pending, -, reserved, step, reserve⟩, line, -⟩ := lending
  exact ⟨estop.trans l.estop, step.trans l.stepAsk, reserve.trans l.reserveAsk, line.trans l.line, reserved.trans l.reserved,
    by rw [pending, holder]; exact l.due⟩

theorem Losing.released (l : Losing h) : Losing h.released := ⟨l.estop, l.stepAsk, l.reserveAsk, l.line, rfl, rfl⟩

/-- Between s and t the source goes on being lost: E-STOP and the cleared asks stand, a source without an energisation is unchanged, and
the holder stays, its release pending, or is released with the switch OFF. -/
structure Loses (s t : State) : Prop where
  worked : Worked s t
  losing : Losing s.hv → Losing t.hv
  supply : s.hv.energ = none → t.hv.supply = s.hv.supply
  holder : Losing s.hv →
    (t.hv.holder = s.hv.holder ∧ t.hv.quiet = s.hv.quiet) ∨
    (t.hv.holder = none ∧ (s.hv.energ = none → s.hv.sw = .off) ∧
      ∀ x, s.hv.holder = some x → s.hv.quiet = false → Notified s t x.port srcHvReleased)

theorem Loses.refl (s : State) : Loses s s := ⟨.refl s, id, fun _ => rfl, fun _ => .inl ⟨rfl, rfl⟩⟩

theorem Loses.trans (h : Loses s t) (k : Loses t u) : Loses s u := by
  refine ⟨h.worked.trans k.worked, fun l => k.losing (h.losing l), fun n => ?_, fun l => ?_⟩
  · have e := h.supply n
    exact (k.supply ((Hv.energ_of_supply e).trans n)).trans e
  · have off (n : s.hv.energ = none) (sw : t.hv.energ = none → t.hv.sw = .off) : s.hv.sw = .off := by
      have e := h.supply n
      exact (Hv.sw_of_supply e).symm.trans (sw ((Hv.energ_of_supply e).trans n))
    rcases h.holder l with ⟨same, quiet⟩ | ⟨gone, sw, raised⟩
    · rcases k.holder (h.losing l) with ⟨same', quiet'⟩ | ⟨gone', sw', raised'⟩
      · exact .inl ⟨same'.trans same, quiet'.trans quiet⟩
      · exact .inr ⟨gone', fun n => off n sw', fun x hx loud =>
          (raised' x (same.trans hx) (quiet.trans loud)).of_worked h.worked⟩
    · refine .inr ⟨?_, sw, fun x hx loud => (raised x hx loud).worked k.worked⟩
      rcases k.holder (h.losing l) with ⟨same', -⟩ | ⟨gone', -⟩
      · exact same'.trans gone
      · exact gone'

theorem Loses.after (k : Loses t u) (h : Loses s t) : Loses s u := h.trans k

/-- What leaves the lending alone, and the supply where no energisation stands. -/
theorem loses_of (worked : Worked s t) (lending : t.hv.lending = s.hv.lending) (supply : s.hv.energ = none → t.hv.supply = s.hv.supply) :
    Loses s t := by
  have e := lending
  simp only [Hv.lending, Prod.mk.injEq] at e
  obtain ⟨⟨holder, -, quiet, -⟩, -⟩ := e
  refine ⟨worked, fun l => l.congr lending ?_, supply, fun _ => .inl ⟨holder, quiet⟩⟩
  exact congrArg (fun v => v.2.2.2.2.2) worked.terms

theorem Apart.loses (h : Apart x s t) (worked : Worked s t) : Loses s t :=
  loses_of worked h.lending fun n => by rw [h.hv (fun e he => nomatch n.symm.trans he)]

theorem loses_setBench {b : Bench} (books : b.books = (s.bench x).books) : Loses s (s.setBench x b) :=
  loses_of (worked_setBench books) rfl fun _ => rfl

/-- A release while E-STOP lasts. -/
theorem loses_releaseHolder (l : Losing s.hv) : Loses s (releaseHolder s) := by
  rcases releaseHolder_cases s with ⟨-, e⟩ | ⟨held, -, e⟩ | ⟨x, held, sw, -⟩
  · rw [e]
    exact .refl s
  · rw [e]
    have due : s.hv.releasePending = true := by rw [l.due, Option.isSome_iff_ne_none]; exact held
    exact loses_of (worked_setHv rfl) (by rw [State.setHv_hv, ← due]) fun _ => rfl
  · rw [releaseHolder_barred l.barred held sw]
    refine ⟨worked_released x s, fun l => by rw [released_hv]; exact l.released, fun _ => by rw [released_hv]; rfl,
      fun _ => .inr ⟨by rw [released_hv]; rfl, fun _ => sw, fun y hy loud => ?_⟩⟩
    rw [held] at hy
    cases hy
    exact notified_released loud

theorem loses_releaseIfDue (l : Losing s.hv) : Loses s (releaseIfDue s) := by
  unfold releaseIfDue
  split
  · exact loses_releaseHolder l
  · exact .refl s

theorem loses_stepEnd (q : Bool) (l : Losing s.hv) : Loses s (stepEnd x q s) := by
  by_cases held : s.hv.holder = some x
  · have due : s.hv.releasePending = true := by rw [l.due, held]; rfl
    have e : stepEnd x q s = releaseHolder (s.setHv { s.hv with holderStep := false }) := by
      unfold stepEnd
      simp only [held, if_true, l.countString, due]
    rw [e]
    have ended : Loses s (s.setHv { s.hv with holderStep := false }) :=
      ⟨worked_setHv rfl, fun l => ⟨l.estop, l.stepAsk, l.reserveAsk, l.line, l.reserved, l.due⟩, fun _ => rfl, fun _ => .inl ⟨rfl, rfl⟩⟩
    exact (loses_releaseHolder (ended.losing l)).after ended
  · rw [stepEnd, if_neg held]
    exact .refl s

theorem loses_stepClosed (st : StepRecord) (l : Losing s.hv) : Loses s (stepClosed x st s) := by
  have marked : Loses s (s.setBench x ((s.bench x).finishing st)) := loses_setBench rfl
  unfold stepClosed
  split
  · rw [l.setStepAsk]
    exact loses_setBench rfl
  · exact (loses_stepEnd _ (marked.losing l)).after marked

theorem activityDone_hv (h : (s.bench x).queued = none) : (activityDone x s).hv = s.hv := by
  unfold activityDone
  dsimp only
  split
  · rfl
  · rw [h]
    rfl
  all_goals rfl

theorem loses_activityDone (h : (s.bench x).queued = none) : Loses s (activityDone x s) :=
  loses_of (worked_activityDone x s) (by rw [activityDone_hv h]) fun _ => by rw [activityDone_hv h]

theorem loses_handEmpty (q : (s.bench x).queued = none) : Loses s (handEmpty x s) := by
  have handed := handing_arrive x .empty (s.setBench x (s.bench x).clearing)
  have arrived : Loses s (arrive x .empty (s.setBench x (s.bench x).clearing)).1 :=
    (handed.apart.loses (worked_arrive _ _ _)).after (loses_setBench rfl)
  cases d : (arrive x .empty (s.setBench x (s.bench x).clearing)).2
  · rw [handEmpty_pending d]
    exact arrived
  · rw [handEmpty_done d]
    refine (loses_activityDone ?_).after arrived
    rw [handed.bench, State.setBench_bench_same]
    exact q

theorem loses_finishStep (l : Losing s.hv) (q : (s.bench x).queued = none) : Loses s (finishStep x s) := by
  cases hs : (s.bench x).step with
  | none =>
    simp only [finishStep, hs]
    exact .refl s
  | some st =>
    rw [finishStep_eq hs]
    exact (loses_handEmpty (by rw [stepClosed_bench]; exact q)).after (loses_stepClosed st l)

theorem loses_dropQueued (l : Losing s.hv) : Loses s (dropQueued x s) := by
  rw [dropQueued_eq, l.unqueued]
  exact loses_setBench rfl

theorem loses_markInterrupted (l : Losing s.hv) : Loses s (markInterrupted x s) := by
  rw [markInterrupted_eq, l.unqueued]
  exact loses_setBench rfl

theorem markInterrupted_bench (x : Station) (s : State) : (markInterrupted x s).bench x = (s.bench x).interrupted := by
  rw [markInterrupted_eq, State.setHv_bench, State.setBench_bench_same]

/-- A result that is no FAULT ends an interrupted step (R145). -/
theorem stepResult_ends {st : StepRecord} {r : EnergResult} (hs : (s.bench x).step = some st) (run : (s.bench x).run = .insulation)
    (wait : (s.bench x).wait = .energisation) (mark : (st.after r).interrupted = true) (fault : r.outcome ≠ .fault) :
    stepResult x r s = finishStep x (s.setBench x { s.bench x with step := some (st.after r) }) := by
  unfold stepResult
  dsimp only
  simp only [hs]
  rw [if_pos ⟨run, wait⟩, mark]
  cases h : r.outcome with
  | fault => exact absurd h fault
  | sampled _ _ _ => rfl
  | arc _ => rfl
  | cut _ => rfl

/-- The result that reaches an interrupted step ends it. -/
theorem loses_stepResult {r : EnergResult} (l : Losing s.hv) (q : (s.bench x).queued = none)
    (marked : ∀ st, (s.bench x).step = some st → st.interrupted = true) : Loses s (stepResult x r s) := by
  by_cases h : ∃ st, (s.bench x).step = some st ∧ (s.bench x).run = .insulation ∧ (s.bench x).wait = .energisation
  · obtain ⟨st, hs, run, wait⟩ := h
    have noted : Loses s (s.setBench x { s.bench x with step := some (st.after r) }) := loses_setBench rfl
    have mark : (st.after r).interrupted = true := marked st hs
    have empty : ((s.setBench x { s.bench x with step := some (st.after r) }).bench x).queued = none := by
      rw [State.setBench_bench_same]
      exact q
    by_cases fault : r.outcome = .fault
    · have m := loses_markInterrupted (x := x) (noted.losing l)
      rw [stepResult_fault hs run wait fault]
      refine (loses_finishStep (m.losing (noted.losing l)) ?_).after (m.after noted)
      rw [markInterrupted_bench]
      rfl
    · rw [stepResult_ends hs run wait mark fault]
      exact (loses_finishStep (noted.losing l) empty).after noted
  · rw [stepResult_discarded]
    · exact .refl s
    · by_contra n
      obtain ⟨some_, wait⟩ := not_or.mp n
      obtain ⟨st, hs⟩ := Option.ne_none_iff_exists'.mp some_
      exact h ⟨st, hs, not_not.mp wait⟩

/-- An interruption while E-STOP lasts. -/
theorem loses_interruptStep {c : CutCause} (hc : c ≠ .abort) (l : Losing s.hv) : Loses s (interruptStep x c s) := by
  have marked := loses_markInterrupted (x := x) l
  have bench := markInterrupted_bench x s
  cases hs : (s.bench x).step with
  | none =>
    rw [interruptStep_none c hs]
    exact .refl s
  | some st =>
    by_cases f : st.state = .finish
    · rw [interruptStep_finish hs f hc]
      exact loses_dropQueued l
    · by_cases w : (s.bench x).wait = .energisation
      · rw [interruptStep_energised c hs f w]
        generalize markInterrupted x s = m at marked bench
        have cut : Loses m (cutEnergisation x c m).1 :=
          loses_of (worked_cutEnergisation x c m) (supplying_cutEnergisation x c m).lending fun n => by
            rw [cutEnergisation_uncut fun e he => nomatch n.symm.trans he]
        have told := (cutEnergisation_told x c m).1
        have after : (cutEnergisation x c m).1.bench x = (s.bench x).interrupted :=
          ((cutEnergisation_told x c m).2 x).trans bench
        have l' := cut.losing (marked.losing l)
        refine Loses.after ?_ (cut.after marked)
        generalize cutEnergisation x c m = r at told after l'
        unfold tellEngine
        rcases told with e | ⟨v, e⟩ <;> rw [e]
        · exact .refl _
        · have result : Loses r.1 (stepResult x v r.1) := by
            refine loses_stepResult l' (by rw [after]; rfl) fun st' h => ?_
            rw [after, Bench.interrupted, hs] at h
            cases h
            rfl
          exact (loses_releaseIfDue (result.losing l')).after result
      · rw [interruptStep_configuring c hs f w]
        exact (loses_finishStep (marked.losing l) (by rw [bench]; rfl)).after marked

end

end Sys2Proof.Machine

/-! E-STOP over holder, steps and energisation (R130). -/

namespace Sys2Proof.Machine

section
variable {x y z : Station} {s t u v : State}

/-! ## The state E-STOP begins from -/

/-- The HV unit with E-STOP active and every ask, reservation and timer cleared (R130). -/
def Hv.stopped (h : Hv) : Hv :=
  { h with
    estop := true
    stepAsk := ⟨false, false⟩
    reserveAsk := ⟨false, false⟩
    line := []
    reserved := false
    holdTimer := none
    releasePending := h.holder.isSome }

theorem losing_stopped (h : Hv) : Losing h.stopped := ⟨rfl, rfl, rfl, rfl, rfl, rfl⟩

theorem line_clearAsks (h : Hv) (x y : Station) (hm : y ∈ (h.clearAsks x).line) : y ≠ x ∧ y ∈ h.line := by
  have hx : y ≠ x := fun e => clearAsks_line h x (e ▸ hm)
  refine ⟨hx, ?_⟩
  simp only [Hv.clearAsks, Hv.setReserveAsk, Hv.setStepAsk, Hv.lineUp, Hv.asks, Both.get_set_same, Bool.false_or, Bool.or_self] at hm
  split at hm
  · split at hm <;> simp_all
  · split at hm
    · split at hm <;> simp_all
    · simp_all

theorem clearAsks_all (h : Hv) : (h.clearAsks .a).clearAsks .b =
    { h with stepAsk := ⟨false, false⟩, reserveAsk := ⟨false, false⟩, line := [] } := by
  have line : ((h.clearAsks .a).clearAsks .b).line = [] := by
    refine List.eq_nil_iff_forall_not_mem.mpr fun y hy => ?_
    obtain ⟨hb, hy⟩ := line_clearAsks _ _ _ hy
    obtain ⟨ha, -⟩ := line_clearAsks _ _ _ hy
    cases y <;> contradiction
  rw [show (h.clearAsks .a).clearAsks .b = { (h.clearAsks .a).clearAsks .b with line := ((h.clearAsks .a).clearAsks .b).line } from rfl, line]
  rfl

/-- INTERLOCK is raised in all three units, with this HV unit (R130). -/
def interlocked (s : State) (h : Hv) : State := raise .ps srcInterlock (raise .pb srcInterlock (raise .pa srcInterlock (s.setHv h)))

theorem estopRises_eq (clear : s.hv.estop = false) :
    estopRises s = releaseIfDue (eachStation (bothStepping s) (fun x => interruptStep x .estop) (interlocked s s.hv.stopped)) := by
  have lost : loseSource (clearAsks .b (clearAsks .a (raiseAll (fun _ => srcInterlock) (s.setHv { s.hv with estop := true })))) =
      interlocked s s.hv.stopped := by
    show interlocked s { ((({ s.hv with estop := true } : Hv).clearAsks .a).clearAsks .b) with
      reserved := false, holdTimer := none, releasePending := s.hv.holder.isSome } = _
    rw [clearAsks_all]
    rfl
  rw [estopRises, clear, if_neg Bool.false_ne_true]
  dsimp only
  rw [lost]
  rfl

theorem notified_interlocked (s : State) (h : Hv) (p : Port) : Notified s (interlocked s h) p srcInterlock := by
  have first := notified_raise .pa srcInterlock (s.setHv h) (by decide)
  have second := (notified_raise .pb srcInterlock (raise .pa srcInterlock (s.setHv h)) (by decide)).of_worked (worked_raise _ _ _)
  have third := (notified_raise .ps srcInterlock (raise .pb srcInterlock (raise .pa srcInterlock (s.setHv h))) (by decide)).of_worked
    ((worked_raise _ _ _).trans (worked_raise _ _ _))
  cases p
  · exact (first.worked (worked_raise _ _ _)).worked (worked_raise _ _ _)
  · exact second.worked (worked_raise _ _ _)
  · exact third

/-- One command reaches both stations in one order or the other. -/
theorem eachStation_either (w : Bool) (f : Station → State → State) (s : State) :
    ∃ v, (v = s ∨ v = s.advanceFree) ∧
      ∀ z, eachStation w f s = f z.other (f z v) ∨ eachStation w f s = f z (f z.other v) := by
  unfold eachStation
  cases w
  · exact ⟨s, .inl rfl, fun z => by cases z <;> simp [Station.other]⟩
  · refine ⟨s.advanceFree, .inr rfl, fun z => ?_⟩
    cases Config.stationAFirst s.free <;> cases z <;> simp [Station.other]

/-! ## The other station -/

/-- While E-STOP lasts, an interruption at a station that neither holds nor is energised leaves the HV unit. -/
theorem interruptStep_aside (l : Losing s.hv) (away : ∀ e, s.hv.energ = some e → e.trunk ≠ z) (free : s.hv.holder ≠ some z) :
    (interruptStep z .estop s).hv = s.hv := by
  cases hs : (s.bench z).step with
  | none => rw [interruptStep_none .estop hs]
  | some st =>
    have mark : (markInterrupted z s).hv = s.hv := by rw [markInterrupted_eq, State.setHv_hv, l.unqueued]
    have bench := markInterrupted_bench z s
    have uncut : Uncut (markInterrupted z s) z := fun e he hz => absurd hz (away e (by rw [← mark]; exact he))
    by_cases f : st.state = .finish
    · rw [interruptStep_finish (c := .estop) hs f nofun, dropQueued_eq, State.setHv_hv, l.unqueued]
    · by_cases w : (s.bench z).wait = .energisation
      · rw [interruptStep_energised .estop hs f w, cutEnergisation_uncut uncut, tellEngine_none, mark]
      · rw [interruptStep_configuring .estop hs f w]
        generalize markInterrupted z s = m at mark bench uncut
        have step : (m.bench z).step = some { st with interrupted := true } := by rw [bench, Bench.interrupted, hs]; rfl
        have closed : (stepClosed z { st with interrupted := true } m).hv = m.hv := by
          unfold stepClosed
          split
          · rw [State.setHv_hv, mark, l.setStepAsk]
          · rw [stepEnd, if_neg (by rw [State.setBench_hv, mark]; exact free)]
            rfl
        have handed := (handing_arrive z .empty ((stepClosed z { st with interrupted := true } m).setBench z
          ((stepClosed z { st with interrupted := true } m).bench z).clearing))
        have same := handed.hv (uncut.of_hv closed)
        rw [State.setBench_hv, closed, mark] at same
        rw [finishStep_eq step]
        cases d : (arrive z .empty ((stepClosed z { st with interrupted := true } m).setBench z
          ((stepClosed z { st with interrupted := true } m).bench z).clearing)).2
        · rw [handEmpty_pending d, same]
        · rw [handEmpty_done d, activityDone_hv, same]
          rw [handed.bench, State.setBench_bench_same, stepClosed_bench, bench]
          rfl

/-! ## The station's own step -/

/-- On a cold trunk that stands all-open, the step is at its end at once (R68, R144). -/
theorem finishStep_done {st : StepRecord} (hs : (s.bench x).step = some st) (ready : s.matrix.state = .ready)
    (stands : (s.trunk x).state = .idle ∨ (s.trunk x).state = .settled) (cold : s.hot x = false) (open_ : ¬ Closed s x) :
    ∃ u, finishStep x s = activityDone x u ∧ u.bench x = ((s.bench x).finishing st).clearing ∧ Worked s u := by
  have w := worked_stepClosed x st s
  have ready' : (stepClosed x st s).matrix.state = .ready := w.matrixState.trans ready
  have stands' : ((stepClosed x st s).trunk x).state = .idle ∨ ((stepClosed x st s).trunk x).state = .settled := by
    rw [stepClosed_trunk]
    exact stands
  have done : (arrive x .empty ((stepClosed x st s).setBench x ((stepClosed x st s).bench x).clearing)).2 = true := by
    rw [arrive_takes (s := (stepClosed x st s).setBench x ((stepClosed x st s).bench x).clearing) .empty ready' stands', takeUp_empty_done]
    refine ⟨(w.hotAt x).trans cold, fun closed => open_ ?_⟩
    have : (trunkRelays (stepClosed x st s) x).opensSome .allOpen = true := closed
    rw [w.relays] at this
    exact this
  refine ⟨_, by rw [finishStep_eq hs, handEmpty_done done], ?_, ?_⟩
  · rw [(handing_arrive x .empty _).bench, State.setBench_bench_same, stepClosed_bench]
  · exact w.trans ((worked_arrive _ _ _).after (worked_setBench rfl))

theorem activityDone_ready (run : (s.bench x).run = .insulation) (q : (s.bench x).queued = none) :
    activityDone x s = raise x.port srcStepDone (s.setBench x { s.bench x with run := .ready, step := none, wait := .nothing }) := by
  unfold activityDone
  simp only [run, q]

theorem activityDone_keeps (q : (s.bench x).queued = none) :
    ((activityDone x s).bench x).queued = none ∧ ((activityDone x s).bench x).banks = (s.bench x).banks ∧
    ((activityDone x s).bench x).record = (s.bench x).record := by
  unfold activityDone
  dsimp only
  split
  · simp [raise, q]
  · rw [q]
    simp [raise]
  all_goals simp [q]

/-- A step with none queued behind it ends with its station's record and banks as they stand. -/
theorem finishStep_keeps {st : StepRecord} (hs : (s.bench x).step = some st) (q : (s.bench x).queued = none) :
    ((finishStep x s).bench x).queued = none ∧ ((finishStep x s).bench x).banks = (s.bench x).banks ∧
    ((finishStep x s).bench x).record = (s.bench x).record := by
  have bench : ((arrive x .empty ((stepClosed x st s).setBench x ((stepClosed x st s).bench x).clearing)).1).bench x =
      ((s.bench x).finishing st).clearing := by
    rw [(handing_arrive x .empty _).bench, State.setBench_bench_same, stepClosed_bench]
  rw [finishStep_eq hs]
  cases d : (arrive x .empty ((stepClosed x st s).setBench x ((stepClosed x st s).bench x).clearing)).2
  · rw [handEmpty_pending d, bench]
    exact ⟨q, rfl, rfl⟩
  · rw [handEmpty_done d]
    obtain ⟨queued, banks, record⟩ := activityDone_keeps (x := x) (by rw [bench]; exact q)
    rw [bench] at banks record
    exact ⟨queued, banks, record⟩

theorem finishStep_config {st : StepRecord} (hs : (s.bench x).step = some st) (ready : s.matrix.state = .ready)
    (stands : (s.trunk x).state = .idle ∨ (s.trunk x).state = .settled) (needs : Closed s x ∨ s.hot x = true) :
    ((finishStep x s).trunk x).config = some .empty := by
  have w := (worked_stepClosed x st s).trans
    (worked_setBench (x := x) (b := ((s.bench x).finishing st).clearing) (by rw [stepClosed_bench]; rfl))
  rw [(finishStep_pending hs (needs.imp_right .inl)).2.2]
  refine arrive_empty_config (w.matrixState.trans ready) ?_ ?_
  · rw [State.setBench_trunk, stepClosed_trunk]
    exact stands
  · refine needs.imp (fun closed => ?_) ((w.hotAt x).trans ·)
    show (trunkRelays _ x).opensSome .allOpen = true
    rw [w.relays]
    exact closed

/-- E-STOP reaches the two stations in one order or the other, from a state with INTERLOCK raised and the asks cleared, and then makes a
release that is due. -/
theorem estop_either (clear : s.hv.estop = false) :
    ∃ v, v.hv = s.hv.stopped ∧ v.benches = s.benches ∧ v.matrix = s.matrix ∧ (∀ p, Notified s v p srcInterlock) ∧
      (∀ t p n, Notified v t p n → Notified s t p n) ∧
      ∀ z, estopRises s = releaseIfDue (interruptStep z.other .estop (interruptStep z .estop v)) ∨
        estopRises s = releaseIfDue (interruptStep z .estop (interruptStep z.other .estop v)) := by
  obtain ⟨v, hv, either⟩ := eachStation_either (bothStepping s) (fun x => interruptStep x .estop) (interlocked s s.hv.stopped)
  have level (t : State) (p : Port) (n : Nat) (k : Notified (interlocked s s.hv.stopped) t p n) : Notified s t p n := by
    have a := k.of_worked (worked_raise .ps srcInterlock _)
    have b := a.of_worked (worked_raise .pb srcInterlock _)
    exact Notified.of_worked (s := s.setHv s.hv.stopped) (worked_raise .pa srcInterlock _) b
  rw [estopRises_eq clear]
  refine ⟨v, ?_, ?_, ?_, ?_, ?_, fun z => (either z).imp (congrArg releaseIfDue) (congrArg releaseIfDue)⟩
  · rcases hv with rfl | rfl <;> rfl
  · rcases hv with rfl | rfl <;> rfl
  · rcases hv with rfl | rfl <;> rfl
  · rcases hv with rfl | rfl <;> exact notified_interlocked s s.hv.stopped
  · rcases hv with rfl | rfl <;> exact level

theorem loses_both (l : Losing v.hv) : Loses v (releaseIfDue (interruptStep x .estop (interruptStep y .estop v))) := by
  have first := loses_interruptStep (x := y) (c := .estop) nofun l
  have second := (loses_interruptStep (x := x) (c := .estop) nofun (first.losing l)).after first
  exact (loses_releaseIfDue (second.losing l)).after second

theorem loses_gone (l : Losing v.hv) (sw : v.hv.sw = .off) : (releaseIfDue v).hv.holder = none := by
  cases held : v.hv.holder with
  | none => rw [releaseIfDue_not (by rw [l.due, held]; rfl), held]
  | some x =>
    rw [releaseIfDue_due (by rw [l.due, held]; rfl), releaseHolder_barred l.barred held sw, released_hv]
    rfl

/-- What E-STOP makes of station Z is what the interruption of its own step makes of it: from a state in which the source is being lost
and station Z stands as it stood. -/
theorem estop_at (l : Losing v.hv) (z : Station) {t : State}
    (h : t = releaseIfDue (interruptStep z.other .estop (interruptStep z .estop v)) ∨
      t = releaseIfDue (interruptStep z .estop (interruptStep z.other .estop v))) :
    ∃ w, Losing w.hv ∧ Untouched z v w ∧ Worked v w ∧ Untouched z (interruptStep z .estop w) t ∧ Worked (interruptStep z .estop w) t := by
  have apart : z ≠ z.other := (Station.other_ne z).symm
  have own := loses_interruptStep (x := z) (c := .estop) nofun l
  have other := loses_interruptStep (x := z.other) (c := .estop) nofun l
  rcases h with rfl | rfl
  · have l1 := own.losing l
    have next := loses_interruptStep (x := z.other) (c := .estop) nofun l1
    refine ⟨v, l, .refl z v, .refl v, ?_, next.worked.trans (worked_releaseIfDue _)⟩
    exact ((beside_interruptStep .estop l1.barred).trans (beside_releaseIfDue (next.losing l1).barred)).untouched apart
  · have l1 := other.losing l
    have next := loses_interruptStep (x := z) (c := .estop) nofun l1
    refine ⟨_, l1, (beside_interruptStep .estop l.barred).untouched apart, other.worked, ?_, worked_releaseIfDue _⟩
    exact (beside_releaseIfDue (x := z.other) (next.losing l1).barred).untouched apart

/-- The energisation of a holder is cut, whichever station E-STOP reaches first. -/
theorem estop_cuts {e : Energisation} {st : StepRecord} (l : Losing v.hv) (held : v.hv.holder = some e.trunk) (he : v.hv.energ = some e)
    (stage : e.stage = .ramping ∨ e.stage = .dwelling ∨ e.stage = .sampling) (outcome : e.outcome = none) (hot : v.hot e.trunk = true)
    (hs : (v.bench e.trunk).step = some st) (f : st.state ≠ .finish) (w : (v.bench e.trunk).wait = .energisation) {q : State}
    (h : q = interruptStep e.trunk.other .estop (interruptStep e.trunk .estop v) ∨
      q = interruptStep e.trunk .estop (interruptStep e.trunk.other .estop v)) :
    q.hv = v.hv.discharging e (.cut .estop) ∧ (q.bench e.trunk).step = some { st with interrupted := true } := by
  have apart : e.trunk ≠ e.trunk.other := (Station.other_ne e.trunk).symm
  have cut (u : State) (hv : u.hv = v.hv) (hu : u.hot e.trunk = true) (bench : u.bench e.trunk = v.bench e.trunk) :
      (interruptStep e.trunk .estop u).hv = v.hv.discharging e (.cut .estop) ∧
      ((interruptStep e.trunk .estop u).bench e.trunk).step = some { st with interrupted := true } := by
    have noted : e.settle (.cut .estop) = .cut .estop := by rw [Energisation.settle, outcome]; rfl
    rw [interruptStep_discharges .estop (by rw [bench, hs]) f (by rw [bench, w]) (hv ▸ he) (.inr stage) hu, noted, State.setHv_hv,
      State.setHv_bench, State.setBench_bench_same, bench, hv, l.unqueued]
    refine ⟨rfl, ?_⟩
    rw [Bench.interrupted, hs]
    rfl
  rcases h with rfl | rfl
  · obtain ⟨hv, step⟩ := cut v rfl hot rfl
    have l1 := (loses_interruptStep (x := e.trunk) (c := .estop) nofun l).losing l
    refine ⟨?_, ?_⟩
    · rw [interruptStep_aside l1, hv]
      · intro d hd
        rw [hv] at hd
        cases hd
        exact apart
      · rw [hv]
        exact fun n => apart (by simpa using held.symm.trans n)
    · rw [((beside_interruptStep .estop l1.barred).untouched apart).bench, step]
  · refine cut _ ?_ ?_ ((beside_interruptStep .estop l.barred).untouched apart).bench
    · refine interruptStep_aside l (fun d hd => ?_) (fun n => apart (by simpa using held.symm.trans n))
      rw [he] at hd
      cases hd
      exact apart
    · rw [(worked_interruptStep _ _ _).hotAt, hot]

/-- Settles O51, by the order in which E-STOP reaches the two stations. -/
theorem estopActs : Obligations.EstopActs := fun s running => by
  have rises := next_running (s := s) estopRises running
  have falls := next_running (s := s) estopFalls running
  have idle (a : (s.bench .a).step = none) (b : (s.bench .b).step = none) (h : Hv) :
      eachStation (bothStepping s) (fun x => interruptStep x .estop) (interlocked s h) = interlocked s h := by
    have alone : bothStepping s = false := by simp [bothStepping, a]
    rw [alone, eachStation, if_neg Bool.false_ne_true]
    rw [interruptStep_none (s := interlocked s h) .estop a, interruptStep_none (s := interlocked s h) .estop b]
  refine ⟨fun clear holder pending reserved timer step reserve line a b => ?_, fun x e st clear held he trunk stage sw outcome hot hs f w => ?_,
    fun x clear held a b h hh => ⟨fun sw => ?_, fun sw loud => ?_⟩, fun clear => ?_, fun active line => ?_, fun active y next => ?_⟩
  · have same : s.hv.stopped = { s.hv with estop := true } := by
      simp [Hv.stopped, holder, pending, reserved, timer, step, reserve, line]
    rw [estopRises_eq clear, idle a b, same, releaseIfDue_not (s := interlocked s { s.hv with estop := true }) pending] at rises
    exact rises
  · subst trunk
    obtain ⟨v, hv, benches, matrix, raised, -, either⟩ := estop_either clear
    have l : Losing v.hv := by rw [hv]; exact losing_stopped s.hv
    have bench (y : Station) : v.bench y = s.bench y := by simp only [State.bench, benches]
    have order : ∃ q, estopRises s = releaseIfDue q ∧ (q = interruptStep e.trunk.other .estop (interruptStep e.trunk .estop v) ∨
        q = interruptStep e.trunk .estop (interruptStep e.trunk.other .estop v)) := by
      rcases either e.trunk with h | h
      · exact ⟨_, h, .inl rfl⟩
      · exact ⟨_, h, .inr rfl⟩
    obtain ⟨q, h, order⟩ := order
    have worked : Worked v q := by
      rcases order with rfl | rfl <;> exact (worked_interruptStep _ _ _).trans (worked_interruptStep _ _ _)
    obtain ⟨qhv, step⟩ := estop_cuts l (by rw [hv]; exact held) (by rw [hv]; exact he) stage outcome
      (by rw [State.hot, matrix]; exact hot) (by rw [bench, hs]) f (by rw [bench, w]) order
    rw [hv] at qhv
    have due : releaseIfDue q = q.setHv { q.hv with releasePending := true } := by
      refine releaseIfDue_pending (x := e.trunk) ?_ ?_ ?_ <;> rw [qhv]
      · show s.hv.holder.isSome = true
        rw [held]
        rfl
      · exact held
      · exact fun off => nomatch sw.symm.trans off
    rw [h, due, qhv] at rises
    refine ⟨_, rises, rfl, rfl, rfl, rfl, fun y => by cases y <;> rfl, step, fun p => ?_⟩
    exact ((raised p).worked worked).worked (worked_setHv (h := { s.hv.stopped.discharging e (.cut .estop) with releasePending := true })
      (by rw [qhv]; rfl))
  · have same : s.hv.stopped = { h with releasePending := true } := by rw [hh, Hv.stopped, held]; rfl
    rw [estopRises_eq clear, idle a b, same,
      releaseIfDue_pending (x := x) (s := interlocked s { h with releasePending := true }) rfl (by rw [hh]; exact held)
        (by rw [hh]; exact sw)] at rises
    exact rises
  · have same : s.hv.stopped = { h with releasePending := true } := by rw [hh, Hv.stopped, held]; rfl
    rw [estopRises_eq clear, idle a b, same, releaseIfDue_due (s := interlocked s { h with releasePending := true }) rfl,
      releaseHolder_barred (x := x) (s := interlocked s { h with releasePending := true }) (.inr (by rw [hh]; rfl)) (by rw [hh]; exact held)
        (by rw [hh]; exact sw), released_loud (s := interlocked s { h with releasePending := true }) (by rw [hh]; exact loud)] at rises
    refine rises.trans ?_
    rw [hh]
    rfl
  · obtain ⟨v, hv, benches, matrix, raised, level, either⟩ := estop_either clear
    have l : Losing v.hv := by rw [hv]; exact losing_stopped s.hv
    have loses : Loses v (estopRises s) := by
      rcases either .a with h | h <;> rw [h] <;> exact loses_both l
    have lost := loses.losing l
    refine ⟨_, rises, lost.estop, fun p => (raised p).worked loses.worked, lost.stepAsk, lost.reserveAsk, lost.line, fun none => ?_,
      fun x away st hs w => ?_⟩
    · have supply := loses.supply (by rw [hv]; exact none)
      rw [hv] at supply
      have sw' := Hv.sw_of_supply supply
      refine ⟨lost.reserved, (Hv.energ_of_supply supply).trans none, fun sw => ?_, fun sw => ?_⟩
      · have gone : (estopRises s).hv.holder = Option.none := by
          have q (x y : Station) (h : estopRises s = releaseIfDue (interruptStep x .estop (interruptStep y .estop v))) :
              (estopRises s).hv.holder = Option.none := by
            have first := loses_interruptStep (x := y) (c := .estop) nofun l
            have both := (loses_interruptStep (x := x) (c := .estop) nofun (first.losing l)).after first
            rw [h]
            refine loses_gone (both.losing l) ?_
            rw [Hv.sw_of_supply (both.supply (by rw [hv]; exact none)), hv]
            exact sw
          rcases either .a with h | h <;> exact q _ _ h
        refine ⟨gone, by rw [lost.due, gone]; rfl, fun x held loud => ?_⟩
        rcases loses.holder l with ⟨same, -⟩ | ⟨-, -, notified⟩
        · rw [hv] at same
          exact nomatch (gone.symm.trans same).trans held
        · exact level _ _ _ (notified x (by rw [hv]; exact held) (by rw [hv]; exact loud))
      · rcases loses.holder l with ⟨same, -⟩ | ⟨-, off, -⟩
        · rw [hv] at same
          exact ⟨same, by rw [lost.due, same]; rfl⟩
        · exact absurd (off (by rw [hv]; exact none)) (by rw [hv]; exact sw)
    · obtain ⟨u, lu, vu, wu, ut, wt⟩ := estop_at l x (either x)
      have bench : u.bench x = s.bench x := vu.bench.trans (by simp only [State.bench, benches])
      have trunk : u.trunk x = s.trunk x := vu.trunk.trans (by simp only [State.trunk, matrix])
      have ready : s.matrix.state = .ready → u.matrix.state = .ready := fun h => wu.matrixState.trans (by rw [matrix, h])
      have hot : u.hot x = s.hot x := (wu.hotAt x).trans (by simp only [State.hot, matrix])
      have closed : Closed u x ↔ Closed s x := by
        show (trunkRelays u x).opensSome .allOpen = true ↔ _
        rw [wu.relays, trunkRelays, State.window, matrix]
        rfl
      have hs' : (u.bench x).step = some st := by rw [bench, hs]
      rw [ut.bench]
      by_cases f : st.state = .finish
      · have dropped : (interruptStep x .estop u).bench x = { s.bench x with queued := none } := by
          rw [interruptStep_finish (c := .estop) hs' f nofun, dropQueued_eq, State.setHv_bench, State.setBench_bench_same, bench]
        rw [dropped]
        exact ⟨rfl, rfl, fun _ => rfl, fun n => absurd f n⟩
      · rw [interruptStep_configuring .estop hs' f (by rw [bench]; exact w)] at ut wt ⊢
        have marked := markInterrupted_bench x u
        have wm := worked_markInterrupted x u
        have tm : (markInterrupted x u).trunk x = s.trunk x := by rw [markInterrupted_eq]; exact trunk
        generalize markInterrupted x u = m at marked wm tm ut wt
        have step : (m.bench x).step = some { st with interrupted := true } := by
          rw [marked, Bench.interrupted, hs']
          rfl
        obtain ⟨queued, banks, record⟩ := finishStep_keeps step (by rw [marked]; rfl)
        rw [marked, bench] at banks record
        refine ⟨queued, banks, fun n => absurd n f, fun _ => ⟨record, fun works => ?_, fun stands rdy => ⟨fun needs => ?_, fun cold open_ run => ?_⟩⟩⟩
        · have works' : Working m x := by unfold Working; rw [tm]; exact works
          have after := (finishStep_pending step (.inr (.inr works'))).2.1
          refine ⟨by rw [after]; rfl, by rw [after]; rfl, by rw [after]; rfl, ?_⟩
          rw [ut.trunk, finishStep_working step works', State.setTrunk_trunk_same]
        · have needs' : Closed m x ∨ m.hot x = true := by
            refine needs.imp (fun c => ?_) (fun h => by rw [wm.hotAt, hot, h])
            have := closed.mpr c
            show (trunkRelays m x).opensSome .allOpen = true
            rw [wm.relays]
            exact this
          have after := (finishStep_pending step (needs'.imp_right .inl)).2.1
          have config := finishStep_config step (wm.matrixState.trans (ready rdy)) (by rw [tm]; exact stands) needs'
          exact ⟨by rw [ut.bench, after]; rfl, by rw [ut.bench, after]; rfl, by rw [ut.bench, after]; rfl, by rw [ut.bench, after]; rfl,
            by rw [ut.trunk]; exact config⟩
        · obtain ⟨n, done, nb, wn⟩ := finishStep_done step (wm.matrixState.trans (ready rdy)) (by rw [tm]; exact stands)
            ((wm.hotAt x).trans (hot.trans cold)) (fun c => by
              refine open_ (closed.mp ?_)
              have : (trunkRelays m x).opensSome .allOpen = true := c
              rw [wm.relays] at this
              exact this)
          have ready_ : activityDone x n = raise x.port srcStepDone (n.setBench x { n.bench x with run := .ready, step := none, wait := .nothing }) := by
            refine activityDone_ready ?_ ?_ <;> rw [nb, marked]
            · show (u.bench x).run = _
              rw [bench, run]
            · rfl
          have stepDone : Notified n (activityDone x n) x.port srcStepDone := by
            rw [ready_]
            exact notified_raise x.port srcStepDone (n.setBench x _) (by decide)
          have told : Notified v (estopRises s) x.port srcStepDone := by
            rw [← done] at stepDone
            exact (stepDone.of_worked ((wu.trans wm).trans wn)).worked wt
          have final : (finishStep x m).bench x = { n.bench x with run := .ready, step := none, wait := .nothing } := by
            rw [done, ready_]
            exact State.setBench_bench_same _ _ _
          exact ⟨by rw [final], by rw [final], by rw [final], level _ _ _ told⟩
  · rw [estopFalls, active, if_pos rfl] at falls
    exact falls.trans (congrArg _ (lookForGrant_none (s := s.setHv { s.hv with estop := false }) (Hv.next_of_empty line)))
  · rw [estopFalls, active, if_pos rfl] at falls
    have estop := congrArg (fun v => v.2.2.2.2.2) (worked_lookForGrant (s.setHv { s.hv with estop := false })).terms
    exact ⟨_, falls, estop, granted_lookForGrant (s := s.setHv { s.hv with estop := false }) next⟩

end

end Sys2Proof.Machine

/-! The end of a discharge, the step end that decides who keeps the source, and RELEASE HV (R119 to R121, R125). -/

namespace Sys2Proof.Machine

section
variable {x y z : Station} {s t u v : State}

/-! ## The end of a discharge (R125) -/

/-- The HV unit after the end of a discharge (R125). -/
def Hv.discharged (h : Hv) (e : Energisation) (o : EnergOutcome) : Hv :=
  { h with sw := .off, path := false, source := .off, energ := none, last := some (e.result o) }

/-- The state in which a discharge on trunk X has ended with the fall of its monitor, before the step is told (R125). -/
def discharged (x : Station) (e : Energisation) (o : EnergOutcome) (s : State) : State :=
  leaveIsolation x ((setHot x false s).setHv (s.hv.discharged e o))

@[simp] theorem discharged_hv (x : Station) (e : Energisation) (o : EnergOutcome) (s : State) :
    (discharged x e o s).hv = s.hv.discharged e o := rfl
@[simp] theorem discharged_bench (x : Station) (e : Energisation) (o : EnergOutcome) (s : State) (y : Station) :
    (discharged x e o s).bench y = s.bench y := rfl
@[simp] theorem discharged_trunk (x : Station) (e : Energisation) (o : EnergOutcome) (s : State) (y : Station) :
    (discharged x e o s).trunk y = s.trunk y := rfl
@[simp] theorem discharged_store (x : Station) (e : Energisation) (o : EnergOutcome) (s : State) : (discharged x e o s).store = s.store := rfl
@[simp] theorem discharged_state (x : Station) (e : Energisation) (o : EnergOutcome) (s : State) :
    (discharged x e o s).matrix.state = s.matrix.state := rfl
@[simp] theorem discharged_relays (x : Station) (e : Energisation) (o : EnergOutcome) (s : State) (y : Station) :
    trunkRelays (discharged x e o s) y = trunkRelays s y := rfl

theorem discharged_cold (x : Station) (e : Energisation) (o : EnergOutcome) (s : State) : (discharged x e o s).hot x = false :=
  Both.get_set_same _ _ _

theorem sourceCold_discharging {e : Energisation} {o : EnergOutcome} (he : s.hv.energ = some e) (trunk : e.trunk = x)
    (stage : e.stage = .discharging) (ho : e.outcome = some o) :
    sourceCold x s = tellEngine (endDischarge e o s) := by
  simp [sourceCold, he, stage, trunk, Energisation.settle, ho]

/-- The monitor of a SETTLED trunk falls under a discharge: the source first, then the trunk (R2, R125). -/
theorem monitorFalls_discharging {e : Energisation} {o : EnergOutcome} (hot : s.hot x = true) (he : s.hv.energ = some e)
    (trunk : e.trunk = x) (stage : e.stage = .discharging) (ho : e.outcome = some o) (unguarded : (s.trunk x).state ≠ .guarded) :
    monitorFalls x s =
      chainStart (clearingPass (trunkCold x (releaseIfDue (stepResult x (e.result o) (discharged x e o s))))) := by
  have both : bothCold x (setHot x false s) = trunkCold x (sourceCold x (setHot x false s)) := by
    rw [bothCold, if_neg]
    exact fun h => unguarded h.1
  rw [monitorFalls, if_pos hot, both, sourceCold_discharging (s := setHot x false s) he trunk stage ho]
  subst trunk
  rfl

theorem trunkCold_unguarded (h : (s.trunk x).state ≠ .guarded) : trunkCold x s = s := by
  simp [trunkCold, unguardTrunk, h, tellTrunk]

theorem clearingPass_ready (h : s.matrix.state = .ready) : clearingPass s = s := by
  simp [clearingPass, h]

/-- After the source has seen the fall, a trunk that is not GUARDED on a READY matrix only lets the chain start. -/
theorem fall_ends (ready : s.matrix.state = .ready) (unguarded : (s.trunk x).state ≠ .guarded) :
    chainStart (clearingPass (trunkCold x s)) = chainStart s := by
  rw [trunkCold_unguarded unguarded, clearingPass_ready ready]

@[simp] theorem chainStart_hv (s : State) : (chainStart s).hv = s.hv := rfl
@[simp] theorem chainStart_bench (s : State) (y : Station) : (chainStart s).bench y = s.bench y := rfl
@[simp] theorem chainStart_trunk (s : State) (y : Station) : (chainStart s).trunk y = s.trunk y :=
  congrArg (fun v : Both Trunk => v.get y) (arbitrate_frame _).2.2
@[simp] theorem chainStart_channel (s : State) (y : Station) : (chainStart s).channel y = s.channel y := rfl
@[simp] theorem chainStart_store (s : State) : (chainStart s).store = s.store := rfl
@[simp] theorem chainStart_unit (s : State) (p : Port) : (chainStart s).unit p = s.unit p := rfl
@[simp] theorem chainStart_hot (s : State) (y : Station) : (chainStart s).hot y = s.hot y := (worked_chainStart s).hotAt y

/-! ## The step end (R119) -/

/-- At a step end the holder keeps the source: for a queued step or a reservation, below the string limit. -/
theorem stepEnd_keeps {q : Bool} (held : s.hv.holder = some x) (due : s.hv.releasePending = false) (wants : q = true ∨ s.hv.reserved = true)
    (below : ¬ (s.hv.waiting.isSome = true ∧ s.hv.limits.string ≤ s.hv.countString.string)) :
    stepEnd x q s = s.setHv { s.hv.countString with
      holderStep := false, holdTimer := if s.hv.reserved then some s.hv.limits.hold else s.hv.holdTimer } := by
  have due' : ¬ s.hv.countString.releasePending = true := by
    show ¬ s.hv.releasePending = true
    rw [due]
    exact Bool.false_ne_true
  rw [stepEnd, if_pos held]
  dsimp only
  rw [if_neg due', if_pos (show q = true ∨ s.hv.countString.reserved = true from wants), if_neg]
  · rfl
  · exact below

/-- The HV unit with the asks of a released holder set anew: a reservation asks again, and so does a queued step (R119, item 3). -/
def Hv.askAnew (h : Hv) (x : Station) (q : Bool) : Hv :=
  if q then (if h.reserved then h.setReserveAsk x true else h).setStepAsk x true
  else if h.reserved then h.setReserveAsk x true else h

theorem stepEnd_limit {q : Bool} (held : s.hv.holder = some x) (due : s.hv.releasePending = false) (wants : q = true ∨ s.hv.reserved = true)
    (reached : s.hv.waiting.isSome = true ∧ s.hv.limits.string ≤ s.hv.countString.string) :
    stepEnd x q s = releaseHolder (s.setHv (({ s.hv.countString with holderStep := false } : Hv).askAnew x q)) := by
  have due' : ¬ s.hv.countString.releasePending = true := by
    show ¬ s.hv.releasePending = true
    rw [due]
    exact Bool.false_ne_true
  rw [stepEnd, if_pos held]
  dsimp only
  rw [if_neg due', if_pos (show q = true ∨ s.hv.countString.reserved = true from wants), if_pos]
  · rfl
  · exact reached

/-- With neither a queued step nor a reservation the source is given up (R119, item 4). -/
theorem stepEnd_frees (held : s.hv.holder = some x) (reserved : s.hv.reserved = false) :
    stepEnd x false s = releaseHolder (s.setHv { s.hv.countString with holderStep := false }) := by
  have none : ¬ (false = true ∨ s.hv.countString.reserved = true) := by
    show ¬ (false = true ∨ s.hv.reserved = true)
    simp [reserved]
  rw [stepEnd, if_pos held]
  dsimp only
  by_cases due : s.hv.countString.releasePending = true
  · rw [if_pos due]
  · rw [if_neg due, if_neg none]

/-! ## Grants carried over -/

/-- Station Y asks, stands and is told in s' as in s. -/
structure AsksAlike (s s' : State) (y : Station) : Prop where
  step : s'.hv.stepAsk.get y = s.hv.stepAsk.get y
  reserve : s'.hv.reserveAsk.get y = s.hv.reserveAsk.get y
  hold : s'.hv.limits.hold = s.hv.limits.hold
  bench : s'.bench y = s.bench y
  store : s'.store = s.store
  units : ∀ p, RaisedFrom (s.unit p) (s'.unit p)

theorem Notified.of_raised {p : Port} {n : Nat} (h : RaisedFrom (s.unit p) (t.unit p)) (k : Notified t u p n) : Notified s u p n := fun hn => by
  refine k ?_
  have : sourceLevel (t.unit p) n = sourceLevel (s.unit p) n := by unfold sourceLevel; rw [h.1]
  rw [this]
  exact hn

theorem Notified.raised {p : Port} {n : Nat} (k : Notified s t p n) (h : RaisedFrom (t.unit p) (u.unit p)) : Notified s u p n := fun hn =>
  h.2.2.2 n (k hn)

/-- What keeps the lending, station Y and its trunk keeps a grant to it. -/
structure Lends (t u : State) (y : Station) : Prop where
  lending : u.hv.lending = t.hv.lending
  bench : u.bench y = t.bench y
  trunk : u.trunk y = t.trunk y
  units : ∀ p, RaisedFrom (t.unit p) (u.unit p)

theorem Handed.congr {c : Configuration} (h : Handed t y c) (bench : u.bench y = t.bench y) (trunk : u.trunk y = t.trunk y) : Handed u y c := by
  simpa only [Handed, TrunkHas, bench, trunk] using h

theorem Granted.carried {s' : State} (g : Granted s' t y) (base : AsksAlike s s' y) (lends : Lends t u y) : Granted s u y := by
  obtain ⟨holder, asks, string, step, reserved, timer, raised, configures⟩ := g
  have lending := lends.lending
  have asks' := (Hv.asks_of_lending lending y).trans asks
  simp only [Hv.lending, Prod.mk.injEq] at lending
  obtain ⟨⟨holder', -, -, reserved', -, -⟩, -, string', timer', step'⟩ := lending
  simp only [base.step, base.reserve, base.hold] at step reserved timer configures
  refine ⟨holder'.trans holder, asks', string'.trans string, step'.trans step, reserved'.trans reserved, timer'.trans timer,
    (raised.of_raised (base.units _)).raised (lends.units _), fun a st hs hw => ?_⟩
  obtain ⟨inStep, waits, handed⟩ := configures a st (by rw [base.bench, hs]) hw
  rw [base.store] at waits handed
  exact ⟨by rw [lends.bench, inStep], fun c => by rw [lends.bench, waits c], fun c => (handed c).congr lends.bench lends.trunk⟩

/-! ## The step whose discharge ends passes -/

theorem stepResult_sampled {st : StepRecord} {r : EnergResult} {a b n : Nat} (hs : (s.bench x).step = some st)
    (run : (s.bench x).run = .insulation) (wait : (s.bench x).wait = .energisation) (calm : st.interrupted = false)
    (ho : r.outcome = .sampled a b n) (hl : st.state ≠ .locate) :
    stepResult x r s = stepReading x (st.after r) n (s.setBench x { s.bench x with step := some (st.after r) }) := by
  have calm' : (st.after r).interrupted = false := calm
  have state : (st.after r).state ≠ .locate := hl
  unfold stepResult
  dsimp only
  simp only [hs]
  rw [if_pos ⟨run, wait⟩, calm', ho]
  exact if_neg state

/-- On a cold trunk that stands closed on a READY matrix, a step's end opens the trunk (R10, R144). -/
theorem finishStep_opens {st : StepRecord} (hs : (s.bench x).step = some st) (ready : s.matrix.state = .ready)
    (stands : (s.trunk x).state = .idle ∨ (s.trunk x).state = .settled) (cold : s.hot x = false) (closed : Closed s x) :
    ((finishStep x s).trunk x).state = .opening := by
  have w := worked_stepClosed x st s
  rw [(finishStep_pending hs (.inl closed)).2.2]
  rw [arrive_takes (s := (stepClosed x st s).setBench x ((s.bench x).finishing st).clearing) .empty (w.matrixState.trans ready)
    (by rw [State.setBench_trunk, stepClosed_trunk]; exact stands)]
  have opens : (trunkRelays ((stepClosed x st s).setBench x ((s.bench x).finishing st).clearing) x).opensSome
      (targetOf (((stepClosed x st s).setBench x ((s.bench x).finishing st).clearing).window x) .empty) = true := by
    rw [targetOf_empty]
    show (trunkRelays (stepClosed x st s) x).opensSome .allOpen = true
    rw [w.relays]
    exact closed
  rw [takeUp_opens (s := (stepClosed x st s).setBench x ((s.bench x).finishing st).clearing) ((w.hotAt x).trans cold) opens,
    requestLoad_trunk, State.setTrunk_trunk_same]

end

end Sys2Proof.Machine

/-! RELEASE HV, the hold timer, and the decisions of a step end (R119 to R121). -/

namespace Sys2Proof.Machine

section
variable {x y z : Station} {s t u v : State} {h : Hv}

/-! ## The line -/

theorem clearAsks_line_eq (h : Hv) (x : Station) : (h.clearAsks x).line = h.line.filter (fun y => decide (y ≠ x)) := by
  simp only [Hv.clearAsks, Hv.setReserveAsk, Hv.setStepAsk, Hv.lineUp, Hv.asks, Both.get_set_same, Bool.false_or, Bool.or_self,
    Bool.false_eq_true, if_false]
  split
  · split <;> simp
  · simp

theorem granted_line_eq (h : Hv) (x : Station) : (h.granted x).line = h.line.filter (fun y => decide (y ≠ x)) := clearAsks_line_eq h x

theorem granted_asks_ne (h : Hv) (hy : y ≠ x) :
    (h.granted x).stepAsk.get y = h.stepAsk.get y ∧ (h.granted x).reserveAsk.get y = h.reserveAsk.get y :=
  ⟨Both.get_set_ne _ _ hy, Both.get_set_ne _ _ hy⟩

theorem waiting_other (line : h.line = [x.other]) (held : h.holder = some x) : h.waiting = some x.other := by
  simp [Hv.waiting, line, held, (Station.other_ne x).symm]

theorem waiting_nobody (line : h.line = []) : h.waiting = none := by simp [Hv.waiting, line]

theorem countString_alone (line : h.line = []) : h.countString = h := by simp [Hv.countString, waiting_nobody line]

theorem countString_waited (line : h.line = [x.other]) (held : h.holder = some x) :
    h.countString = { h with string := min (h.string + 1) 64 } := by
  simp [Hv.countString, waiting_other line held]

/-- The asks that a released holder sets anew, behind the station that waited (R119, item 3). -/
theorem askAnew_spec {q : Bool} (line : h.line = [x.other]) (none : h.asks x = false) (wants : q = true ∨ h.reserved = true) :
    (h.askAnew x q).stepAsk.get x = q ∧ (h.askAnew x q).reserveAsk.get x = h.reserved ∧ (h.askAnew x q).line = [x.other, x] := by
  obtain ⟨step, reserve⟩ := Bool.or_eq_false_iff.mp none
  cases q <;> cases r : h.reserved <;>
    simp_all [Hv.askAnew, Hv.setReserveAsk, Hv.setStepAsk, Hv.lineUp, Hv.asks, (Station.other_ne x).symm]

theorem askAnew_other (h : Hv) (x : Station) (q : Bool) :
    (h.askAnew x q).stepAsk.get x.other = h.stepAsk.get x.other ∧ (h.askAnew x q).reserveAsk.get x.other = h.reserveAsk.get x.other ∧
    (h.askAnew x q).holder = h.holder ∧ (h.askAnew x q).quiet = h.quiet ∧ (h.askAnew x q).terms = h.terms ∧
    (h.askAnew x q).supply = h.supply := by
  unfold Hv.askAnew
  cases q <;> cases h.reserved <;>
    simp [Hv.setReserveAsk, Hv.setStepAsk, Hv.lineUp, Hv.terms, Hv.supply]

/-! ## What a release and a step end leave pending -/

theorem grant_pending (x : Station) (s : State) : (grant x s).hv.releasePending = s.hv.releasePending := by
  have h := grant_lending x s
  simp only [Hv.lending, Prod.mk.injEq] at h
  exact h.1.2.1

theorem lookForGrant_pending (s : State) : (lookForGrant s).hv.releasePending = s.hv.releasePending := by
  rcases lookForGrant_cases s with ⟨-, e⟩ | ⟨y, -, -, e⟩ <;> rw [e]
  exact grant_pending y s

theorem releaseHolder_settled (held : s.hv.holder = some x) (sw : s.hv.sw = .off) : (releaseHolder s).hv.releasePending = false := by
  rw [releaseHolder_off held sw, lookForGrant_pending, released_hv]
  rfl

theorem stepEnd_settled (q : Bool) (held : s.hv.holder = some x) (due : s.hv.releasePending = false) (sw : s.hv.sw = .off) :
    (stepEnd x q s).hv.releasePending = false := by
  by_cases wants : q = true ∨ s.hv.reserved = true
  · by_cases reached : s.hv.waiting.isSome = true ∧ s.hv.limits.string ≤ s.hv.countString.string
    · rw [stepEnd_limit held due wants reached]
      obtain ⟨-, -, holder, -, -, supply⟩ := askAnew_other { s.hv.countString with holderStep := false } x q
      exact releaseHolder_settled (x := x) (s := s.setHv _) (holder.trans held) ((Hv.sw_of_supply supply).trans sw)
    · rw [stepEnd_keeps held due wants reached]
      exact due
  · obtain ⟨rfl, reserved⟩ : q = false ∧ s.hv.reserved = false := by simpa using wants
    rw [stepEnd_frees held reserved]
    exact releaseHolder_settled (x := x) (s := s.setHv { s.hv.countString with holderStep := false }) held sw

theorem supply_releaseHolder (none : s.hv.energ = none) : (releaseHolder s).hv.supply = s.hv.supply := by
  rcases releaseHolder_cases s with ⟨-, e⟩ | ⟨-, -, e⟩ | ⟨x, held, sw, -⟩
  · rw [e]
  · rw [e]
    rfl
  · rw [releaseHolder_off held sw, supply_lookForGrant (by rw [released_hv]; exact none), released_hv]
    rfl

theorem supply_stepEnd (q : Bool) (none : s.hv.energ = none) (due : s.hv.releasePending = false) :
    (stepEnd x q s).hv.supply = s.hv.supply := by
  by_cases held : s.hv.holder = some x
  · by_cases wants : q = true ∨ s.hv.reserved = true
    · by_cases reached : s.hv.waiting.isSome = true ∧ s.hv.limits.string ≤ s.hv.countString.string
      · rw [stepEnd_limit held due wants reached]
        obtain ⟨-, -, -, -, -, supply⟩ := askAnew_other { s.hv.countString with holderStep := false } x q
        exact (supply_releaseHolder (s := s.setHv (({ s.hv.countString with holderStep := false } : Hv).askAnew x q))
          ((Hv.energ_of_supply supply).trans none)).trans supply
      · rw [stepEnd_keeps held due wants reached]
        rfl
    · obtain ⟨rfl, reserved⟩ : q = false ∧ s.hv.reserved = false := by simpa using wants
      rw [stepEnd_frees held reserved, supply_releaseHolder (s := s.setHv { s.hv.countString with holderStep := false }) none]
      rfl
  · rw [stepEnd, if_neg held]

/-- A station that does not ask asks no more after the arbiter has looked. -/
theorem lookForGrant_asks (h : s.hv.asks x = false) : (lookForGrant s).hv.asks x = false := by
  rcases lookForGrant_cases s with ⟨-, e⟩ | ⟨y, -, -, e⟩ <;> rw [e]
  · exact h
  · rw [Hv.asks_of_lending (grant_lending y s)]
    by_cases hy : x = y
    · rw [hy]
      exact Hv.asks_clearAsks s.hv y
    · obtain ⟨step, reserve⟩ := granted_asks_ne s.hv hy
      rw [Hv.asks, step, reserve]
      exact h

theorem releaseHolder_asks (h : s.hv.asks x = false) : (releaseHolder s).hv.asks x = false := by
  rcases releaseHolder_cases s with ⟨-, e⟩ | ⟨-, -, e⟩ | ⟨y, held, sw, -⟩
  · rw [e, h]
  · rw [e]
    exact h
  · rw [releaseHolder_off held sw]
    refine lookForGrant_asks ?_
    rw [released_hv]
    exact h

/-! ## The step end of a holder whose step has passed -/

/-- The state in which a step that passed has entered FINISH, before its step end is reported. -/
def passed (x : Station) (e : Energisation) (o : EnergOutcome) (st : StepRecord) (s : State) : State :=
  (discharged x e o s).setBench x (({ s.bench x with step := some (st.after (e.result o)) } : Bench).finishing (st.after (e.result o)))

/-- A step whose reading is at or above its threshold ends with its discharge: all but station X and its trunk is as the step end leaves
it (R119, R125, R142, R144). -/
theorem stepPasses {e : Energisation} {st : StepRecord} {o : EnergOutcome} {a b n : Nat} (w : StepDischarges s x e st)
    (held : s.hv.holder = some x) (due : s.hv.releasePending = false) (calm : st.interrupted = false) (state : st.state = .energise)
    (ho : e.outcome = some o) (sampled : o = .sampled a b n) (pass : st.threshold ≤ n) :
    ∃ t, exec (.monitorFall x) s = .next t ∧
      t.hv = (stepEnd x (s.bench x).queued.isSome (passed x e o st s)).hv ∧
      Lends (stepEnd x (s.bench x).queued.isSome (passed x e o st s)) t x.other := by
  obtain ⟨running, hot, ready, he, trunk, stage, settled, closed, run, wait, hs⟩ := w
  have falls := next_running (monitorFalls x) running
  rw [monitorFalls_discharging hot he trunk stage ho (by rw [settled]; nofun),
    stepResult_sampled (s := discharged x e o s) (r := e.result o) hs run wait calm sampled (by rw [state]; nofun),
    stepReading, if_pos (show (st.after (e.result o)).threshold ≤ n from pass)] at falls
  generalize hw : (discharged x e o s).setBench x
    { (discharged x e o s).bench x with step := some (st.after (e.result o)) } = w1 at falls
  have bench : w1.bench x = { s.bench x with step := some (st.after (e.result o)) } := by rw [← hw, State.setBench_bench_same]; rfl
  have step : (w1.bench x).step = some (st.after (e.result o)) := by rw [bench]
  have ready' : w1.matrix.state = .ready := by rw [← hw]; exact ready
  have cold : w1.hot x = false := by rw [← hw]; exact discharged_cold x e o s
  have trunk' : w1.trunk x = s.trunk x := by rw [← hw]; rfl
  have closed' : Closed w1 x := by rw [← hw]; exact closed
  have base : stepClosed x (st.after (e.result o)) w1 = stepEnd x (s.bench x).queued.isSome (passed x e o st s) := by
    have active : (st.after (e.result o)).state ≠ .waitHv := by
      show st.state ≠ .waitHv
      rw [state]
      nofun
    rw [stepClosed, if_neg active, bench, passed, ← hw]
    cases x <;> rfl
  have hv : (passed x e o st s).hv = s.hv.discharged e o := rfl
  have off : (passed x e o st s).hv.sw = .off := rfl
  have supply := supply_stepEnd (x := x) (s := passed x e o st s) (s.bench x).queued.isSome rfl due
  have settled' := stepEnd_settled (x := x) (s := passed x e o st s) (s.bench x).queued.isSome held due off
  obtain ⟨apart, -, -⟩ := finishStep_pending step (.inl closed')
  have opening := finishStep_opens step ready' (.inr (by rw [trunk', settled])) cold closed'
  have readyF : (finishStep x w1).matrix.state = .ready := (worked_finishStep x w1).matrixState.trans ready'
  rw [base] at apart
  have same := apart.hv fun d hd _ => by
    rw [Hv.energ_of_supply supply] at hd
    cases hd
  rw [releaseIfDue_not (by rw [same]; exact settled'), fall_ends readyF (by rw [opening]; nofun)] at falls
  refine ⟨_, falls, by rw [chainStart_hv, same], ⟨by rw [chainStart_hv, same], ?_, ?_, fun p => ?_⟩⟩
  · rw [chainStart_bench, apart.bench _ (Station.other_ne x)]
  · rw [chainStart_trunk, apart.trunk _ (Station.other_ne x)]
  · rw [chainStart_unit, show (finishStep x w1).unit p = _ from congrArg (fun v : PerPort Attention => v.get p) apart.attention]
    exact .refl _

/-! ## Who has the source after the step end -/

theorem asksAlike_passed {e : Energisation} {o : EnergOutcome} {st : StepRecord} {k : Hv} (step : k.stepAsk.get x.other = s.hv.stepAsk.get x.other)
    (reserve : k.reserveAsk.get x.other = s.hv.reserveAsk.get x.other) (limits : k.limits = s.hv.limits) :
    AsksAlike s ((passed x e o st s).setHv k) x.other :=
  ⟨step, reserve, congrArg Limits.hold limits, by rw [State.setHv_bench, passed, State.setBench_bench_other, discharged_bench], rfl,
    fun _ => .refl _⟩

/-- After a release the conditions of a grant are those with no holder. -/
theorem grantable_released {k : Hv} (terms : k.terms = h.terms) (z : Station) :
    k.released.grantable z = ({ h with holder := none } : Hv).grantable z :=
  Hv.grantable_congr (h := k.released) (k := { h with holder := none }) terms rfl z

/-- The next in a line of one. -/
theorem next_single (line : h.line = [y]) : h.next = if h.grantable y then some y else none := by
  unfold Hv.next
  rw [line, List.find?_cons]
  cases h.grantable y <;> rfl

theorem next_pair (line : h.line = [y, z]) :
    h.next = if h.grantable y then some y else if h.grantable z then some z else none := by
  unfold Hv.next
  rw [line, List.find?_cons, List.find?_cons]
  cases h.grantable y <;> cases h.grantable z <;> rfl

theorem AsksAlike.trans {s' s'' : State} (h : AsksAlike s s' y) (k : AsksAlike s' s'' y) : AsksAlike s s'' y :=
  ⟨k.step.trans h.step, k.reserve.trans h.reserve, k.hold.trans h.hold, k.bench.trans h.bench, k.store.trans h.store,
    fun p => (h.units p).trans (k.units p)⟩

/-- At the string limit the holder is released with its asks set anew behind the station that waits, and the arbiter grants that station,
or the released one again, or neither (R117, R119). -/
theorem stepEnd_atLimit {q : Bool} (held : s.hv.holder = some x) (due : s.hv.releasePending = false) (sw : s.hv.sw = .off)
    (line : s.hv.line = [x.other]) (asks : s.hv.asks x = false) (wants : q = true ∨ s.hv.reserved = true)
    (reached : s.hv.limits.string ≤ min (s.hv.string + 1) 64) :
    (s.hv.quiet = false → Notified s (stepEnd x q s) x.port srcHvReleased) ∧
    (({ s.hv with holder := none } : Hv).grantable x.other = true →
      Granted s (stepEnd x q s) x.other ∧ (stepEnd x q s).hv.stepAsk.get x = q ∧
      (stepEnd x q s).hv.reserveAsk.get x = s.hv.reserved ∧ (stepEnd x q s).hv.line = [x]) ∧
    (({ s.hv with holder := none } : Hv).grantable x.other = false → ({ s.hv with holder := none } : Hv).grantable x = true →
      (stepEnd x q s).hv.holder = some x ∧ (stepEnd x q s).hv.asks x = false ∧ (stepEnd x q s).hv.line = [x.other] ∧
      (stepEnd x q s).hv.string = 0 ∧ (stepEnd x q s).hv.holderStep = q ∧ (stepEnd x q s).hv.reserved = (s.hv.reserved || !q) ∧
      (stepEnd x q s).hv.holdTimer = (if q then none else some s.hv.limits.hold) ∧ Notified s (stepEnd x q s) x.port srcHvGranted) ∧
    (({ s.hv with holder := none } : Hv).grantable x.other = false → ({ s.hv with holder := none } : Hv).grantable x = false →
      (stepEnd x q s).hv.holder = none ∧ (stepEnd x q s).hv.stepAsk.get x = q ∧
      (stepEnd x q s).hv.reserveAsk.get x = s.hv.reserved ∧ (stepEnd x q s).hv.line = [x.other, x]) := by
  have counted := countString_waited line held
  have full : s.hv.waiting.isSome = true ∧ s.hv.limits.string ≤ s.hv.countString.string := by
    rw [waiting_other line held, counted]
    exact ⟨rfl, reached⟩
  rw [stepEnd_limit held due wants full, counted]
  obtain ⟨step, reserve, line'⟩ := askAnew_spec (q := q)
    (h := { s.hv with string := min (s.hv.string + 1) 64, holderStep := false }) line asks wants
  obtain ⟨stepO, reserveO, holder, quiet, terms, supply⟩ :=
    askAnew_other { s.hv with string := min (s.hv.string + 1) 64, holderStep := false } x q
  generalize ({ s.hv with string := min (s.hv.string + 1) 64, holderStep := false } : Hv).askAnew x q = k at *
  have held' : (s.setHv k).hv.holder = some x := holder.trans held
  have off : (s.setHv k).hv.sw = .off := (Hv.sw_of_supply supply).trans sw
  have limits : k.limits = s.hv.limits := congrArg (fun v => v.2.1) terms
  have can (z : Station) : k.released.grantable z = ({ s.hv with holder := none } : Hv).grantable z :=
    grantable_released (h := s.hv) terms z
  have next : k.released.next = if ({ s.hv with holder := none } : Hv).grantable x.other then some x.other
      else if ({ s.hv with holder := none } : Hv).grantable x then some x else none := by
    rw [next_pair (h := k.released) line', can, can]
  have worked := worked_released x (s.setHv k)
  have base : Worked s (s.setHv k) := worked_setHv terms
  rw [releaseHolder_off held' off]
  refine ⟨fun loud => ?_, fun other => ?_, fun other own => ?_, fun other own => ?_⟩
  · exact ((notified_released (x := x) (s := s.setHv k) (quiet.trans loud)).worked (worked_lookForGrant _)).of_worked base
  · have grants : (released x (s.setHv k)).hv.next = some x.other := by rw [released_hv, State.setHv_hv, next, if_pos other]
    have asksLike : AsksAlike s (s.setHv k) x.other := ⟨stepO, reserveO, congrArg Limits.hold limits, rfl, rfl, fun _ => .refl _⟩
    have lending := grant_lending x.other (released x (s.setHv k))
    obtain ⟨stepX, reserveX⟩ := granted_asks_ne (released x (s.setHv k)).hv (Station.other_ne x).symm
    have lineX := granted_line_eq (released x (s.setHv k)).hv x.other
    refine ⟨((granted_lookForGrant grants).of_released).carried asksLike ⟨rfl, rfl, rfl, fun _ => .refl _⟩, ?_⟩
    rw [lookForGrant_next grants]
    simp only [Hv.lending, Prod.mk.injEq] at lending
    obtain ⟨⟨-, -, -, -, stepL, reserveL⟩, lineL, -⟩ := lending
    refine ⟨?_, ?_, ?_⟩
    · rw [stepL, stepX, released_hv]
      exact step
    · rw [reserveL, reserveX, released_hv]
      exact reserve
    · rw [lineL, lineX, released_hv]
      show k.line.filter _ = _
      rw [line']
      simp [(Station.other_ne x).symm]
  · have grants : (released x (s.setHv k)).hv.next = some x := by
      rw [released_hv, State.setHv_hv, next, other, if_neg Bool.false_ne_true, if_pos own]
    obtain ⟨holds, asks', string, holderStep, reserved, timer, raised, -⟩ := (granted_lookForGrant grants).of_released
    have lending := grant_lending x (released x (s.setHv k))
    have lineX := granted_line_eq (released x (s.setHv k)).hv x
    rw [State.setHv_hv, step] at holderStep reserved timer
    rw [reserve] at reserved
    rw [limits] at timer
    refine ⟨holds, asks', ?_, string, holderStep, reserved, timer, raised.of_worked base⟩
    rw [lookForGrant_next grants]
    simp only [Hv.lending, Prod.mk.injEq] at lending
    rw [lending.2.1, lineX, released_hv]
    show k.line.filter _ = _
    rw [line']
    simp [Station.other_ne x]
  · have nobody : (released x (s.setHv k)).hv.next = none := by
      rw [released_hv, State.setHv_hv, next, other, own]
      rfl
    rw [lookForGrant_none nobody, released_hv]
    exact ⟨rfl, step, reserve, line'⟩

/-- With neither a queued step nor a reservation the step end gives the source up, and the station that waits is granted (R119). -/
theorem stepEnd_givesUp (held : s.hv.holder = some x) (reserved : s.hv.reserved = false) (sw : s.hv.sw = .off)
    (asks : s.hv.asks x = false) :
    (s.hv.quiet = false → Notified s (stepEnd x false s) x.port srcHvReleased) ∧ (stepEnd x false s).hv.asks x = false ∧
    (s.hv.line = [] → (stepEnd x false s).hv.holder = none) ∧
    (s.hv.line = [x.other] → ({ s.hv with holder := none } : Hv).grantable x.other = true → Granted s (stepEnd x false s) x.other) := by
  rw [stepEnd_frees held reserved]
  have terms : ({ s.hv.countString with holderStep := false } : Hv).terms = s.hv.terms := rfl
  have line : ({ s.hv.countString with holderStep := false } : Hv).line = s.hv.line := rfl
  have quiet : ({ s.hv.countString with holderStep := false } : Hv).quiet = s.hv.quiet := rfl
  have asks' : ({ s.hv.countString with holderStep := false } : Hv).asks x = false := asks
  have held' : ({ s.hv.countString with holderStep := false } : Hv).holder = some x := held
  have off : ({ s.hv.countString with holderStep := false } : Hv).sw = .off := sw
  have alike : AsksAlike s (s.setHv { s.hv.countString with holderStep := false }) x.other :=
    ⟨rfl, rfl, rfl, rfl, rfl, fun _ => .refl _⟩
  generalize ({ s.hv.countString with holderStep := false } : Hv) = k at *
  have base : Worked s (s.setHv k) := worked_setHv terms
  have can (z : Station) : k.released.grantable z = ({ s.hv with holder := none } : Hv).grantable z :=
    grantable_released (h := s.hv) terms z
  refine ⟨fun loud => ?_, releaseHolder_asks asks', fun empty => ?_, fun waits other => ?_⟩
  · rw [releaseHolder_off (s := s.setHv k) held' off]
    exact ((notified_released (x := x) (s := s.setHv k) (quiet.trans loud)).worked (worked_lookForGrant _)).of_worked base
  · rw [releaseHolder_off (s := s.setHv k) held' off, lookForGrant_none, released_hv]
    · rfl
    · rw [released_hv]
      exact Hv.next_of_empty (line.trans empty)
  · rw [releaseHolder_off (s := s.setHv k) held' off]
    refine ((granted_lookForGrant ?_).of_released).carried alike ⟨rfl, rfl, rfl, fun _ => .refl _⟩
    rw [released_hv, State.setHv_hv, next_single (h := k.released) (line.trans waits), can, if_pos other]

end

/-- RELEASE HV and the hold timer of O45: the release of an idle holder, and the asks of a station that does not hold. -/
theorem releaseHv_answers (s : State) (x : Station) (ready : Ready s x.port) {t : State}
    (h : serveReleaseHv x (ended x.port s) = (ended x.port t, some (.plain .ok))) :
    exec (.releaseHv x.port) s = .next (plainly x.port 0x44 .ok t) :=
  exec_plainly rfl rfl ready (taken_station rfl rfl nofun) ((ofStation_port x _ _).trans h)

section
variable {x y : Station} {s : State}

theorem setReserveAsk_false_line (h : Hv) (x : Station) :
    h.setReserveAsk x false =
      { h with
        reserveAsk := h.reserveAsk.set x false
        line := if h.stepAsk.get x then (if h.line.contains x then h.line else h.line ++ [x])
                else h.line.filter (fun y => decide (y ≠ x)) } := by
  simp [Hv.setReserveAsk, Hv.lineUp, Hv.asks]

theorem serveReleaseHv_holder (held : s.hv.holder = some x) :
    serveReleaseHv x s =
      (if !s.hv.holderStep && !s.hv.releasePending then releaseHolder (s.setHv { s.hv with reserved := false, holdTimer := none })
       else s.setHv { s.hv with reserved := false, holdTimer := none }, some (.plain .ok)) := by
  simp [serveReleaseHv, held]

theorem serveReleaseHv_asking (held : s.hv.holder ≠ some x) (asks : s.hv.asks x = true) :
    serveReleaseHv x s = (s.setHv (s.hv.setReserveAsk x false), some (.plain .ok)) := by
  simp [serveReleaseHv, held, asks]

theorem serveReleaseHv_silent (held : s.hv.holder ≠ some x) (asks : s.hv.asks x = false) : serveReleaseHv x s = same .ok s := by
  simp [serveReleaseHv, held, asks]

/-- Settles O45: the requests by who holds, and the step end through `stepPasses`. -/
theorem holdingReleased : Obligations.HoldingReleased := fun s x => by
  refine ⟨fun running timer held sw next loud => ?_, fun running timer => ?_, fun ready => ⟨fun held step due sw next loud => ?_,
    fun held busy => ?_, fun held step line => ?_, fun held step reserve => ?_, fun held asks => ?_⟩, fun y next held sw => ⟨fun running timer => ?_,
    fun ready step due => ?_⟩, fun e he st hs w held due calm state asks o ho a b n sampled pass h hh => ?_⟩
  · refine (next_running holdExpires running).trans (congrArg _ ?_)
    rw [holdExpires, if_pos timer, releaseHolder_nobody held sw next, released_loud loud]
    rfl
  · refine (next_running holdExpires running).trans (congrArg _ ?_)
    rw [holdExpires, timer]
    rfl
  · refine releaseHv_answers s x ready ?_
    rw [serveReleaseHv_holder (s := ended x.port s) held]
    show (if !s.hv.holderStep && !s.hv.releasePending then _ else _, _) = _
    rw [step, due]
    show (releaseHolder ((ended x.port s).setHv { s.hv with reserved := false, holdTimer := none }), _) = _
    rw [releaseHolder_nobody (s := (ended x.port s).setHv { s.hv with reserved := false, holdTimer := none }) held sw next,
      released_loud (s := (ended x.port s).setHv { s.hv with reserved := false, holdTimer := none }) loud]
    rfl
  · refine releaseHv_answers s x ready ?_
    rw [serveReleaseHv_holder (s := ended x.port s) held]
    show (if !s.hv.holderStep && !s.hv.releasePending then _ else _, _) = _
    rcases busy with step | due
    · rw [step]
      rfl
    · rw [due, Bool.not_true, Bool.and_false]
      rfl
  · refine releaseHv_answers s x ready ?_
    rw [serveReleaseHv_asking (s := ended x.port s) held (by simp [Hv.asks, step]), ended_hv, setReserveAsk_false_line, step, line]
    rfl
  · refine releaseHv_answers s x ready ?_
    rw [serveReleaseHv_asking (s := ended x.port s) held (by simp [Hv.asks, reserve]), ended_hv, setReserveAsk_false_line, step]
    rfl
  · exact releaseHv_answers s x ready (serveReleaseHv_silent (s := ended x.port s) held asks)
  · refine ⟨_, next_running holdExpires running, ?_⟩
    rw [holdExpires, if_pos timer]
    exact releaseHolder_grants held sw next
  · have served : serveReleaseHv x (ended x.port s) =
        (releaseHolder ((ended x.port s).setHv { s.hv with reserved := false, holdTimer := none }), some (.plain .ok)) := by
      rw [serveReleaseHv_holder (s := ended x.port s) held]
      show (if !s.hv.holderStep && !s.hv.releasePending then _ else _, _) = _
      rw [step, due]
      rfl
    have grants := releaseHolder_grants (s := (ended x.port s).setHv { s.hv with reserved := false, holdTimer := none }) held sw next
    exact ⟨_, exec_plain rfl rfl ready (taken_station rfl rfl nofun) ((ofStation_port x _ _).trans served), respond_status _ _ _ _,
      grants.1, grants.2⟩
  · obtain ⟨t, exec_, hv, lends⟩ := stepPasses w held due calm state ho sampled pass
    have held' : (passed x e o st s).hv.holder = some x := held
    have due' : (passed x e o st s).hv.releasePending = false := due
    refine ⟨t, exec_, fun wants => ⟨fun line => ?_, fun line below => ?_, fun line reached => ?_⟩, fun none reserved => ?_⟩
    · rw [hv, stepEnd_keeps held' due' wants (by rw [waiting_nobody (show (passed x e o st s).hv.line = [] from line)]; simp),
        countString_alone (show (passed x e o st s).hv.line = [] from line), hh]
      rfl
    · have counted := countString_waited (h := (passed x e o st s).hv) line held'
      rw [hv, stepEnd_keeps held' due' wants (by rw [counted]; exact fun c => absurd c.2 (Nat.not_le.mpr below)), counted, hh]
      rfl
    · obtain ⟨loud, other, own, nobody⟩ := stepEnd_atLimit (s := passed x e o st s) held' due' rfl line asks wants reached
      have alike : AsksAlike s (passed x e o st s) x.other := asksAlike_passed rfl rfl rfl
      have units (p : Port) : RaisedFrom (s.unit p) ((passed x e o st s).unit p) := .refl _
      refine ⟨fun q => ((loud q).of_raised (units _)).raised (lends.units _), fun g => ?_, fun g g' => ?_, fun g g' => ?_⟩
      · obtain ⟨granted, rest⟩ := other g
        rw [hv]
        exact ⟨granted.carried alike lends, rest⟩
      · obtain ⟨holds, asks', line', string, step, reserved, timer, raised⟩ := own g g'
        rw [hv]
        refine ⟨holds, asks', line', string, step, ?_, timer, (raised.of_raised (units _)).raised (lends.units _)⟩
        rw [reserved, Option.not_isSome]
        rfl
      · rw [hv]
        exact nobody g g'
    · obtain ⟨loud, asks', gone, other⟩ := stepEnd_givesUp (s := passed x e o st s) held' reserved rfl asks
      have alike : AsksAlike s (passed x e o st s) x.other := asksAlike_passed rfl rfl rfl
      have units (p : Port) : RaisedFrom (s.unit p) ((passed x e o st s).unit p) := .refl _
      rw [none, Option.isSome_none] at hv lends
      refine ⟨fun q => ((loud q).of_raised (units _)).raised (lends.units _), by rw [hv]; exact asks', fun line => by rw [hv]; exact gone line,
        fun line g => (other line g).carried alike lends⟩

end

end Sys2Proof.Machine

/-! A settled step asks for its energisation (R122, R141, R143), and the end of a settle time (R11, R12). -/

namespace Sys2Proof.Machine

section
variable {x y : Station} {s t : State}

/-- The trunk with its configuration complete in SETTLED (R11). -/
def Trunk.settledOn (t : Trunk) : Trunk := { t with state := .settled, settleTimer := none }

theorem settleTimeEnds_settles (h : (s.trunk x).state = .settling) (alone : (s.trunk x).waiting = none) :
    settleTimeEnds x s = (s.setTrunk x (s.trunk x).settledOn, some .settled) := by
  simp only [settleTimeEnds, h, completeConfig, alone, if_true, Trunk.settledOn]

/-- The trunk with what waits behind its configuration. -/
def Trunk.behindWith (t : Trunk) (w : Option Configuration) : Trunk := { t with waiting := w }

theorem settleTimeEnds_superseded {c : Configuration} (h : (s.trunk x).state = .settling) (newer : (s.trunk x).waiting = some c) :
    settleTimeEnds x s =
      ((takeUp x c (s.setTrunk x ((s.trunk x).behindWith none))).1,
        if (takeUp x c (s.setTrunk x ((s.trunk x).behindWith none))).2 then some .idle else none) := by
  simp only [settleTimeEnds, h, completeConfig, newer, if_true, Trunk.behindWith]

theorem clampTo_eq (lo hi v : Nat) (h : lo ≤ hi) : clampTo lo hi v = max lo (min hi v) := clampTo_eq_max_min h v

theorem onTrunkDone_step (run : (s.bench x).run = .insulation) (wait : (s.bench x).wait = .trunk) : onTrunkDone x s = stepSettled x s := by
  unfold onTrunkDone
  simp only [wait, run]

/-- The HV unit with an energisation connecting on trunk X (R122). -/
def Hv.connecting (h : Hv) (x : Station) (volts dwell : Nat) : Hv :=
  { h with sw := .to x, energ := some { energisationOf h.limits x volts dwell with stage := .connecting } }

/-- An energise request that nothing refuses is taken, and on an idle channel the switch is set at once (R55, R122). -/
theorem energise_idle {volts dwell : Nat} (held : s.hv.holder = some x) (due : s.hv.releasePending = false) (none : s.hv.energ = none)
    (settled : (s.trunk x).state = .settled) (idle : (s.channel x).state = .idle) :
    energise x volts dwell s =
      ((s.setChannel x { s.channel x with state := .isolated }).setHv (s.hv.connecting x volts dwell), Option.none) := by
  have open_ : energiseRefusal x s = Option.none := by simp [energiseRefusal, held, due, none, settled]
  have connects (u : State) (hu : u.hv = { s.hv with energ := some (energisationOf s.hv.limits x volts dwell) }) :
      connectSource x u = u.setHv (s.hv.connecting x volts dwell) := by
    simp [connectSource, hu, energisationOf, Hv.connecting]
  simp only [energise, open_]
  rw [isolateChannel]
  simp only [State.setHv_channel, idle]
  rw [connects _ rfl]
  rfl

theorem askEnergise_taken {st : StepRecord} {dwell : Nat} (held : s.hv.holder = some x) (due : s.hv.releasePending = false)
    (none : s.hv.energ = none) (settled : (s.trunk x).state = .settled) (idle : (s.channel x).state = .idle) :
    askEnergise x st dwell s =
      ((s.setChannel x { s.channel x with state := .isolated }).setHv (s.hv.connecting x st.voltage dwell)).setBench x
        { s.bench x with step := some (st.energised (energisationOf s.hv.limits x st.voltage dwell)), wait := .energisation } := by
  have taken := energise_idle (s := s.setBench x { s.bench x with step := some st, wait := .energisation }) (volts := st.voltage)
    (dwell := dwell) held due none settled idle
  simp only [askEnergise, taken]
  cases x <;> rfl

/-- Settles O46: the trunk reports SETTLED, and the request is taken on the idle channel. -/
theorem energisationBegins : Obligations.EnergisationBegins := fun s x st v running settling alone wait run hs state held due none idle cap hv => by
  refine (next_running (fun s => tellTrunk x (settleTimeEnds x s)) running).trans (congrArg _ ?_)
  have volts : setpointOf s.hv.limits.cap st.voltage = v := by rw [hv, setpointOf, clampTo_eq _ _ _ cap]
  rw [settleTimeEnds_settles settling alone]
  show onTrunkDone x (s.setTrunk x (s.trunk x).settledOn) = _
  rw [onTrunkDone_step (s := s.setTrunk x (s.trunk x).settledOn) run wait]
  have settled : ((s.setTrunk x (s.trunk x).settledOn).trunk x).state = .settled := by rw [State.setTrunk_trunk_same]; rfl
  rcases state with configure | locate
  · have asks : stepSettled x (s.setTrunk x (s.trunk x).settledOn) =
        askEnergise x { st with state := .energise } st.dwell (s.setTrunk x (s.trunk x).settledOn) := by
      simp only [stepSettled, State.setTrunk_bench, hs, configure]
    rw [asks, askEnergise_taken (s := s.setTrunk x (s.trunk x).settledOn) held due none settled idle]
    simp only [configure, if_true, StepRecord.energised, energisationOf, Hv.connecting, State.setTrunk_hv, volts]
    rfl
  · have asks : stepSettled x (s.setTrunk x (s.trunk x).settledOn) = askEnergise x st 200 (s.setTrunk x (s.trunk x).settledOn) := by
      simp only [stepSettled, State.setTrunk_bench, hs, locate]
      rfl
    rw [asks, askEnergise_taken (s := s.setTrunk x (s.trunk x).settledOn) held due none settled idle]
    simp only [StepRecord.energised, locate, reduceCtorEq, if_false, energisationOf, Hv.connecting, State.setTrunk_hv, volts]
    rfl

end

end Sys2Proof.Machine

/-! The end of a settle time: superseded, SETTLED, or the measurement of a sweep (R11, R12, R47). -/

namespace Sys2Proof.Machine

section
variable {x y : Station} {s t : State}

/-- Taking up on a trunk whose waiting configuration alone has been changed before. -/
theorem takesUp_behind (x : Station) (c : Configuration) (w : Option Configuration) (s : State) :
    TakesUp s (takeUp x c (s.setTrunk x ((s.trunk x).behindWith w))).1 x c w := by
  rintro g rfl now rfl k rfl
  have h := takesUp_takeUp x c (s.setTrunk x ((s.trunk x).behindWith w)) _ rfl _ rfl _ rfl
  simp only [State.setTrunk_trunk_same] at h
  exact h

theorem unfinished {c : Configuration} (h : ¬ DoneAtOnce s x c) : (takeUp x c s).2 = false := by
  rwa [Bool.eq_false_iff, ne_eq, takeUp_done_iff]

theorem onTrunkDone_idle (trunk : (s.bench x).wait ≠ .trunk) (allOpen : (s.bench x).wait ≠ .allOpen) : onTrunkDone x s = s := by
  unfold onTrunkDone
  dsimp only
  split
  · next h => exact absurd h allOpen
  · next h => exact absurd h trunk
  all_goals rfl

theorem onTrunkDone_sweep {w : Sweep} {r : RunRecord} (wait : (s.bench x).wait = .trunk) (run : (s.bench x).run = .continuity)
    (sweep : (s.bench x).sweep = some w) (record : (s.bench x).record = some r) (going : r.abortPending = false) :
    onTrunkDone x s = measure x w s := by
  have a : aborting s x = false := by simp [aborting, record, going]
  unfold onTrunkDone
  simp only [wait, run, sweep, a]
  rfl

/-- A channel with a measurement taken (R47). -/
def Channel.measuringNow (c : Channel) (m : Measurement) : Channel := { c with state := .measuring, range := m.firstRange, inHand := some m }

section
variable (idle : (s.channel x).state = .idle) (alone : (s.channel x).isoPending = false) (settled : (s.trunk x).state = .settled)
  (cold : s.hot x = false)
include idle alone settled cold

/-- An idle channel on a settled, cold trunk takes a measurement (R47). -/
theorem requestMeasurement_taken (m : Measurement) :
    requestMeasurement x m s = (s.setChannel x ((s.channel x).measuringNow m), none) := by
  have taken : refusalOf x s = none := by simp [refusalOf, idle, alone, settled, cold]
  simp only [requestMeasurement, taken, Channel.measuringNow]

theorem measure_taken (w : Sweep) :
    measure x w s =
      (s.setBench x { s.bench x with wait := .channel }).setChannel x
        ((s.channel x).measuringNow (w.measurement (s.window x) (s.bench x).locator)) := by
  unfold measure
  dsimp only
  rw [requestMeasurement_taken (s := s.setBench x { s.bench x with wait := .channel }) idle alone settled cold]
  rfl

end

/-- The measurement that goes with a configuration: a group for a range test, a pair else (R85, R98, R104). -/
theorem measurement_eq (w : Sweep) (v : Window) (stack : List Entry) {group : Bool}
    (h : group = decide (w.phase = .isolation ∧ stack.head?.map (·.state) ≠ some .confirm)) :
    w.measurement v stack = if group then .group w.short else .pair (v.physical w.pairA) (v.physical w.pairB) w.start := by
  subst h
  unfold Sweep.measurement
  cases w.phase <;> rcases stack with _ | ⟨e, es⟩ <;> simp only [List.head?_nil, List.head?_cons, Option.map_none, Option.map_some]
  case isolation.cons =>
    by_cases c : e.state = .confirm <;> simp [c]
  all_goals simp

/-- Settles O21, by what waits behind the configuration. -/
theorem settledTrunkMeasures : Obligations.SettledTrunkMeasures := by
  refine ⟨fun s x running settling c newer => ⟨fun later => ?_, fun d trunk allOpen => ?_⟩,
    fun s x running settling alone => ⟨fun trunk allOpen => ?_, fun w r wait run sweep record going idle none cold group hg => ?_⟩⟩
  · have busy : (s.trunk x).state ≠ .settled := by rw [settling]; nofun
    have handing := handing_takeUp x c (s.setTrunk x ((s.trunk x).behindWith none))
    obtain ⟨hv, channels⟩ := handing.settled (by rw [State.setTrunk_trunk_same]; exact busy)
    refine ⟨_, (next_running (fun s => tellTrunk x (settleTimeEnds x s)) running).trans ?_, takesUp_behind x c none s,
      (handing.trunk _ (Station.other_ne x)).trans (State.setTrunk_trunk_ne _ _ _ (Station.other_ne x)), handing.benches, channels, hv,
      (worked_takeUp x c (s.setTrunk x ((s.trunk x).behindWith none))).image, handing.attention⟩
    rw [settleTimeEnds_superseded settling newer]
    have pending := unfinished (s := s.setTrunk x ((s.trunk x).behindWith none)) later
    rw [pending]
    rfl
  · refine (next_running (fun s => tellTrunk x (settleTimeEnds x s)) running).trans (congrArg _ ?_)
    rw [settleTimeEnds_superseded settling newer, takeUp_done (s := s.setTrunk x ((s.trunk x).behindWith none)) c d,
      left_unsettled (by rw [State.setTrunk_trunk_same]; exact fun e => by cases settling.symm.trans e)]
    exact (onTrunkDone_idle (s := (s.setTrunk x ((s.trunk x).behindWith none)).setTrunk x
      (takingUp x c (s.setTrunk x ((s.trunk x).behindWith none))).rest) trunk allOpen).trans (by cases x <;> rfl)
  · refine (next_running (fun s => tellTrunk x (settleTimeEnds x s)) running).trans (congrArg _ ?_)
    rw [settleTimeEnds_settles settling alone]
    exact onTrunkDone_idle (s := s.setTrunk x (s.trunk x).settledOn) trunk allOpen
  · refine (next_running (fun s => tellTrunk x (settleTimeEnds x s)) running).trans (congrArg _ ?_)
    rw [settleTimeEnds_settles settling alone]
    show onTrunkDone x (s.setTrunk x (s.trunk x).settledOn) = _
    rw [onTrunkDone_sweep (s := s.setTrunk x (s.trunk x).settledOn) wait run sweep record going]
    have settled : ((s.setTrunk x (s.trunk x).settledOn).trunk x).state = .settled := by rw [State.setTrunk_trunk_same]; rfl
    rw [measure_taken (s := s.setTrunk x (s.trunk x).settledOn) (x := x) idle none settled cold w]
    show ((s.setTrunk x (s.trunk x).settledOn).setBench x { s.bench x with wait := .channel }).setChannel x
      ((s.channel x).measuringNow (w.measurement (s.window x) (s.bench x).locator)) = _
    rw [measurement_eq w _ _ hg]
    cases group <;> rfl

end

end Sys2Proof.Machine

/-! The end of a housekeeping release wait (R6, R7, R16). -/

namespace Sys2Proof.Machine

section
variable {x : Station} {s : State}

theorem takeWaiting_none (h : (s.trunk x).waiting = none) : takeWaiting x s = (s, none) := by simp only [takeWaiting, h]

theorem allOpenDone_rests (part : (s.trunk x).part = .deviceAllOpen) (h : (s.trunk x).waiting = none) :
    allOpenDone x s = (s.setTrunk x (s.trunk x).rest, none) := by
  simp only [allOpenDone, part, h, if_true]

/-- The matrix with the clearing pass ended (R6, R7). -/
def Matrix.cleared (m : Matrix) (pres : CardSet) : Matrix := { m with presence := pres, state := .ready, hkWait := none }

/-- With nothing waiting at a trunk, the clearing pass ends with the window load that the table asks for (R6, R7, R9). -/
theorem matrixReady_eq (pres : CardSet) (a : (s.trunk .a).waiting = none) (b : (s.trunk .b).waiting = none) :
    matrixReady pres s =
      if s.matrix.selTable = .none then s.setMatrix (s.matrix.cleared pres)
      else requestHousekeeping .window (s.setMatrix (s.matrix.cleared pres)) := by
  have quiet (u : State) (hu : ∀ y, (u.trunk y).waiting = none) :
      tellTrunk .b (takeWaiting .b (tellTrunk .a (takeWaiting .a u))) = u := by
    rw [takeWaiting_none (hu .a)]
    show tellTrunk .b (takeWaiting .b u) = u
    rw [takeWaiting_none (hu .b)]
    rfl
  refine quiet (if s.matrix.selTable = .none then _ else _) fun y => ?_
  have same : ((s.setMatrix (s.matrix.cleared pres)).trunk y).waiting = none := by cases y <;> assumption
  split
  · exact same
  · rw [requestHousekeeping]
    split
    · exact same
    · rw [chainStart, State.trunk, State.setMatrix_matrix, (arbitrate_frame _).2.2]
      exact same

/-- Settles O22, by the load whose release wait ends. -/
theorem housekeepingEnds : Obligations.HousekeepingEnds := by
  refine fun s pres running a b => ⟨fun wait table => ?_, fun wait table noClearing => ?_, fun wait parta partb => ?_⟩
  · refine (next_running (housekeepingWaitEnds pres) running).trans (congrArg _ ?_)
    simp only [housekeepingWaitEnds, wait]
    rw [matrixReady_eq pres a b, if_pos table]
    rfl
  · have ends : exec (.housekeepingReleaseWaitExpiry pres) s =
        .next (requestHousekeeping .window (s.setMatrix (s.matrix.cleared pres))) := by
      refine (next_running (housekeepingWaitEnds pres) running).trans (congrArg _ ?_)
      simp only [housekeepingWaitEnds, wait]
      rw [matrixReady_eq pres a b, if_neg table]
    have w := worked_requestHousekeeping .window (s.setMatrix (s.matrix.cleared pres))
    refine ⟨_, ends, w.presence, w.matrixState, requestHousekeeping_placed (s := s.setMatrix (s.matrix.cleared pres)) noClearing,
      fun i hi => housekeepingPlaced (u := s.setMatrix (s.matrix.cleared pres)) rfl rfl noClearing (fun m hm => ?_) rfl⟩
    have known : m.known = i := by rw [hm]; exact congrArg (·.getD { relays := .allOpen, sel := .none }) hi
    rw [hm] at known ⊢
    simp only [Matrix.housekeepingLoad, known]
    rfl
  · refine (next_running (housekeepingWaitEnds pres) running).trans (congrArg _ ?_)
    simp only [housekeepingWaitEnds, wait]
    rw [allOpenDone_rests (s := s.setMatrix { s.matrix with hkWait := none }) parta a]
    exact congrArg (tellTrunk .b) (allOpenDone_rests (x := .b)
      (s := (s.setMatrix { s.matrix with hkWait := none }).setTrunk .a (s.trunk .a).rest) partb b)

end

end Sys2Proof.Machine

/-! The power-on, line and supervisor resets block by block, and the end of a reset (R2, R6, R43, R79, R133, R164). -/

namespace Sys2Proof.Machine

section
variable {x : Station} {s t : State} {p : Port}

/-! ## What a port lost (R164) -/

/-- A port after a line or supervisor reset: ABANDONED for what it lost, nothing else. -/
theorem abandon_response (v : PortState) :
    (∀ r, v.work = some r → v.abandon.response = some (abandonedResponse r.code)) ∧
    (∀ a, v.response = some a → v.work = none → v.abandon.response = some (abandonedResponse a.echo)) ∧
    (v.work = none → v.response = none → v.abandon.response = none) := by
  refine ⟨fun r h => ?_, fun a h w => ?_, fun w h => ?_⟩
  · simp only [PortState.abandon, PortState.heldEcho, h, Option.map_some]
  · simp only [PortState.abandon, PortState.heldEcho, h, w, Option.map_some]
  · simp only [PortState.abandon, PortState.heldEcho, h, w, Option.map_none]

/-! ## The store (R43) -/

theorem Store.kept_empty {v : Store} (armed : Bool) (h : v.state = .empty ∨ v.state = .loading) :
    (v.kept armed).state = .empty ∧ (v.kept armed).check = none := by
  rcases h with h | h <;> simp [Store.kept, h]

theorem Store.kept_checked {v : Store} (armed : Bool) (h : v.state = .checking ∨ v.state = .valid ∨ v.state = .faulted) :
    (v.kept armed).state = .checking ∧ (v.kept armed).check = some (.start .full) := by
  rcases h with h | h | h <;> simp [Store.kept, h]

/-- The words, the last result and the reference CRC are kept, the alarm is not active and no run stands joined (R43). -/
theorem Store.kept_fields (v : Store) (armed : Bool) :
    (v.kept armed).words = v.words ∧ (v.kept armed).lastResult = v.lastResult ∧ (v.kept armed).crc = v.crc ∧
    (v.kept armed).armed = armed ∧ (v.kept armed).active = false ∧ (v.kept armed).joined = [] := by
  unfold Store.kept
  dsimp only
  split <;> exact ⟨rfl, rfl, rfl, rfl, rfl, rfl⟩

/-! ## Power-on and line reset -/

/-- The blocks that power-on and line reset leave alike have their reset values. -/
theorem resetValues {b : BuildMax} {lids hot : Both Bool} {estop : Bool} (attention : t.attention = ⟨.reset, .reset, .reset⟩)
    (hv : t.hv = .reset b lids estop) (matrix : t.matrix = .reset hot) (channels : t.channels = ⟨.reset, .reset⟩)
    (bench : ∀ x, ∃ n c, t.bench x = { Bench.reset with nextSerial := n, counters := c }) (queue : t.printer.queue = []) :
    ResetValues t b := by
  have unit (p : Port) : t.unit p = .reset := by
    rw [State.unit, attention]
    cases p <;> rfl
  have trunk (x : Station) : t.trunk x = .reset := by
    rw [State.trunk, matrix]
    cases x <;> rfl
  have window (x : Station) : t.window x = .reset := by
    rw [State.window, matrix]
    cases x <;> rfl
  have channel (x : Station) : t.channel x = .reset := by
    rw [State.channel, channels]
    cases x <;> rfl
  have limits : Limits.reset b = { cap := if b = .v1000 then 1000 else 1500, ramp := 2, trip := 1000, hold := 1000, string := 8 } := by
    cases b <;> rfl
  rw [ResetValues, hv, matrix, queue, ← limits]
  refine ⟨fun p => ?_, rfl, rfl, rfl, rfl, rfl, rfl, rfl, rfl, rfl, rfl, rfl, rfl, rfl, rfl, rfl, rfl, rfl, fun x => ?_, rfl, rfl, rfl, rfl,
    rfl, rfl, rfl, rfl, fun x => ?_, fun x => ?_, rfl⟩
  · rw [unit]
    exact ⟨rfl, rfl, rfl, rfl⟩
  · obtain ⟨n, c, hb⟩ := bench x
    rw [hb]
    exact ⟨rfl, rfl, rfl, rfl, rfl, rfl, rfl, rfl, fun k => by cases k <;> rfl⟩
  · rw [window, trunk]
    exact ⟨rfl, rfl, rfl, rfl, rfl, rfl⟩
  · rw [channel]
    exact ⟨rfl, rfl, rfl, rfl⟩

/-- Settles O55. -/
theorem linesReset : Obligations.LinesReset := fun s b running => by
  obtain ⟨hporn, hline⟩ := lines_of_running running
  have line : lineReset b s = _ := if_neg (by simp [hporn])
  refine ⟨exec_powerOnReset b hporn, ⟨_, exec_powerOnReset b hporn,
    resetValues (t := powerOn b s) rfl rfl rfl rfl (fun x => ⟨1, .zero, by cases x <;> rfl⟩) rfl, rfl, rfl, rfl, rfl, rfl, rfl,
    fun p => by cases p <;> exact ⟨rfl, rfl, rfl⟩, fun x => by cases x <;> exact ⟨rfl, rfl⟩⟩, ⟨_, exec_lineReset b hline, ?_⟩⟩
  have port (p : Port) := lineReset_port b p hporn
  have bench (x : Station) :
      (lineReset b s).bench x = { Bench.reset with nextSerial := (s.bench x).nextSerial, counters := (s.bench x).counters } := by
    rw [line]
    cases x <;> rfl
  have store : (lineReset b s).store = s.store.kept false := congrArg State.store line
  obtain ⟨words, last, crc, armed, active, joined⟩ := s.store.kept_fields false
  refine ⟨congrArg State.linerst line, resetValues (congrArg State.attention line) (congrArg State.hv line) (congrArg State.matrix line)
    (congrArg State.channels line) (fun x => ⟨_, _, bench x⟩) (congrArg (fun v : State => v.printer.queue) line), congrArg State.cause line,
    congrArg State.attention line, congrArg State.matrix line, congrArg State.channels line, congrArg State.hv line,
    congrArg State.printer line, ?_⟩
  rw [store]
  refine ⟨words, last, crc, armed, active, joined, Store.kept_empty _, Store.kept_checked _, bench, fun p => ?_⟩
  rw [port p]
  exact ⟨rfl, rfl, abandon_response _⟩

/-! ## The end of a reset -/

theorem requestHousekeeping_matrix (k : Housekeeping) (s : State) :
    requestHousekeeping k s = s.setMatrix (requestHousekeeping k s).matrix := by
  unfold requestHousekeeping
  split <;> rfl

/-- The matrix with its clearing pass begun (R6). -/
def Matrix.clearingNow (m : Matrix) : Matrix := { m with state := .clearing }

theorem clearingPass_stays (h : s.matrix.state ≠ .unknown ∨ s.hot .a = true ∨ s.hot .b = true) : clearingPass s = s := by
  refine if_neg ?_
  rintro ⟨unknown, a, b⟩
  rcases h with h | h | h
  · exact h unknown
  · cases a.symm.trans h
  · cases b.symm.trans h

theorem clearingPass_begins (unknown : s.matrix.state = .unknown) (a : s.hot .a = false) (b : s.hot .b = false) :
    clearingPass s = requestHousekeeping .clearing (s.setMatrix s.matrix.clearingNow) := if_pos ⟨unknown, a, b⟩

/-- A clearing pass may start a load; the monitors and every other block are as they were. -/
theorem clearingPass_matrix (s : State) : ∃ m, clearingPass s = s.setMatrix m ∧ m.hot = s.matrix.hot := by
  unfold clearingPass
  split
  · exact ⟨_, requestHousekeeping_matrix _ _, (worked_requestHousekeeping .clearing (s.setMatrix s.matrix.clearingNow)).hot⟩
  · exact ⟨_, rfl, rfl⟩

/-- On an UNKNOWN matrix with both monitors cold and the chain free the clearing load starts (R5, R6). -/
theorem clearingPass_loads (unknown : s.matrix.state = .unknown) (load : s.matrix.load = none) (hk : s.matrix.hk = none)
    (a : s.hot .a = false) (b : s.hot .b = false) :
    (clearingPass s).matrix.state = .clearing ∧ (clearingPass s).matrix.load = some clearingLoad := by
  rw [clearingPass_begins unknown a b, requestHousekeeping_eq (by rw [State.setMatrix_matrix]; exact fun h => nomatch hk.symm.trans h)]
  rw [State.setMatrix_matrix, State.setMatrix_matrix,
    arbitrate_starts (m := s.matrix.clearingNow.requesting .clearing) (k := .clearing) load rfl rfl]
  exact ⟨rfl, rfl⟩

/-- The last reset line released. -/
theorem endReset_runs {l : ResetLine} (i : Inputs) (h : l = .porn ∧ s.porn = true ∧ s.linerst = false ∨ l = .linerst ∧ s.porn = false ∧ s.linerst = true) :
    exec (.resetEnd l i) s = .next (clearingPass (takeInputs i (releaseLine l s))) ∧ (releaseLine l s).inReset = false := by
  rcases h with ⟨rfl, porn, line⟩ | ⟨rfl, porn, line⟩
  · have runs : (releaseLine .porn s).inReset = false := by simp [releaseLine, State.inReset, line]
    refine ⟨congrArg Host.Outcome.next ((if_pos porn).trans ?_), runs⟩
    simp only [endReset, runs, Bool.false_eq_true, if_false]
  · have runs : (releaseLine .linerst s).inReset = false := by simp [releaseLine, State.inReset, porn]
    refine ⟨congrArg Host.Outcome.next ((if_pos line).trans ?_), runs⟩
    simp only [endReset, runs, Bool.false_eq_true, if_false]

/-- An event while a reset line is asserted. -/
theorem exec_event_held {f : State → State} {i : Instr} (held : s.inReset = true) (e : exec i s = .next (whenRunning f s)) :
    exec i s = .next s := by rw [e, whenRunning_held f held]

/-- Settles O56. -/
theorem resetEnds : Obligations.ResetEnds := fun s i => by
  refine ⟨fun porn line => ⟨?_, ?_⟩, fun l h => ?_, fun running l => ?_, fun p held => ⟨?_, fun bytes => ?_, fun c r hc => ?_⟩,
    fun c held h1 h2 h3 hq h4 h5 h6 => ?_⟩
  · refine congrArg Host.Outcome.next ((if_pos porn).trans ?_)
    simp [endReset, releaseLine, State.inReset, line]
  · refine congrArg Host.Outcome.next ((if_pos line).trans ?_)
    simp [endReset, releaseLine, State.inReset, porn]
  · obtain ⟨ends, runs⟩ := endReset_runs i h
    have matrix : (releaseLine l s).matrix = s.matrix := by cases l <;> rfl
    obtain ⟨m, hm, hot⟩ := clearingPass_matrix (takeInputs i (releaseLine l s))
    refine ⟨_, ends, ?_, ?_, ?_, ?_, ?_, ?_, ?_, ?_, ?_, fun unknown hot => ?_, fun unknown load hk a b => ?_⟩
    · rw [hm]
      exact runs
    · rw [hm, State.hot, State.setMatrix_matrix, hot]
      rfl
    · rw [hm, State.hot, State.setMatrix_matrix, hot]
      rfl
    iterate 6
      rw [hm]
      cases l <;> rfl
    · rw [clearingPass_stays (s := takeInputs i (releaseLine l s)) (.inr hot)]
      exact ⟨(congrArg Matrix.state matrix).trans unknown, (congrArg Matrix.load matrix : (releaseLine l s).matrix.load = _)⟩
    · exact clearingPass_loads (s := takeInputs i (releaseLine l s)) ((congrArg Matrix.state matrix).trans unknown)
        ((congrArg Matrix.load matrix).trans load) ((congrArg Matrix.hk matrix).trans hk) a b
  · obtain ⟨hporn, hline⟩ := lines_of_running running
    refine congrArg Host.Outcome.next (if_neg ?_)
    cases l
    · exact Bool.eq_false_iff.mp hporn
    · exact Bool.eq_false_iff.mp hline
  · exact congrArg Host.Outcome.next (atRise_held _ _ held)
  · exact congrArg Host.Outcome.next (atRise_held _ _ held)
  · rw [exec_request hc, atRise_held _ _ held]
  · cases c
    case powerOnReset b => exact absurd rfl (h1 b)
    case lineReset b => exact absurd rfl (h2 b)
    case resetEnd l v => exact absurd rfl (h3 l v)
    case fetch p => exact absurd rfl (h4 p)
    case requestFrame p bytes => exact absurd rfl (h5 p bytes)
    case chipSelectFall p => exact absurd rfl (h6 p)
    all_goals cases hq
    all_goals exact exec_event_held held rfl

/-! ## RESET DEVICE -/

/-- A trunk after a supervisor reset (R16). -/
def Trunk.deviceReset (t : Trunk) (ready hot : Bool) : Trunk :=
  { t with
    state := if ready then (if hot then .guarded else .opening) else .idle
    config := none
    waiting := none
    target := .allOpen
    part := if ready then .deviceAllOpen else .load
    settleTimer := none }

/-- The matrix after a supervisor reset, before its all-open request (R4, R16). -/
def Matrix.trunksReset (m : Matrix) : Matrix :=
  { m.supervisorReset with
    trunks := ⟨m.trunks.a.deviceReset (decide (m.state = .ready)) m.hot.a, m.trunks.b.deviceReset (decide (m.state = .ready)) m.hot.b⟩ }

theorem supervisorReset_eq (s : State) :
    supervisorReset s =
      if s.matrix.state = .ready then requestHousekeeping .allOpen (s.blocksReset.setMatrix s.matrix.trunksReset)
      else chainStart (s.blocksReset.setMatrix s.matrix.trunksReset) := by
  have trunks : supervisorResetTrunk .b (supervisorResetTrunk .a s.blocksReset) = s.blocksReset.setMatrix s.matrix.trunksReset := by
    have a (u : State) (x : Station) (hu : u.matrix.state = s.matrix.state) :
        supervisorResetTrunk x u = u.setTrunk x ((u.trunk x).deviceReset (decide (s.matrix.state = .ready)) (u.hot x)) := by
      rw [supervisorResetTrunk, hu]
      by_cases ready : s.matrix.state = .ready <;> simp [ready, Trunk.deviceReset, Trunk.rest]
    rw [a s.blocksReset .a rfl, a (s.blocksReset.setTrunk .a _) .b rfl]
    rfl
  rw [← trunks]
  rfl

theorem supervisorReset_ready (h : s.matrix.state = .ready) :
    supervisorReset s = requestHousekeeping .allOpen (s.blocksReset.setMatrix s.matrix.trunksReset) := by
  rw [supervisorReset_eq, if_pos h]

theorem supervisorReset_unready (h : s.matrix.state ≠ .ready) :
    supervisorReset s = chainStart (s.blocksReset.setMatrix s.matrix.trunksReset) := by
  rw [supervisorReset_eq, if_neg h]

/-- A supervisor reset writes the blocks, and else the matrix alone. -/
theorem supervisorReset_setMatrix (s : State) : supervisorReset s = s.blocksReset.setMatrix (supervisorReset s).matrix := by
  rw [supervisorReset_eq]
  split
  · rw [requestHousekeeping_matrix]
    rfl
  · rfl

/-- With both request slots empty the arbiter serves no trunk. -/
theorem arbitrate_empty {m : Matrix} (h : m.slots = ⟨none, none⟩) :
    m.arbitrate.slots = m.slots ∧ m.arbitrate.lastServed = m.lastServed := by
  rcases arbitrate_cases m with e | ⟨k, -, -, -, e⟩ | ⟨x, r, -, hx, -⟩
  · rw [e]
    exact ⟨rfl, rfl⟩
  · rw [e]
    exact ⟨rfl, rfl⟩
  · rw [h] at hx
    cases x <;> cases hx

theorem supervisorReset_matrix (s : State) :
    (supervisorReset s).matrix.slots = ⟨none, none⟩ ∧ (supervisorReset s).matrix.lastServed = .b ∧
    (supervisorReset s).matrix.trunks = s.matrix.trunksReset.trunks := by
  have frame (m : Matrix) (h : m.slots = ⟨none, none⟩) (last : m.lastServed = .b) (trunks : m.trunks = s.matrix.trunksReset.trunks) :
      m.arbitrate.slots = ⟨none, none⟩ ∧ m.arbitrate.lastServed = .b ∧ m.arbitrate.trunks = s.matrix.trunksReset.trunks :=
    ⟨(arbitrate_empty h).1.trans h, (arbitrate_empty h).2.trans last, (arbitrate_frame m).2.2.trans trunks⟩
  rw [supervisorReset_eq]
  split
  · unfold requestHousekeeping
    split
    · exact ⟨rfl, rfl, rfl⟩
    · exact frame (s.matrix.trunksReset.requesting .allOpen) rfl rfl rfl
  · exact frame s.matrix.trunksReset rfl rfl rfl

theorem supervisorReset_trunk (x : Station) (s : State) :
    (supervisorReset s).trunk x = (s.trunk x).deviceReset (decide (s.matrix.state = .ready)) (s.hot x) := by
  rw [State.trunk, (supervisorReset_matrix s).2.2]
  cases x <;> rfl

theorem supervisorReset_noClearing (h : s.matrix.hk ≠ some .clearing) : s.matrix.trunksReset.hk ≠ some .clearing := by
  show (if s.matrix.hk = some .clearing then some Housekeeping.clearing else none) ≠ _
  rw [if_neg h]
  nofun

/-- Settles O57, block by block. -/
theorem deviceReset : Obligations.DeviceReset := fun s running => by
  have blocks := supervisorReset_setMatrix (ended .ps s)
  have w := worked_supervisorReset (ended .ps s)
  have port (x : Station) : (takeResetDevice .ps (ended .ps s)).port x.port = (s.port x.port).abandon := by
    rw [takeResetDevice, resetResponse, State.setPort_port_ne _ _ _ (by cases x <;> nofun), supervisorReset_port, ended,
      State.setPort_port_ne _ _ _ (by cases x <;> nofun)]
  obtain ⟨words, last, crc, armed, active, joined⟩ := s.store.kept_fields s.store.armed
  obtain ⟨slots, served, -⟩ := supervisorReset_matrix (ended .ps s)
  refine ⟨_, exec_resetDevice running, ?_⟩
  have ps : (takeResetDevice .ps (ended .ps s)).port .ps = _ := State.setPort_port_same _ _ _
  refine ⟨w.cause, congrArg State.attention blocks, congrArg State.channels blocks, congrArg State.printer blocks, ?_, ?_, ?_, fun x => ?_,
    fun x => ?_, ?_⟩
  · rw [ps]
  · rw [ps]
    rfl
  · rw [ps]
    exact congrArg (· || _) (ended_occupied .ps s)
  · rw [port x]
    obtain ⟨work, response, none⟩ := abandon_response (s.port x.port)
    exact ⟨rfl, rfl, work, fun a h k => response a k h, none⟩
  · show (supervisorReset (ended .ps s)).bench x = _
    rw [blocks]
    cases x <;> rfl
  have hv : (takeResetDevice .ps (ended .ps s)).hv = s.hv.supervisorReset := congrArg State.hv blocks
  have store : (takeResetDevice .ps (ended .ps s)).store = s.store.kept s.store.armed := congrArg State.store blocks
  rw [hv, store]
  refine ⟨rfl, rfl, rfl, rfl, rfl, rfl, words, armed, active, Store.kept_empty _, Store.kept_checked _, fun x => ?_, w.matrixState, w.windows,
    w.image, slots, served, w.selTable, w.presence, fun ready noClearing => ⟨?_, fun u hu => ?_⟩, fun unready => ⟨w.hkWait, fun l load => ?_⟩⟩
  · refine (supervisorReset_trunk x (ended .ps s)).trans ?_
    simp only [Trunk.deviceReset, decide_eq_true_eq]
    rfl
  · show (supervisorReset (ended .ps s)).matrix.hk = _ ∨ ∃ l, (supervisorReset (ended .ps s)).matrix.load = some l ∧ _
    rw [supervisorReset_ready (s := ended .ps s) ready]
    exact requestHousekeeping_placed (s := (ended .ps s).blocksReset.setMatrix s.matrix.trunksReset) (supervisorReset_noClearing noClearing)
  · subst hu
    refine housekeepingPlaced (u := (ended .ps s).blocksReset.setMatrix s.matrix.trunksReset) rfl rfl (supervisorReset_noClearing noClearing)
      (fun m hm => by rw [hm]; rfl) ?_
    show (supervisorReset (ended .ps s)).matrix = _
    rw [supervisorReset_ready (s := ended .ps s) ready]
    rfl
  · show (supervisorReset (ended .ps s)).matrix.load = _ ∧ (supervisorReset (ended .ps s)).matrix.hk = _
    rw [supervisorReset_unready (s := ended .ps s) unready]
    show s.matrix.trunksReset.arbitrate.load = _ ∧ s.matrix.trunksReset.arbitrate.hk = _
    rw [arbitrate_busy (m := s.matrix.trunksReset) load]
    exact ⟨load, rfl⟩

end

end Sys2Proof.Machine

/-! OPEN RUN (R40, R64 to R66). -/

namespace Sys2Proof.Machine

section
variable {x : Station} {s : State}

theorem free?_eq {v : BankState} : v.free? = false ↔ v ≠ .free ∧ v ≠ .kept := by simp [BankState.free?]

theorem chooseBank_none {b : Bench} (h : ∀ k, (b.banks.get k).state ≠ .free ∧ (b.banks.get k).state ≠ .kept) : chooseBank b = none := by
  unfold chooseBank
  rw [if_neg (by rw [free?_eq.mpr (h _)]; decide), if_neg (by rw [free?_eq.mpr (h _)]; decide)]

/-- A bank that may be taken is chosen, the last used one only where the other may not be (R65). -/
theorem chooseBank_some {b : Bench} {k : BankNo} (h : (b.banks.get k).state = .free ∨ (b.banks.get k).state = .kept)
    (last : k = b.lastBank → (b.banks.get k.other).state ≠ .free ∧ (b.banks.get k.other).state ≠ .kept) : chooseBank b = some k := by
  have free : (b.banks.get k).state.free? = true := decide_eq_true h
  unfold chooseBank
  by_cases same : k = b.lastBank
  · subst same
    rw [if_neg (by rw [free?_eq.mpr (last rfl)]; decide), if_pos free]
  · have other : b.lastBank.other = k := by cases hb : b.lastBank <;> cases k <;> simp_all [BankNo.other]
    rw [other, if_pos free]

/-- The answers of OPEN RUN are the refusals of R64. -/
theorem exec_openRun_refused {why : Status} (ready : Ready s x.port) (h : openRefusal x s = .inl why) :
    exec (.openRun x.port) s = .next (plainly x.port 0x30 why s) := by
  refine exec_same rfl rfl ready (taken_station rfl rfl nofun) ?_
  have h' : openRefusal x (ended x.port s) = .inl why := h
  show ofStation x.port (ended x.port s) (fun y => serveOpenRun y (ended x.port s)) = _
  rw [ofStation_port, serveOpenRun, h']

/-- A run joins the check, started for it where none runs (R40, R66). -/
theorem joinCheck_eq (x : Station) (s : State) :
    joinCheck x s = s.setStore { s.store with
      state := .checking
      check := if s.store.state = .checking then s.store.check else some (.start .checksum)
      joined := s.store.joined ++ [x] } := by
  unfold joinCheck
  by_cases h : s.store.state = .checking
  · simp only [h, if_true]
  · simp only [h, if_false]
    rfl

theorem exec_openRun_accepted {k : BankNo} (ready : Ready s x.port) (h : openRefusal x s = .inr k) :
    exec (.openRun x.port) s =
      .next (answered x.port 0x30 .accepted false false (.opened (s.bench x).nextSerial k) (joinCheck x (s.setBench x ((s.bench x).opened k)))) := by
  refine exec_served (a := { status := .accepted, clamped := false, more := false, payload := .opened (s.bench x).nextSerial k })
    rfl rfl ready (taken_station rfl rfl nofun) ?_
  have h' : openRefusal x (ended x.port s) = .inr k := h
  show ofStation x.port (ended x.port s) (fun y => serveOpenRun y (ended x.port s)) = _
  rw [ofStation_port, serveOpenRun, h']
  dsimp only
  rw [joinCheck_eq, joinCheck_eq]
  rfl

/-- Settles O33, by the refusals in their order. -/
theorem runOpened : Obligations.RunOpened := fun s x ready => by
  refine ⟨fun run => exec_openRun_refused ready (if_pos run), fun free => ⟨fun store => exec_openRun_refused ready ?_, fun store =>
    ⟨fun busy => exec_openRun_refused ready ?_, fun matrix trunk => ⟨fun small => exec_openRun_refused ready ?_, fun enabled large =>
      ⟨fun missing => exec_openRun_refused ready ?_, fun present => ⟨fun none => exec_openRun_refused ready ?_, fun k hk last => ?_⟩⟩⟩⟩⟩⟩
  all_goals
    have closed : ¬ runOpen s x = true := by rw [free]; nofun
  · rw [openRefusal, if_neg closed, if_pos store]
  all_goals
    have loaded : ¬ (s.store.state ≠ .valid ∧ s.store.state ≠ .checking) := fun h => store.elim h.1 h.2
  · rw [openRefusal, if_neg closed, if_neg loaded, if_pos busy]
  all_goals
    have rests : ¬ (s.matrix.state ≠ .ready ∨ (s.trunk x).state ≠ .idle) := fun h => h.elim (· matrix) (· trunk)
  · rw [openRefusal, if_neg closed, if_neg loaded, if_neg rests, if_pos]
    exact small.symm.imp id fun h => decide_eq_false (Nat.not_le.mpr h)
  all_goals
    have fits : ¬ ((s.window x).size < hdrSpan s.store.words ∨ (s.window x).enabled = false) := by
      rintro (h | h)
      · exact absurd large (Nat.not_le.mpr h)
      · exact of_decide_eq_false h enabled
  · rw [openRefusal, if_neg closed, if_neg loaded, if_neg rests, if_neg fits, if_pos missing]
  · rw [openRefusal, if_neg closed, if_neg loaded, if_neg rests, if_neg fits, if_neg (not_not.mpr present), chooseBank_none none]
  · rw [exec_openRun_accepted ready (k := k)]
    · rw [joinCheck_eq]
      rfl
    · rw [openRefusal, if_neg closed, if_neg loaded, if_neg rests, if_neg fits, if_neg (not_not.mpr present), chooseBank_some hk last]

end

end Sys2Proof.Machine

/-! The lines of a ticket: 40 characters each (R152, R153). -/

namespace Sys2Proof.Machine

/-! ## Lengths of texts -/

/-- A text that ends within the line leaves the line's length. -/
theorem length_putAt {col : Nat} {text line : List Byte} (h : col - 1 + text.length ≤ line.length) :
    (putAt col text line).length = line.length := by
  simp only [putAt, List.length_append, List.length_take, List.length_drop]
  omega

/-- A text of at most 40 characters ends at the end of its line. -/
theorem length_putRight {text line : List Byte} (line40 : line.length = 40) (h : text.length ≤ 40) : (putRight text line).length = 40 := by
  rw [putRight, length_putAt (by omega), line40]

theorem length_putAt40 {col : Nat} {text line : List Byte} (line40 : line.length = 40) (h : col - 1 + text.length ≤ 40) :
    (putAt col text line).length = 40 := by
  rw [length_putAt (by omega), line40]

@[simp] theorem length_blankLine : blankLine.length = 40 := List.length_replicate

@[simp] theorem length_digits (width n : Nat) : (digits width n).length = width := by
  induction width generalizing n with
  | zero => rfl
  | succ k ih => rw [digits, List.length_append, ih]; rfl

@[simp] theorem length_hexDigits (width n : Nat) : (hexDigits width n).length = width := by
  induction width generalizing n with
  | zero => rfl
  | succ k ih => rw [hexDigits, List.length_append, ih]; rfl

theorem length_decimal (n : Nat) : (decimal n).length ≤ 10 := by
  have h : ((digits 10 n).dropWhile (fun d => d = 48)).length ≤ 10 :=
    (List.dropWhile_sublist _).length_le.trans_eq (length_digits 10 n)
  unfold decimal
  split
  · decide
  · exact h

theorem length_netText (i : Nat) : (netText i).length = 5 := by rw [netText, List.length_append, length_digits]; rfl

theorem length_pointText (p : Nat) : (pointText p).length = 5 := by rw [pointText, List.length_append, length_digits]; rfl

theorem length_driverText (d : Driver) : (driverText d).length = 5 := by
  cases d
  · exact length_netText _
  · exact length_pointText _

theorem length_selectionText (v : Selection) : (selectionText v).length ≤ 6 := by
  cases v
  case net n => exact (length_netText n).le.trans (by decide)
  case classMask v k =>
    simp only [selectionText, List.length_append, length_hexDigits]
    decide
  case classPair v1 v2 =>
    simp only [selectionText, List.length_append, length_hexDigits]
    decide

theorem length_memberText (b : SubjectB) : (memberText b).length ≤ 6 := by
  unfold memberText
  split
  · exact (length_pointText _).le.trans (by decide)
  · decide

theorem length_candidateText (b : SubjectB) : (candidateText b).length ≤ 11 := by
  cases b
  case single v => exact (length_driverText _).le.trans (by decide)
  case range first last =>
    simp only [candidateText, List.length_append, length_driverText]
    decide
  all_goals decide

theorem length_aText {α : Type} (o : Option α) (f : α → List Byte) (n : Nat) (h : ∀ v, (f v).length ≤ n) : ((o.map f).getD []).length ≤ n := by
  cases o
  · exact Nat.zero_le n
  · exact h _

theorem length_subjectText (d : Defect) : (subjectText d).length ≤ 18 := by
  have space : (ascii " ").length = 1 := by decide
  have a : (aPointText d).length ≤ 5 := length_aText _ _ 5 fun v => (length_pointText v.point).le
  have k : (aDriverText d).length ≤ 5 := length_aText _ _ 5 fun v => (length_driverText v.driver).le
  have v : ((d.selection.map selectionText).getD []).length ≤ 6 := length_aText _ _ 6 length_selectionText
  have m := length_memberText d.b
  have c := length_candidateText d.b
  unfold subjectText
  split <;> simp only [List.length_append, space] <;> omega

theorem length_kindText (k : DefectKind) : (kindText k).length ≤ 10 := by cases k <;> decide

theorem length_ohmsText (v : Nat) : (ohmsText v).length ≤ 15 := by
  have point : (ascii ".").length = 1 := by decide
  have unit : (ascii "R").length = 1 := by decide
  have whole := length_decimal (v / 1000)
  simp only [ohmsText, List.length_append, length_digits, point, unit]
  omega

theorem length_valueText (d : Defect) : (valueText d).length ≤ 15 := by
  have letter (v : Nat) (t : String) (h : (ascii t).length = 1) : (decimal v ++ ascii t).length ≤ 15 := by
    have := length_decimal v
    rw [List.length_append, h]
    omega
  unfold valueText
  split
  case h_2 | h_3 => exact length_ohmsText _
  case h_5 | h_6 | h_7 => exact letter _ _ (by decide)
  all_goals decide

theorem length_verdictText (v : Verdict) : (verdictText v).length ≤ 17 := by cases v <;> decide

/-! ## Lines -/

theorem length_recordLine (d : Defect) : (recordLine d).length = 40 := by
  have kind := length_kindText d.kind
  have subject := length_subjectText d
  have value := length_valueText d
  refine length_putRight (length_putAt40 (length_putAt40 (length_putAt40 length_blankLine ?_) ?_) ?_) ?_
  · rw [length_digits]
    decide
  all_goals omega

theorem length_headerLine (j : Job) (unlisted n : Nat) (code : j.code.length = 6) : (headerLine j unlisted n).length = 40 := by
  have verdict := length_verdictText j.verdict
  unfold headerLine
  split
  · refine length_putAt40 (length_putAt40 (length_putAt40 length_blankLine ?_) (by decide)) (by rw [length_digits]; decide)
    cases j.station <;> decide
  split
  · exact length_putAt40 (length_putAt40 (length_putAt40 (length_putAt40 length_blankLine (by decide))
      (by rw [List.length_map, code]; decide)) (by decide)) (by rw [length_digits]; decide)
  split
  · refine length_putAt40 (length_putAt40 (length_putAt40 (length_putAt40 length_blankLine (by decide)) (by omega)) (by decide)) ?_
    split
    · rw [length_hexDigits]
      decide
    · decide
  split
  · exact length_putAt40 (length_putAt40 (length_putAt40 (length_putAt40 length_blankLine (by decide))
      (by rw [length_digits]; decide)) (by decide)) (by rw [length_digits]; decide)
  · exact List.length_replicate

theorem length_trailerLine (n : Nat) : (trailerLine n).length = 40 := by
  unfold trailerLine
  split
  · exact length_putAt40 length_blankLine (by decide)
  · exact length_blankLine

theorem length_plainLine (j : Job) (b : Bank) (n : Nat) (code : j.code.length = 6) : (plainLine j b n).length = 40 := by
  unfold plainLine
  split
  · exact length_headerLine j _ n code
  split
  · cases b.records[n - 6]?
    · exact length_blankLine
    · exact length_recordLine _
  · exact length_trailerLine _

/-- Settles O54. -/
theorem ticketLinesFit : Obligations.TicketLinesFit := fun j b n code => by
  refine ⟨?_, fun whole => by rw [ticketLines, whole]⟩
  unfold ticketLine
  split
  · split
    · exact length_plainLine j b n code
    split
    · exact length_putAt40 length_blankLine (by decide)
    · exact length_trailerLine _
  · exact length_plainLine j b n code

end Sys2Proof.Machine

/-! The composer and the printer link (R152, R154 to R157). -/

namespace Sys2Proof.Machine

section
variable {s t : State} {x y : Station} {n m : BankNo} {v : BankState}

/-! ## The state of a bank -/

theorem setBankState_same : ((setBankState x n v s).bench x).banks.get n = { (s.bench x).banks.get n with state := v } := by
  rw [setBankState, State.setBench_bench_same, Banks.get_set_same]

theorem setBankState_other (h : y = x → m ≠ n) : ((setBankState x n v s).bench y).banks.get m = (s.bench y).banks.get m := by
  by_cases e : y = x
  · subst e
    rw [setBankState, State.setBench_bench_same, Banks.get_set_ne _ _ (h rfl)]
  · rw [setBankState, State.setBench_bench_ne _ _ _ e]

/-- A bank's state is no part of its ticket. -/
theorem setBankState_content :
    (((setBankState x n v s).bench y).banks.get m).records = ((s.bench y).banks.get m).records ∧
    (((setBankState x n v s).bench y).banks.get m).unlisted = ((s.bench y).banks.get m).unlisted := by
  by_cases e : y = x ∧ m = n
  · obtain ⟨rfl, rfl⟩ := e
    rw [setBankState_same]
    exact ⟨rfl, rfl⟩
  · rw [setBankState_other fun h k => e ⟨h, k⟩]
    exact ⟨rfl, rfl⟩

theorem ticketLine_congr {b c : Bank} (records : c.records = b.records) (unlisted : c.unlisted = b.unlisted) (j : Job) (i : Nat) :
    ticketLine j c i = ticketLine j b i := by
  simp only [ticketLine, plainLine, records, unlisted]

theorem raise_bench (p : Port) (i : Nat) (s : State) (y : Station) : (raise p i s).bench y = s.bench y := rfl

/-! ## The composer -/

/-- The link with a byte of the head job strobed on a low BUSY (R154). -/
def Printer.strobed (q : Printer) (byte : Byte) : Printer :=
  { q with link := .waitAck, risen := false, started := true, data := some byte }

/-- On an IDLE link and a low BUSY the composer's byte is strobed at once (R152, R154). -/
theorem composerHand_strobes {j : Job} {rest : List Job} (queue : s.printer.queue = j :: rest) (link : s.printer.link = .idle)
    (low : s.printer.busy = false) :
    composerHand s = s.setPrinter (s.printer.strobed (lineByte (ticketLine j (jobBank s j) s.printer.line) s.printer.char)) := by
  unfold composerHand
  dsimp only
  simp only [queue, link, if_true, strobe, low, Bool.false_eq_true, if_false, Printer.strobed]

theorem composerHand_empty (queue : s.printer.queue = []) : composerHand s = s := by
  unfold composerHand
  dsimp only
  simp only [queue]

/-- The printer with its head job at the first character of its first line. -/
def Printer.atStart (q : Printer) (jobs : List Job) : Printer := { q with queue := jobs, line := 1, char := 1, started := false }

theorem beginHead_empty (queue : s.printer.queue = []) : beginHead s = s := by
  unfold beginHead
  simp only [queue]

/-- The state with the head job begun, before its first byte. -/
def headBegun (j : Job) (s : State) : State := setBankState j.station j.bank .printing (s.setPrinter (s.printer.atStart s.printer.queue))

theorem beginHead_begins {j : Job} {rest : List Job} (queue : s.printer.queue = j :: rest) : beginHead s = composerHand (headBegun j s) := by
  unfold beginHead
  simp only [queue, headBegun, Printer.atStart]

/-! ## The end of a ticket (R157) -/

/-- The state with the head job gone and its bank KEPT, before the next job begins. -/
def ticketDone (j : Job) (rest : List Job) (s : State) : State :=
  raise j.station.port srcTicketDone (setBankState j.station j.bank .kept (s.setPrinter (s.printer.atStart rest)))

theorem endTicket_eq {j : Job} {rest : List Job} (queue : s.printer.queue = j :: rest) : endTicket s = beginHead (ticketDone j rest s) := by
  unfold endTicket
  simp only [queue, ticketDone, Printer.atStart]

theorem ticketDone_bench (j : Job) (rest : List Job) (y : Station) :
    (ticketDone j rest s).bench y = (setBankState j.station j.bank .kept s).bench y := by
  cases y <;> cases hj : j.station <;> simp only [ticketDone, raise_bench, setBankState, hj] <;> rfl

theorem ticketDone_notified (j : Job) (rest : List Job) : Notified s (ticketDone j rest s) j.station.port srcTicketDone :=
  notified_raise j.station.port srcTicketDone (setBankState j.station j.bank .kept (s.setPrinter (s.printer.atStart rest))) (by decide)

theorem composerHand_attention (s : State) : (composerHand s).attention = s.attention := by
  unfold composerHand
  dsimp only
  split
  · split <;> rfl
  · rfl

theorem beginHead_attention (s : State) : (beginHead s).attention = s.attention := by
  unfold beginHead
  split
  · rw [composerHand_attention]
    rfl
  · rfl

/-- A ticket's end: the notice, and the next job's first byte in hand on an IDLE link with a low BUSY. -/
theorem endTicket_ends {j : Job} {rest : List Job} (queue : s.printer.queue = j :: rest) (link : s.printer.link = .idle)
    (low : s.printer.busy = false) :
    Notified s (endTicket s) j.station.port srcTicketDone ∧
    (rest = [] → (endTicket s).printer = s.printer.atStart []) ∧
    (∀ u, rest.head? = some u →
      (endTicket s).printer = (s.printer.atStart rest).strobed (lineByte (ticketLine u (jobBank s u) 1) 1) ∧
      (((endTicket s).bench u.station).banks.get u.bank).state = .printing) ∧
    ((∀ u, rest.head? = some u → u.station = j.station → u.bank ≠ j.bank) →
      ((endTicket s).bench j.station).banks.get j.bank = { jobBank s j with state := .kept }) := by
  have kept : ((ticketDone j rest s).bench j.station).banks.get j.bank = { jobBank s j with state := .kept } := by
    rw [ticketDone_bench, setBankState_same]
    rfl
  rw [endTicket_eq queue]
  refine ⟨fun hn => ?_, ?_⟩
  · rw [State.unit, beginHead_attention]
    exact ticketDone_notified j rest hn
  cases rest with
  | nil =>
    rw [beginHead_empty (s := ticketDone j [] s) rfl]
    exact ⟨fun _ => rfl, nofun, fun _ => kept⟩
  | cons u us =>
    have hands := composerHand_strobes (s := headBegun u (ticketDone j (u :: us) s)) (j := u) (rest := us) rfl link low
    have content : ticketLine u (jobBank (headBegun u (ticketDone j (u :: us) s)) u) 1 = ticketLine u (jobBank s u) 1 := by
      have begun := setBankState_content (x := u.station) (n := u.bank) (v := .printing) (y := u.station) (m := u.bank)
        (s := (ticketDone j (u :: us) s).setPrinter ((ticketDone j (u :: us) s).printer.atStart (u :: us)))
      have done := setBankState_content (x := j.station) (n := j.bank) (v := .kept) (y := u.station) (m := u.bank) (s := s)
      rw [State.setPrinter_bench, ticketDone_bench] at begun
      exact ticketLine_congr (begun.1.trans done.1) (begun.2.trans done.2) u 1
    rw [beginHead_begins (s := ticketDone j (u :: us) s) (j := u) (rest := us) rfl, hands]
    refine ⟨nofun, fun w hw => ?_, fun apart => ?_⟩
    · cases hw
      refine ⟨?_, ?_⟩
      · rw [State.setPrinter_printer, ← content]
        rfl
      · rw [State.setPrinter_bench, headBegun, setBankState_same]
    · rw [State.setPrinter_bench, headBegun, setBankState_other fun same => (apart u rfl same.symm).symm]
      exact kept

/-! ## The link -/

/-- The printer with its byte complete and none in hand. -/
def Printer.idling (q : Printer) : Printer := { q with link := .idle, data := none, risen := false }

/-- A byte of the head job complete: the next of its line, the next line, or the ticket's end (R152, R154). -/
theorem byteComplete_eq {j : Job} {rest : List Job} (queue : s.printer.queue = j :: rest) :
    byteComplete s =
      if s.printer.char < 42 then composerHand (s.setPrinter { s.printer.idling with char := s.printer.char + 1 })
      else if s.printer.line < ticketLines j (jobBank s j) then
        composerHand (s.setPrinter { s.printer.idling with line := s.printer.line + 1, char := 1, started := false })
      else endTicket (s.setPrinter { s.printer.idling with started := false }) := by
  unfold byteComplete
  dsimp only
  split
  · next h =>
    cases queue.symm.trans h
    rfl
  · next h => cases queue.symm.trans h

section
variable {j : Job} {rest : List Job} (queue : s.printer.queue = j :: rest)
include queue

theorem byteComplete_char (low : s.printer.busy = false) (more : s.printer.char < 42) :
    byteComplete s =
      s.setPrinter (({ s.printer with char := s.printer.char + 1 } : Printer).strobed
        (lineByte (ticketLine j (jobBank s j) s.printer.line) (s.printer.char + 1))) := by
  rw [byteComplete_eq queue, if_pos more]
  exact composerHand_strobes (s := s.setPrinter { s.printer.idling with char := s.printer.char + 1 }) queue rfl low

theorem byteComplete_line (low : s.printer.busy = false) (last : 42 ≤ s.printer.char)
    (more : s.printer.line < ticketLines j (jobBank s j)) :
    byteComplete s =
      s.setPrinter (({ s.printer with line := s.printer.line + 1, char := 1 } : Printer).strobed
        (lineByte (ticketLine j (jobBank s j) (s.printer.line + 1)) 1)) := by
  rw [byteComplete_eq queue, if_neg (Nat.not_lt.mpr last), if_pos more]
  exact composerHand_strobes (s := s.setPrinter { s.printer.idling with line := s.printer.line + 1, char := 1, started := false }) queue rfl low

theorem byteComplete_ticket (last : 42 ≤ s.printer.char) (done : ticketLines j (jobBank s j) ≤ s.printer.line) :
    byteComplete s = endTicket (s.setPrinter { s.printer.idling with started := false }) := by
  rw [byteComplete_eq queue, if_neg (Nat.not_lt.mpr last), if_neg (Nat.not_lt.mpr done)]

end

section
variable (running : s.inReset = false)
include running

theorem exec_busyFall (busy : s.printer.busy = true) : exec .busyFall s = .next (busyFalls s) :=
  (next_running (fun t => if t.printer.busy then busyFalls t else t) running).trans (congrArg _ (if_pos busy))

/-- BUSY falls behind the acknowledge of a byte. -/
theorem exec_busyFall_completes (busy : s.printer.busy = true) (link : s.printer.link = .waitAck) (risen : s.printer.risen = true) :
    exec .busyFall s = .next (byteComplete (s.setPrinter { s.printer with busy := false })) := by
  rw [exec_busyFall running busy]
  simp only [busyFalls, link, risen, if_true]

theorem exec_busyRise (low : s.printer.busy = false) : exec .busyRise s = .next (busyRises s) :=
  (next_running (fun t => if t.printer.busy then t else busyRises t) running).trans (congrArg _ (if_neg (by rw [low]; decide)))

theorem exec_faultRise (clear : s.printer.fault = false) : exec .faultRise s = .next (faultRises s) :=
  (next_running (fun t => if t.printer.fault then t else faultRises t) running).trans (congrArg _ (if_neg (by rw [clear]; decide)))

theorem exec_faultFall (fault : s.printer.fault = true) (paused : s.printer.link = .paused) :
    exec .faultFall s = .next (composerHand (s.setPrinter { s.printer with fault := false, link := .idle, char := 1 })) :=
  (next_running (fun t => if t.printer.fault then faultFalls t else t) running).trans
    (congrArg _ ((if_pos fault).trans (if_pos paused)))

theorem exec_acknowledgeTimerExpiry (link : s.printer.link = .waitAck) :
    exec .acknowledgeTimerExpiry s =
      .next (raiseAll srcPrinter (s.setPrinter (strobe { s.printer with link := .stalled, risen := false }))) :=
  (next_running acknowledgeExpires running).trans (congrArg _ (if_pos link))

end

theorem cons_of_head {α : Type} {l : List α} {a : α} (h : l.head? = some a) : l = a :: l.tail :=
  (List.head?_eq_some_iff.mp h).elim fun _ e => by rw [e]; rfl

/-- Settles O53, input by input. -/
theorem linkMoves : Obligations.LinkMoves := fun s running => by
  refine ⟨exec_busyRise running, fun busy link => ?_, fun j head busy link restart => ?_,
    fun j head busy link risen last => ⟨fun more => ?_, fun done => ?_⟩, fun j rest busy link risen queue more => ?_,
    fun busy link still => ?_, fun link busy => ?_, fun link low => ?_, exec_faultRise running,
    fun fault paused queue => ?_, fun j rest fault paused queue low => ?_⟩
  · rw [exec_busyFall running busy]
    rcases link with link | ⟨link, plain⟩
    · simp only [busyFalls, link, strobe, Bool.false_eq_true, if_false]
    · simp only [busyFalls, link, resumeStalled, plain, strobe, Bool.false_eq_true, if_false]
  · rw [exec_busyFall running busy]
    simp only [busyFalls, link, resumeStalled, restart, if_true]
    exact congrArg _ (composerHand_strobes
      (s := s.setPrinter { s.printer with busy := false, restart := false, link := .idle, char := 1 }) (cons_of_head head) rfl rfl)
  · rw [exec_busyFall_completes running busy link risen]
    exact congrArg _ (byteComplete_line (s := s.setPrinter { s.printer with busy := false }) (cons_of_head head) rfl last more)
  · rw [exec_busyFall_completes running busy link risen,
      byteComplete_ticket (s := s.setPrinter { s.printer with busy := false }) (cons_of_head head) last done]
    obtain ⟨notified, empty, next, kept⟩ := endTicket_ends
      (s := s.setPrinter { ({ s.printer with busy := false } : Printer).idling with started := false }) (cons_of_head head) rfl rfl
    exact ⟨_, rfl, notified, empty, next, kept⟩
  · rw [exec_busyFall_completes running busy link risen]
    exact congrArg _ (byteComplete_char (s := s.setPrinter { s.printer with busy := false }) queue rfl more)
  · rw [exec_busyFall running busy]
    simp only [busyFalls, link, still, Bool.false_eq_true, if_false]
  · rw [exec_acknowledgeTimerExpiry running link, strobe, if_pos busy]
    rfl
  · rw [exec_acknowledgeTimerExpiry running link, strobe, if_neg (by rw [low]; decide)]
    rfl
  · rw [exec_faultFall running fault paused, composerHand_empty]
    exact queue
  · rw [exec_faultFall running fault paused]
    exact congrArg _ (composerHand_strobes (s := s.setPrinter { s.printer with fault := false, link := .idle, char := 1 }) queue rfl low)

/-! ## Tickets on request (R150, R151, R158) -/

theorem bankOf_bankByte (k : BankNo) : bankOf (bankByte k) = some k := by cases k <;> rfl

theorem withBank_named (x : Station) (k : BankNo) (s : State) (f : Station → BankNo → Served) :
    withBank (stationByte x) (bankByte k) s f = f x k := by
  rw [withBank, withStation_named]
  simp only [bankOf_bankByte]

theorem length_bytes (d : Defect) : d.bytes.length = 12 := by
  unfold Defect.bytes
  dsimp only
  split <;> rfl

theorem cancelTicket_queued (h : ((s.bench x).banks.get n).state = .queued) :
    cancelTicket x n s =
      raise x.port srcTicketDone (setBankState x n .kept
        (s.setPrinter { s.printer with queue := s.printer.queue.filter (fun j => decide (¬ (j.station = x ∧ j.bank = n))) })) :=
  if_pos h

theorem cancelTicket_printing {j : Job} {rest : List Job} (h : ((s.bench x).banks.get n).state = .printing)
    (queue : s.printer.queue = j :: rest) (whole : j.cancelled = none) (before : s.printer.line < (jobBank s j).records.length + 6) :
    cancelTicket x n s =
      s.setPrinter { s.printer with
        queue := { j with cancelled := some (cancelMark s.printer) } :: rest
        restart := decide (s.printer.link = .stalled) } := by
  have begun : trailerBegun s = false := by
    simp only [trailerBegun, queue, trailerStart, whole, decide_eq_false_iff_not, Nat.not_le]
    exact before
  unfold cancelTicket
  rw [if_neg (by rw [h]; decide)]
  simp only [queue, begun, whole, Option.isSome_none, Bool.false_eq_true, or_self, if_false]

/-- Settles O52, request by request. -/
theorem ticketRequests : Obligations.TicketRequests := by
  refine ⟨fun s x ready => ⟨fun v q hq => ?_, fun v hq => ?_, fun k => ⟨fun queued => ?_,
    fun j rest printing queue station bank whole before => ?_, fun none => ?_⟩⟩, length_bytes,
    fun s p x k start ready => ⟨fun large => ?_, fun small => ⟨fun free => ?_, fun held => ?_⟩⟩⟩
  · refine exec_plainly (t := s.setBench x { s.bench x with policy := q }) rfl rfl ready (taken_ps rfl rfl nofun) ?_
    simp only [serve, serveSetTicketPolicy, withStation_named, hq]
    rfl
  · refine exec_same rfl rfl ready (taken_ps rfl rfl nofun) ?_
    simp only [serve, serveSetTicketPolicy, withStation_named, hq]
  · refine (exec_plainly (t := cancelTicket x k s) (r := .cancelTicket (stationByte x) (bankByte k)) (k := 0x51) (v := .ok) rfl rfl ready
      (taken_ps rfl rfl nofun) ?_).trans ?_
    · have queued' : (((ended .ps s).bench x).banks.get k).state = .queued := queued
      simp only [serve, serveCancelTicket, withBank_named, queued', cancelTicket_queued queued, cancelTicket_queued queued']
      rfl
    · rw [cancelTicket_queued queued]
      rfl
  · refine (exec_plainly (t := cancelTicket x k s) (r := .cancelTicket (stationByte x) (bankByte k)) (k := 0x51) (v := .ok) rfl rfl ready
      (taken_ps rfl rfl nofun) ?_).trans ?_
    · have printing' : (((ended .ps s).bench x).banks.get k).state = .printing := printing
      simp only [serve, serveCancelTicket, withBank_named, printing', cancelTicket_printing printing queue whole before,
        cancelTicket_printing (s := ended .ps s) printing' queue whole before]
      rfl
    · rw [cancelTicket_printing printing queue whole before]
      rfl
  · refine exec_same rfl rfl ready (taken_ps rfl rfl nofun) ?_
    rcases none with h | h | h <;> simp only [serve, serveCancelTicket, withBank_named, ended_bench, h]
  · refine exec_same rfl rfl ready (taken_any rfl rfl) ?_
    simp only [serve, serveReadDefects, withBank_named, large, if_true]
  · refine exec_same rfl rfl ready (taken_any rfl rfl) ?_
    simp only [serve, serveReadDefects, withBank_named, Nat.not_lt.mpr small, if_false, ended_bench, free, if_true]
  · refine exec_served (t := s) (a := { status := .ok, clamped := false, more := decide (start.toNat + 8 < ((s.bench x).banks.get k).records.length), payload := _ }) rfl rfl ready (taken_any rfl rfl) ?_
    simp only [serve, serveReadDefects, withBank_named, Nat.not_lt.mpr small, if_false, ended_bench, held]
    rfl

end

end Sys2Proof.Machine

/-! One read of the checker, and the items it judges (R35 to R37). -/

namespace Sys2Proof.Machine

section
variable {m : List ImageCell} {k l : Check} {passes : Bool} {item : Nat} {reason : FaultReason} {place : FaultLocation}

/-! ## Judging one item -/

/-- The number of the item kept, past all items where none is. -/
def Check.rank (k : Check) : Nat := (k.fault.map (·.item)).getD 11

/-- A failing item is kept where it is lower than the one kept, and nothing but the fault changes (R36). -/
theorem note_eq (h : item < 11) :
    k.note item reason place = { k with fault := if item < k.rank then some ⟨item, reason, place⟩ else k.fault } := by
  unfold Check.note Check.rank
  cases hf : k.fault with
  | none => simp [h]
  | some f =>
    by_cases lower : item < f.item
    · simp [lower]
    · simp only [lower, if_false, Option.map_some, Option.getD_some]
      rw [← hf]

theorem judge_eq (h : item < 11) :
    k.judge passes item reason place =
      { k with fault := if passes = false ∧ item < k.rank then some ⟨item, reason, place⟩ else k.fault } := by
  unfold Check.judge
  cases passes
  · simpa using note_eq h
  · simp

theorem judge_fault (h : item < 11) :
    (k.judge passes item reason place).fault = if passes = false ∧ item < k.rank then some ⟨item, reason, place⟩ else k.fault := by
  rw [judge_eq h]

theorem judge_rank (h : item < 11) :
    (k.judge passes item reason place).rank = if passes = false ∧ item < k.rank then item else k.rank := by
  rw [Check.rank, judge_fault h]
  split <;> rfl

/-- Of two items judged the lower that fails is kept. -/
theorem judge_judge {other : Bool} {higher : Nat} {because : FaultReason} {spot : FaultLocation} (lt : item < higher) (h : higher < 11) :
    (k.judge passes item reason place).judge other higher because spot =
      { k with fault :=
          if passes = false ∧ item < k.rank then some ⟨item, reason, place⟩
          else if other = false ∧ higher < k.rank then some ⟨higher, because, spot⟩ else k.fault } := by
  rw [judge_eq h, judge_rank (lt.trans h), judge_eq (lt.trans h)]
  by_cases bad : passes = false ∧ item < k.rank
  · simp only [if_pos bad, Nat.not_lt.mpr lt.le, and_false, if_false]
  · simp only [if_neg bad]

/-- The fault kept in k stands in l, or has given way to a lower-numbered one. -/
def Lowers (k l : Check) : Prop := ∀ f, k.fault = some f → ∃ g, l.fault = some g ∧ (g = f ∨ g.item < f.item)

theorem Lowers.of_eq (h : l.fault = k.fault) : Lowers k l := fun f hf => ⟨f, h.trans hf, .inl rfl⟩

theorem Lowers.trans {n : Check} (h : Lowers k l) (j : Lowers l n) : Lowers k n := fun f hf => by
  obtain ⟨g, hg, below⟩ := h f hf
  obtain ⟨e, he, lower⟩ := j g hg
  refine ⟨e, he, ?_⟩
  rcases below with rfl | below
  · exact lower
  · rcases lower with rfl | lower
    · exact .inr below
    · exact .inr (lower.trans below)

theorem lowers_note (k : Check) (item : Nat) (reason : FaultReason) (place : FaultLocation) : Lowers k (k.note item reason place) := by
  intro f hf
  unfold Check.note
  rw [hf]
  dsimp only
  split
  · next lower => exact ⟨_, rfl, .inr lower⟩
  · exact ⟨f, hf, .inl rfl⟩

theorem lowers_judge (k : Check) (passes : Bool) (item : Nat) (reason : FaultReason) (place : FaultLocation) :
    Lowers k (k.judge passes item reason place) := by
  unfold Check.judge
  split
  · exact .of_eq rfl
  · exact lowers_note k item reason place

/-! ## The header (items 1 to 4 and 9) -/

theorem lowers_judgeHeader (m : List ImageCell) (k : Check) : Lowers k (k.judgeHeader m) :=
  (((lowers_judge k _ _ _ _).trans (lowers_judge _ _ _ _ _)).trans (lowers_judge _ _ _ _ _)).trans (lowers_judge _ _ _ _ _)

theorem lowers_judgeLimits (m : List ImageCell) (k : Check) : Lowers k (k.judgeLimits m) := by
  unfold Check.judgeLimits
  split
  · exact lowers_note _ _ _ _
  · exact .of_eq rfl

/-- The fault of an item where its condition fails. -/
def faultUnless (passes : Bool) (item : Nat) (reason : FaultReason) (place : FaultLocation) : Option CheckFault :=
  if passes then none else some ⟨item, reason, place⟩

/-- Behind lower items an item is kept only where none of them is. -/
theorem judge_or (h : ∀ f, k.fault = some f → f.item ≤ item) :
    (k.judge passes item reason place).fault = k.fault.or (faultUnless passes item reason place) := by
  unfold Check.judge faultUnless Check.note
  cases passes
  · cases hf : k.fault with
    | none => rfl
    | some f => simp [Nat.not_lt.mpr (h f hf), hf]
  · simp

/-- Items 1 to 4 in their order (R36). -/
def headerItems (m : List ImageCell) : Option CheckFault :=
  (((faultUnless (imageRead m 0 = 0x4648) 1 .formatTag .none).or
    (faultUnless (1 ≤ hdrSpan m ∧ hdrSpan m ≤ 2048) 2 .span .none)).or
    (faultUnless (1 ≤ hdrNets m ∧ hdrNets m ≤ 1024) 3 .netCount .none)).or
    (faultUnless (1 ≤ hdrMembers m ∧ hdrMembers m ≤ 2048) 4 .memberCount .none)

theorem faultUnless_item {f : CheckFault} (h : faultUnless passes item reason place = some f) : f.item = item := by
  unfold faultUnless at h
  split at h
  · cases h
  · cases h
    rfl

theorem faultUnless_passes {P : Prop} [Decidable P] (h : P) : faultUnless P item reason place = none := if_pos (decide_eq_true h)

theorem faultUnless_fails {P : Prop} [Decidable P] (h : ¬ P) : faultUnless P item reason place = some ⟨item, reason, place⟩ :=
  if_neg (by simpa using h)

theorem or_item {a b : Option CheckFault} {i j : Nat} (ha : ∀ f, a = some f → f.item ≤ i) (hb : ∀ f, b = some f → f.item ≤ j) (le : i ≤ j) :
    ∀ f, a.or b = some f → f.item ≤ j := by
  cases a with
  | none => exact hb
  | some f => exact fun g hg => (ha g hg).trans le

theorem judge_keeps : (k.judge passes item reason place).kind = k.kind ∧ (k.judge passes item reason place).rem = k.rem := by
  unfold Check.judge Check.note
  split
  · exact ⟨rfl, rfl⟩
  · split
    · split <;> exact ⟨rfl, rfl⟩
    · exact ⟨rfl, rfl⟩

/-- Of items 1 to 4 the lowest that fails is kept. -/
theorem judgeHeader_fault (none : k.fault = none) :
    (k.judgeHeader m).fault = headerItems m ∧ ∀ f, headerItems m = some f → f.item ≤ 4 := by
  have le {passes : Bool} {item : Nat} {reason : FaultReason} {place : FaultLocation} (f : CheckFault)
      (h : faultUnless passes item reason place = some f) : f.item ≤ item := (faultUnless_item h).le
  have two := or_item (le (passes := imageRead m 0 = 0x4648) (item := 1) (reason := .formatTag) (place := .none))
    (le (passes := 1 ≤ hdrSpan m ∧ hdrSpan m ≤ 2048) (item := 2) (reason := .span) (place := .none)) (by decide)
  have three := or_item two (le (passes := 1 ≤ hdrNets m ∧ hdrNets m ≤ 1024) (item := 3) (reason := .netCount) (place := .none)) (by decide)
  refine ⟨?_, or_item three le (by decide)⟩
  have one : (k.judge (imageRead m 0 = 0x4648) 1 .formatTag .none).fault = _ := judge_or (by rw [none]; nofun)
  rw [none, Option.none_or] at one
  have second := judge_or (k := k.judge (imageRead m 0 = 0x4648) 1 .formatTag .none) (passes := 1 ≤ hdrSpan m ∧ hdrSpan m ≤ 2048)
    (item := 2) (reason := .span) (place := .none) fun f hf => (le f (one.symm.trans hf)).trans (by decide)
  rw [one] at second
  have third := judge_or (passes := 1 ≤ hdrNets m ∧ hdrNets m ≤ 1024) (item := 3) (reason := .netCount) (place := .none)
    fun f hf => (two f (second.symm.trans hf)).trans (by decide)
  rw [second] at third
  have fourth := judge_or (passes := 1 ≤ hdrMembers m ∧ hdrMembers m ≤ 2048) (item := 4) (reason := .memberCount) (place := .none)
    fun f hf => (three f (third.symm.trans hf)).trans (by decide)
  rw [third] at fourth
  exact fourth

/-- Item 9 over a list of fields: the first out of its range is named (R36). -/
def limitFault : List (HeaderField × Bool) → Option CheckFault
  | [] => none
  | f :: rest => if f.2 then limitFault rest else some ⟨9, .headerLimits, .field f.1⟩

theorem limitFault_eq (l : List (HeaderField × Bool)) :
    limitFault l = (l.find? (fun f => !f.2)).map (fun f => ⟨9, .headerLimits, .field f.1⟩) := by
  induction l with
  | nil => rfl
  | cons f rest ih =>
    obtain ⟨name, within⟩ := f
    cases within
    · rfl
    · exact ih

theorem judgeLimits_fault (none : k.fault = none) : (k.judgeLimits m).fault = limitFault (headerLimits m) := by
  rw [limitFault_eq]
  unfold Check.judgeLimits
  cases (headerLimits m).find? (fun f => !f.2)
  · exact none
  · simp only [Check.note, none, Option.map_some]

theorem headerLimits_fault (m : List ImageCell) :
    limitFault (headerLimits m) =
      if ¬ (1 ≤ hdrThreshold m ∧ hdrThreshold m ≤ 40000000) then some ⟨9, .headerLimits, .field .continuityThreshold⟩
      else if ¬ (100 ≤ hdrShort m ∧ hdrShort m ≤ 40000) then some ⟨9, .headerLimits, .field .shortThreshold⟩
      else if 3 < hdrStart m then some ⟨9, .headerLimits, .field .startRange⟩
      else if ¬ (50 ≤ hdrVoltage m ∧ hdrVoltage m ≤ 1500) then some ⟨9, .headerLimits, .field .insulationVoltage⟩
      else if ¬ (10 ≤ hdrDwell m ∧ hdrDwell m ≤ 60000) then some ⟨9, .headerLimits, .field .dwell⟩
      else if ¬ (1 ≤ hdrInsulation m ∧ hdrInsulation m ≤ 60000) then some ⟨9, .headerLimits, .field .insulationThreshold⟩
      else none := by
  simp only [headerLimits, limitFault, decide_eq_true_eq, ite_not, ← Nat.not_le]

theorem judgeHeader_kind (m : List ImageCell) (k : Check) : (k.judgeHeader m).kind = k.kind ∧ (k.judgeHeader m).rem = k.rem := by
  unfold Check.judgeHeader
  simp only [judge_keeps, and_self]

theorem judgeLimits_keeps (m : List ImageCell) (k : Check) : (k.judgeLimits m).kind = k.kind ∧ (k.judgeLimits m).rem = k.rem := by
  unfold Check.judgeLimits Check.note
  split
  · split
    · split <;> exact ⟨rfl, rfl⟩
    · exact ⟨rfl, rfl⟩
  · exact ⟨rfl, rfl⟩

/-! ## Net records and members (items 5 to 8) -/

theorem readRecord_first (i : Nat) (w : Word16) :
    k.readRecord m i 0 w =
      { k with
        count := w.toNat
        fault := if ¬ (1 ≤ w.toNat ∧ w.toNat ≤ 512) ∧ 5 < k.rank then some ⟨5, .netSize, .net i⟩ else k.fault } := by
  unfold Check.readRecord
  rw [if_pos rfl, judge_eq (by decide)]
  simp only [decide_eq_false_iff_not]
  rfl

theorem readRecord_second (i : Nat) (w : Word16) :
    k.readRecord m i 1 w =
      { k with
        sum := k.sum + k.count
        fault :=
          if w.toNat ≠ k.sum ∧ 6 < k.rank then some ⟨6, .contiguity, .net i⟩
          else if i + 1 = hdrNets m ∧ k.sum + k.count ≠ hdrMembers m ∧ 6 < k.rank then some ⟨6, .contiguity, .none⟩ else k.fault } := by
  unfold Check.readRecord
  rw [if_neg (by decide), if_pos rfl]
  simp only [judge_eq (item := 6) (by decide), decide_eq_false_iff_not]
  by_cases last : i + 1 = hdrNets m
  · by_cases bad : w.toNat ≠ k.sum ∧ 6 < k.rank
    · have kept : ({ k with sum := k.sum + k.count, fault := some ⟨6, .contiguity, .net i⟩ } : Check).rank = 6 := rfl
      simp only [if_pos last, if_pos bad, kept, lt_self_iff_false, and_false, if_false]
    · have same : ({ k with sum := k.sum + k.count } : Check).rank = k.rank := rfl
      simp only [if_neg bad, last, same, true_and, if_true, ne_eq]
  · simp only [last, false_and, if_false]

theorem readRecord_later (i : Nat) {r : Nat} (h : 2 ≤ r) (w : Word16) : k.readRecord m i r w = k := by
  unfold Check.readRecord
  rw [if_neg (by omega), if_neg (by omega)]

theorem netsKnown_iff : k.netsKnown = true ↔ 6 < k.rank := by
  unfold Check.netsKnown Check.rank
  cases k.fault <;> simp

/-- Where items 5 and 6 have failed no member is given to a net. -/
theorem readMember_unknown (h : k.rank ≤ 6) (j : Nat) (w : Word16) : k.readMember m j w = k := by
  unfold Check.readMember
  rw [if_neg fun known => Nat.not_lt.mpr h (netsKnown_iff.mp known)]

/-- The net of member entry j: the one in hand, or the next where its members have all been read. -/
def Check.netAt (k : Check) (j : Nat) : Nat := if k.left ≠ 0 then k.net else if j = 0 then 0 else k.net + 1

theorem nextMember_eq (j : Nat) :
    k.nextMember m j =
      { k with
        net := k.netAt j
        left := if k.left = 0 then netCount m (k.netAt j) else k.left
        prev := if k.left = 0 then none else k.prev } := by
  unfold Check.nextMember Check.netAt
  by_cases h : k.left = 0
  · simp only [h, if_true, ne_eq, not_true_eq_false, if_false]
  · simp only [h, if_false, ne_eq, not_false_eq_true, if_true]

theorem readMember_known (h : 6 < k.rank) (j : Nat) (w : Word16) :
    k.readMember m j w =
      { k with
        net := k.netAt j
        left := (if k.left = 0 then netCount m (k.netAt j) else k.left) - 1
        prev := some w.toNat
        seen := k.seen ||| pointSet w.toNat
        fault :=
          if (hdrSpan m ≤ w.toNat ∨ (k.left ≠ 0 ∧ w.toNat ≤ k.prev.getD 0 ∧ k.prev ≠ none)) ∧ 7 < k.rank then
            some ⟨7, .memberOrder, .net (k.netAt j)⟩
          else if k.seen.getLsbD w.toNat = true ∧ 8 < k.rank then some ⟨8, .sharedPoint, .pointNet w.toNat (k.netAt j)⟩
          else k.fault } := by
  unfold Check.readMember
  rw [if_pos (netsKnown_iff.mpr h), nextMember_eq]
  simp only [judge_judge (item := 7) (higher := 8) (by decide) (by decide)]
  congr 1
  refine if_congr (and_congr ?_ Iff.rfl) rfl (if_congr (and_congr ?_ Iff.rfl) rfl rfl)
  · by_cases new : k.left = 0
    · simp [new]
    · cases hp : k.prev with
      | none => simp [new]
      | some v => simp only [new, if_false, Bool.and_eq_false_iff, decide_eq_false_iff_not, Nat.not_lt]; simp [or_comm, new]
  · simp

theorem readOffset_eq (p : Nat) (w : Word16) :
    k.readOffset p w =
      { k with fault := if 4095 < w.toNat ∧ 10 < k.rank then some ⟨10, .offset, .physical p⟩ else k.fault } := by
  unfold Check.readOffset
  rw [judge_eq (by decide)]
  simp only [decide_eq_false_iff_not, Nat.not_le]

/-! ## One read -/

theorem judgeWord_keeps (m : List ImageCell) (k : Check) (w : Word16) :
    (k.judgeWord m w).kind = k.kind ∧ (k.judgeWord m w).rem = k.rem := by
  unfold Check.judgeWord
  dsimp only
  split
  · exact ⟨rfl, rfl⟩
  split
  · split
    · exact judgeHeader_kind m k
    · split
      · exact ⟨(judgeLimits_keeps m _).1.trans (judgeHeader_kind m k).1, (judgeLimits_keeps m _).2.trans (judgeHeader_kind m k).2⟩
      · exact judgeHeader_kind m k
  split
  · exact ⟨rfl, rfl⟩
  split
  · unfold Check.readRecord
    dsimp only
    split
    · exact judge_keeps (k := { k with count := w.toNat })
    split
    · split
      · exact ⟨judge_keeps.1.trans judge_keeps.1, judge_keeps.2.trans judge_keeps.2⟩
      · exact judge_keeps
    · exact ⟨rfl, rfl⟩
  split
  · by_cases known : 6 < k.rank
    · rw [readMember_known known]
      exact ⟨rfl, rfl⟩
    · rw [readMember_unknown (Nat.not_lt.mp known)]
      exact ⟨rfl, rfl⟩
  · exact judge_keeps

theorem lowers_readRecord (m : List ImageCell) (k : Check) (i r : Nat) (w : Word16) : Lowers k (k.readRecord m i r w) := by
  unfold Check.readRecord
  dsimp only
  split
  · exact (Lowers.of_eq rfl).trans (lowers_judge { k with count := w.toNat } _ _ _ _)
  split
  · have first := lowers_judge k (decide (w.toNat = k.sum)) 6 .contiguity (.net i)
    split
    · have second : Lowers (k.judge (decide (w.toNat = k.sum)) 6 .contiguity (.net i))
          { k.judge (decide (w.toNat = k.sum)) 6 .contiguity (.net i) with sum := k.sum + k.count } := .of_eq rfl
      exact (first.trans second).trans (lowers_judge _ _ _ _ _)
    · exact first.trans (.of_eq rfl)
  · exact .of_eq rfl

theorem lowers_readMember (m : List ImageCell) (k : Check) (j : Nat) (w : Word16) : Lowers k (k.readMember m j w) := by
  unfold Check.readMember
  dsimp only
  split
  · have next : Lowers k (k.nextMember m j) := .of_eq (by rw [nextMember_eq])
    exact ((next.trans (lowers_judge _ _ _ _ _)).trans (lowers_judge _ _ _ _ _)).trans (.of_eq rfl)
  · exact .of_eq rfl

theorem lowers_judgeWord (m : List ImageCell) (k : Check) (w : Word16) : Lowers k (k.judgeWord m w) := by
  unfold Check.judgeWord
  dsimp only
  split
  · exact .of_eq rfl
  split
  · split
    · exact lowers_judgeHeader m k
    · split
      · exact (lowers_judgeHeader m k).trans (lowers_judgeLimits m _)
      · exact lowers_judgeHeader m k
  split
  · exact .of_eq rfl
  split
  · exact lowers_readRecord _ _ _ _ _
  split
  · exact lowers_readMember _ _ _ _
  · exact lowers_judge _ _ _ _ _

/-- The check with the word of its pass fed to the checksum, all but word 15 (R35). -/
def Check.fed (k : Check) (w : Word16) : Check := if k.pos = 15 then k else { k with rem := crcWord k.rem w }

theorem fed_of_past (h : 15 < k.pos ∨ k.pos < 15) (w : Word16) : k.fed w = { k with rem := crcWord k.rem w } := if_neg (by omega)

theorem read_eq (h : k.complete m = false) :
    k.read m =
      { (k.fed (imageRead m (passWord (hdrNets m) (hdrMembers m) k.pos))).judgeWord m
          (imageRead m (passWord (hdrNets m) (hdrMembers m) k.pos)) with pos := k.pos + 1 } := by
  rw [Check.read, h]
  rfl

/-- The word after the header in a check with no fault kept: items 1 to 4, then item 9 in a full check (R36). -/
theorem judgeWord_header (pos : k.pos = 15) (none : k.fault = none) (w : Word16) :
    (k.judgeWord m w).fault =
      (headerItems m).or (if k.kind = .full then limitFault (headerLimits m) else Option.none) := by
  obtain ⟨fault, low⟩ := judgeHeader_fault (m := m) none
  obtain ⟨kind, -⟩ := judgeHeader_kind m k
  unfold Check.judgeWord
  dsimp only
  rw [if_neg (by omega), if_pos pos]
  cases items : headerItems m with
  | some f =>
    have header : (k.judgeHeader m).headerFault = true := by
      rw [Check.headerFault, fault, items]
      exact decide_eq_true (low f items)
    rw [if_pos header, fault, items]
    rfl
  | none =>
    have clear : (k.judgeHeader m).fault = Option.none := fault.trans items
    have header : ¬ (k.judgeHeader m).headerFault = true := by rw [Check.headerFault, clear]; nofun
    rw [if_neg header, kind]
    split
    · rw [judgeLimits_fault clear]
      rfl
    · rw [clear]
      rfl

theorem judgeWord_checksum (past : 16 ≤ k.pos) (kind : k.kind = .checksum) (w : Word16) : k.judgeWord m w = k := by
  unfold Check.judgeWord
  rw [if_neg (by omega), if_neg (by omega), if_pos kind]

section
variable (past : 16 ≤ k.pos) (kind : k.kind = .full) (w : Word16)
include past kind

theorem judgeWord_record (h : k.pos < 16 + 4 * hdrNets m) :
    k.judgeWord m w = k.readRecord m ((k.pos - 16) / 4) ((k.pos - 16) % 4) w := by
  unfold Check.judgeWord
  rw [if_neg (by omega), if_neg (by omega), if_neg (by rw [kind]; nofun), if_pos h]

theorem judgeWord_member (h : 16 + 4 * hdrNets m ≤ k.pos) (h' : k.pos < 16 + 4 * hdrNets m + hdrMembers m) :
    k.judgeWord m w = k.readMember m (k.pos - (16 + 4 * hdrNets m)) w := by
  unfold Check.judgeWord
  rw [if_neg (by omega), if_neg (by omega), if_neg (by rw [kind]; nofun), if_neg (by omega), if_pos h']

theorem judgeWord_offset (h : 16 + 4 * hdrNets m + hdrMembers m ≤ k.pos) :
    k.judgeWord m w = k.readOffset (k.pos - (16 + 4 * hdrNets m + hdrMembers m)) w := by
  unfold Check.judgeWord
  rw [if_neg (by omega), if_neg (by omega), if_neg (by rw [kind]; nofun), if_neg (by omega), if_neg (by omega)]

end

/-- Settles O28, by the part of the pass that the position lies in. -/
theorem checkerReadsWord : Obligations.CheckerReadsWord := fun s k running check => by
  have reads : exec .checkerWordRead s = .next (s.setStore { s.store with check := some (k.read s.store.words) }) := by
    refine (next_running checkerReads running).trans (congrArg _ ?_)
    simp only [checkerReads, check]
  refine ⟨fun complete => ?_, fun more => ⟨_, reads, ?_⟩⟩
  · rw [reads, Check.read, if_pos complete, ← check]
    rfl
  rw [read_eq more]
  generalize hw : imageRead s.store.words (passWord (hdrNets s.store.words) (hdrMembers s.store.words) k.pos) = w
  obtain ⟨kind, rem⟩ := judgeWord_keeps s.store.words (k.fed w) w
  have fedKind : (k.fed w).kind = k.kind := by unfold Check.fed; split <;> rfl
  have fedFault : (k.fed w).fault = k.fault := by unfold Check.fed; split <;> rfl
  have fedPos : (k.fed w).pos = k.pos := by unfold Check.fed; split <;> rfl
  have fedRem : (k.fed w).rem = if k.pos = 15 then k.rem else crcWord k.rem w := by unfold Check.fed; split <;> rfl
  refine ⟨rfl, kind.trans fedKind, rem.trans fedRem, fun f hf => lowers_judgeWord _ _ _ f (fedFault.trans hf), fun early => ?_,
    fun none pos => ?_, fun past sum => ?_, fun past full n hn m hm v hv rank hrank => ?_⟩
  · exact (congrArg Check.fault (if_pos (fedPos.symm ▸ early))).trans fedFault
  · have header := judgeWord_header (m := s.store.words) (fedPos.trans pos) (fedFault.trans none) w
    rw [fedKind] at header
    refine ⟨fun tag => ?_, fun tag => ⟨fun span => ?_, fun span => ⟨fun nets => ?_, fun nets => ⟨fun members => ?_, fun members =>
      ⟨fun sum => ?_, fun full => ?_⟩⟩⟩⟩⟩
    · refine header.trans ?_
      rw [headerItems, faultUnless_fails tag]
      rfl
    · refine header.trans ?_
      rw [headerItems, faultUnless_passes tag, faultUnless_fails span]
      rfl
    · refine header.trans ?_
      rw [headerItems, faultUnless_passes tag, faultUnless_passes span, faultUnless_fails nets]
      rfl
    · refine header.trans ?_
      rw [headerItems, faultUnless_passes tag, faultUnless_passes span, faultUnless_passes nets, faultUnless_fails members]
      rfl
    · refine header.trans ?_
      rw [headerItems, faultUnless_passes tag, faultUnless_passes span, faultUnless_passes nets, faultUnless_passes members, sum]
      rfl
    · refine header.trans ?_
      rw [headerItems, faultUnless_passes tag, faultUnless_passes span, faultUnless_passes nets, faultUnless_passes members, full,
        if_pos rfl, headerLimits_fault]
      rfl
  · exact (congrArg Check.fault (judgeWord_checksum (k := k.fed w) (fedPos.symm ▸ past) (fedKind.trans sum) w)).trans fedFault
  · subst hn hm hrank
    rw [hw] at hv
    subst hv
    have fedPast : 16 ≤ (k.fed w).pos := by rwa [fedPos]
    have fed := fed_of_past (k := k) (.inl past) w
    refine ⟨fun record i hi => ?_, fun begun member => ?_, fun offset => ?_⟩
    · subst hi
      rw [judgeWord_record (k := k.fed w) fedPast (fedKind.trans full) w (by rwa [fedPos]), fedPos, fed]
      refine ⟨fun r => ?_, fun r => ?_, fun r => ?_⟩
      · rw [r, readRecord_first]
        exact ⟨rfl, rfl⟩
      · rw [r, readRecord_second]
        exact ⟨rfl, rfl⟩
      · rw [readRecord_later _ r]
    · rw [judgeWord_member (k := k.fed w) fedPast (fedKind.trans full) w (by rwa [fedPos]) (by rwa [fedPos]), fedPos, fed]
      refine ⟨fun unknown => ?_, fun known i hi => ?_⟩
      · rw [readMember_unknown (k := { k with rem := crcWord k.rem w }) unknown]
      · have at_ : i = ({ k with rem := crcWord k.rem w } : Check).netAt (k.pos - (16 + 4 * hdrNets s.store.words)) := by
          have first : k.pos - (16 + 4 * hdrNets s.store.words) = 0 ↔ k.pos = 16 + 4 * hdrNets s.store.words := by omega
          rw [hi, Check.netAt]
          exact if_congr Iff.rfl rfl (if_congr first.symm rfl rfl)
        rw [readMember_known (k := { k with rem := crcWord k.rem w }) known, ← at_]
        exact ⟨rfl, rfl, rfl, rfl, rfl⟩
    · rw [judgeWord_offset (k := k.fed w) fedPast (fedKind.trans full) w (by rwa [fedPos]), fedPos, fed, readOffset_eq]
      rfl

end

end Sys2Proof.Machine

/-! The walk of the connection phase: a pair handed, the next net, and START CONTINUITY (R82 to R85). -/

namespace Sys2Proof.Machine

section
variable {x y : Station} {s t : State} {w : Sweep}

/-! ## The sweep record -/

/-- A station with its sweep record. -/
def Bench.withSweep (b : Bench) (w : Sweep) : Bench := { b with sweep := some w }

theorem setSweep_bench (x : Station) (w : Sweep) (s : State) : (setSweep x w s).bench x = (s.bench x).withSweep w :=
  State.setBench_bench_same _ _ _

/-- The sweep record with the points of its pair read (R83, R85). -/
def Sweep.paired (w : Sweep) (m : List ImageCell) : Sweep := { w with pairA := (w.pair m).1, pairB := (w.pair m).2 }

/-- The configuration of the pair that comes next (R85). -/
def Sweep.pairConfig (w : Sweep) (m : List ImageCell) : Configuration :=
  { drive := pointSet (w.pair m).1, ret := pointSet (w.pair m).2 }

/-- Where no read is held up the pair is handed at once. -/
theorem handPair_hands (open_ : s.store.state ≠ .checking) (sweep : (s.bench x).sweep = some w) :
    handPair x s = handConfig x (w.pairConfig s.store.words) (setSweep x (w.paired s.store.words) s) := by
  have free : checking s = false := decide_eq_false open_
  simp only [handPair, free, sweep, Bool.false_eq_true, if_false]
  rfl

theorem handPair_bench (open_ : s.store.state ≠ .checking) (sweep : (s.bench x).sweep = some w) :
    (handPair x s).bench x = ((s.bench x).withSweep (w.paired s.store.words)).handing (w.pairConfig s.store.words) := by
  rw [handPair_hands open_ sweep, handConfig_bench_same, setSweep_bench]

/-! ## The next net (R84) -/

theorem nextPaired_lt {m : List ImageCell} {nets i j : Nat} (h : nextPaired m nets i = some j) : i < nets := by
  have mem := List.mem_range.mp (List.mem_of_find?_eq_some h)
  have found := List.find?_some h
  simp only [decide_eq_true_eq] at found
  omega

theorem beginNet_hands {i j : Nat} (open_ : s.store.state ≠ .checking) (sweep : (s.bench x).sweep = some w)
    (next : nextPaired s.store.words w.nets i = some j) :
    beginNet x i s = handPair x (setSweep x (w.enterNet s.store.words j) s) := by
  have free : checking s = false := decide_eq_false open_
  simp only [beginNet, sweep, Nat.not_le.mpr (nextPaired_lt next), if_false, free, Bool.false_eq_true, next]

/-! ## START CONTINUITY (R82, R83) -/

/-- The sweep record with the sweep header read (R83). -/
def Sweep.headed (w : Sweep) (m : List ImageCell) : Sweep := { w with nets := hdrNets m, threshold := hdrThreshold m, start := hdrStart m }

theorem beginSweep_held (held : s.store.state = .checking) : beginSweep x s = holdRead x .sweepStart s := by
  simp [beginSweep, checking, held]

theorem beginSweep_begins (open_ : s.store.state ≠ .checking) (sweep : (s.bench x).sweep = some w) :
    beginSweep x s = beginNet x 0 (setSweep x (w.headed s.store.words) s) := by
  have free : checking s = false := decide_eq_false open_
  simp only [beginSweep, free, sweep, Bool.false_eq_true, if_false]
  rfl

/-- A sweep begun where a net has a pair: its first two members are handed (R83 to R85). -/
theorem beginSweep_bench {j : Nat} (open_ : s.store.state ≠ .checking) (sweep : (s.bench x).sweep = some w)
    (next : nextPaired s.store.words (hdrNets s.store.words) 0 = some j) :
    (beginSweep x s).bench x =
      ((s.bench x).withSweep (((w.headed s.store.words).enterNet s.store.words j).paired s.store.words)).handing
        (((w.headed s.store.words).enterNet s.store.words j).pairConfig s.store.words) := by
  have headed := setSweep_bench x (w.headed s.store.words) s
  have hands : beginNet x 0 (setSweep x (w.headed s.store.words) s) =
      handPair x (setSweep x ((w.headed s.store.words).enterNet s.store.words j) (setSweep x (w.headed s.store.words) s)) :=
    beginNet_hands open_ (by rw [headed]; rfl) next
  rw [beginSweep_begins open_ sweep, hands, handPair_bench (s := setSweep x ((w.headed s.store.words).enterNet s.store.words j) (setSweep x (w.headed s.store.words) s))
      (w := (w.headed s.store.words).enterNet s.store.words j) open_ (by rw [setSweep_bench]; rfl), setSweep_bench, setSweep_bench]
  rfl

section
variable {scope limit : Byte} (ready : Ready s x.port)
include ready

theorem exec_startContinuity_refused {why : Status} (h : serveStartContinuity x scope limit (ended x.port s) = same why (ended x.port s)) :
    exec (.startContinuity x.port scope limit) s = .next (plainly x.port 0x34 why s) :=
  exec_same rfl rfl ready (taken_station rfl rfl nofun) ((ofStation_port x _ _).trans h)

/-- The run with its sweep record fresh. -/
def sweepOpened (x : Station) (c : Scope) (limit : Nat) (s : State) : State := s.setBench x ((s.bench x).sweeping c limit)

end

theorem serveStartContinuity_taken {scope limit : Byte} {c : Scope} (hc : scopeOf scope = some c) (fits : limit.toNat ≤ 128)
    (run : (s.bench x).run = .ready) :
    serveStartContinuity x scope limit s = (beginSweep x (sweepOpened x c limit.toNat s), some (.plain .accepted)) := by
  simp only [serveStartContinuity, hc, Nat.not_lt.mpr fits, if_false, run, if_true]
  rfl

/-- Settles O39. -/
theorem sweepStarted : Obligations.SweepStarted := fun s x scope limit ready => by
  refine ⟨fun bad => exec_startContinuity_refused ready ?_, fun c hc fits => ⟨fun busy => exec_startContinuity_refused ready ?_,
    fun run held => ?_, fun j run open_ next => ?_⟩⟩
  · cases hc : scopeOf scope with
    | none => simp only [serveStartContinuity, hc]
    | some c =>
      have within : ¬ 1 < scope.toNat := by
        unfold scopeOf at hc
        intro big
        split at hc
        · next e => rw [e] at big; exact absurd big (by decide)
        · split at hc
          · next e => rw [e] at big; exact absurd big (by decide)
          · cases hc
      simp only [serveStartContinuity, hc, bad.resolve_left within, if_true]
  · simp only [serveStartContinuity, hc, Nat.not_lt.mpr fits, if_false, ended_bench, busy]
  · refine exec_plainly (t := holdRead x .sweepStart (sweepOpened x c limit.toNat s)) (r := .startContinuity scope limit) (k := 0x34) (v := .accepted) rfl rfl ready (taken_station rfl rfl nofun) ?_ |>.trans ?_
    · refine (ofStation_port x _ _).trans ?_
      rw [serveStartContinuity_taken (s := ended x.port s) hc fits run,
        beginSweep_held (s := sweepOpened x c limit.toNat (ended x.port s)) held]
      rfl
    · refine congrArg (fun u => Host.Outcome.next (plainly x.port 0x34 .accepted u)) ?_
      cases x <;> rfl
  · have fresh : ((sweepOpened x c limit.toNat (ended x.port s)).bench x).sweep = some (.create c limit.toNat) := by
      rw [sweepOpened, State.setBench_bench_same]
      rfl
    have begun := beginSweep_bench (s := sweepOpened x c limit.toNat (ended x.port s)) open_ fresh next
    rw [sweepOpened, State.setBench_bench_same] at begun
    refine ⟨respond x.port 0x34 (.plain .accepted) (beginSweep x (sweepOpened x c limit.toNat (ended x.port s))),
      (((Sweep.create c limit.toNat).headed s.store.words).enterNet s.store.words j).paired s.store.words,
      exec_plain (r := .startContinuity scope limit) rfl rfl ready (taken_station rfl rfl nofun)
        ((ofStation_port x _ _).trans (serveStartContinuity_taken (s := ended x.port s) hc fits run)), respond_status _ _ _ _, ?_⟩
    rw [show (respond x.port 0x34 (.plain .accepted) (beginSweep x (sweepOpened x c limit.toNat (ended x.port s)))).bench x = _ from begun]
    exact ⟨rfl, rfl, rfl, rfl, rfl, rfl, rfl, rfl, rfl, rfl, rfl⟩

end

end Sys2Proof.Machine

/-! The counted end of a run, and what it does to the holding of the source (R71, R121). -/

namespace Sys2Proof.Machine

section
variable {x y : Station} {s t u : State}

/-! ## The bank and its ticket -/

/-- Between s and t only stations and printer have been written. -/
structure Clerical (s t : State) : Prop where
  hv : t.hv = s.hv
  matrix : t.matrix = s.matrix
  channels : t.channels = s.channels
  store : t.store = s.store
  ports : t.ports = s.ports
  attention : t.attention = s.attention

theorem Clerical.refl (s : State) : Clerical s s := ⟨rfl, rfl, rfl, rfl, rfl, rfl⟩

theorem Clerical.trans (h : Clerical s t) (k : Clerical t u) : Clerical s u :=
  ⟨k.hv.trans h.hv, k.matrix.trans h.matrix, k.channels.trans h.channels, k.store.trans h.store, k.ports.trans h.ports,
    k.attention.trans h.attention⟩

theorem clerical_setPrinter (s : State) (q : Printer) : Clerical s (s.setPrinter q) := ⟨rfl, rfl, rfl, rfl, rfl, rfl⟩

theorem clerical_setBench (s : State) (x : Station) (b : Bench) : Clerical s (s.setBench x b) := ⟨rfl, rfl, rfl, rfl, rfl, rfl⟩

theorem clerical_composerHand (s : State) : Clerical s (composerHand s) := by
  unfold composerHand
  dsimp only
  split
  · split
    · exact clerical_setPrinter s _
    · exact .refl s
  · exact .refl s

theorem clerical_beginHead (s : State) : Clerical s (beginHead s) := by
  unfold beginHead
  split
  · exact ((clerical_setPrinter s _).trans (clerical_setBench _ _ _)).trans (clerical_composerHand _)
  · exact .refl s

theorem clerical_queueJob (j : Job) (s : State) : Clerical s (queueJob j s) := by
  have joined : Clerical s (setBankState j.station j.bank .queued (s.setPrinter { s.printer with queue := s.printer.queue ++ [j] })) :=
    (clerical_setPrinter s _).trans (clerical_setBench _ _ _)
  unfold queueJob
  dsimp only
  split
  · exact joined.trans (clerical_beginHead _)
  · exact joined

theorem clerical_endBank (r : RunRecord) (v : Verdict) (ticket : Bool) (s : State) : Clerical s (endBank x r v ticket s) := by
  unfold endBank
  split
  · exact clerical_queueJob _ s
  · exact clerical_setBench _ _ _

/-- A station with a bank's state written. -/
def Bench.banked (b : Bench) (n : BankNo) (v : BankState) : Bench :=
  { b with banks := b.banks.set n { b.banks.get n with state := v } }

theorem banked_banked (b : Bench) (n : BankNo) (v w : BankState) : (b.banked n v).banked n w = b.banked n w := by
  cases n <;> rfl

theorem setBankState_bench (x : Station) (n : BankNo) (v : BankState) (s : State) :
    (setBankState x n v s).bench x = (s.bench x).banked n v := State.setBench_bench_same _ _ _

theorem setBankState_bench_ne (n : BankNo) (v : BankState) (s : State) (h : y ≠ x) : (setBankState x n v s).bench y = s.bench y :=
  State.setBench_bench_ne _ _ _ h

theorem composerHand_queue (s : State) : (composerHand s).printer.queue = s.printer.queue := by
  unfold composerHand
  dsimp only
  split
  · split
    · rw [State.setPrinter_printer, strobe]
      split <;> rfl
    · rfl
  · rfl

/-- A job that joins the queue: its bank is QUEUED, or PRINTING where it is the head at once (R151). -/
theorem queueJob_facts (j : Job) (s : State) :
    (queueJob j s).bench j.station = (s.bench j.station).banked j.bank (if s.printer.queue = [] then .printing else .queued) ∧
    (∀ y, y ≠ j.station → (queueJob j s).bench y = s.bench y) ∧ (queueJob j s).printer.queue = s.printer.queue ++ [j] := by
  unfold queueJob
  dsimp only
  by_cases empty : s.printer.queue = []
  · have begun := beginHead_begins (s := setBankState j.station j.bank .queued (s.setPrinter { s.printer with queue := s.printer.queue ++ [j] }))
      (j := j) (rest := []) (by show s.printer.queue ++ [j] = _; rw [empty]; rfl)
    rw [if_pos empty, if_pos empty, begun]
    refine ⟨?_, fun y hy => ?_, ?_⟩
    · rw [composerHand_bench, headBegun, setBankState_bench, State.setPrinter_bench, setBankState_bench, banked_banked]
      rfl
    · rw [composerHand_bench, headBegun, setBankState_bench_ne _ _ _ hy, State.setPrinter_bench, setBankState_bench_ne _ _ _ hy]
      rfl
    · rw [composerHand_queue]
      rfl
  · rw [if_neg empty, if_neg empty]
    exact ⟨setBankState_bench _ _ _ _, fun y hy => setBankState_bench_ne _ _ _ hy, rfl⟩

/-! ## The counted end (R71) -/

/-- What becomes of the bank of an ended run. -/
def endedBank (s : State) (ticket : Bool) : BankState :=
  if ticket then (if s.printer.queue = [] then .printing else .queued) else .kept

theorem endBank_facts (r : RunRecord) (v : Verdict) (ticket : Bool) (s : State) :
    (endBank x r v ticket s).bench x = (s.bench x).banked r.bank (endedBank s ticket) ∧
    (∀ y, y ≠ x → (endBank x r v ticket s).bench y = s.bench y) ∧
    (ticket = false → (endBank x r v ticket s).printer = s.printer) ∧
    (ticket = true → (endBank x r v ticket s).printer.queue = s.printer.queue ++ [runJob s x r v]) := by
  unfold endBank endedBank
  cases ticket
  · exact ⟨setBankState_bench _ _ _ _, fun y hy => setBankState_bench_ne _ _ _ hy, fun _ => rfl, nofun⟩
  · obtain ⟨bench, other, queue⟩ := queueJob_facts (runJob s x r v) s
    exact ⟨bench, other, nofun, fun _ => queue⟩

/-- A ticket is queued for a run that a station reset did not end, by its policy and verdict (R71, R78). -/
def ticketed (r : RunRecord) (cause : RunEndCause) (v : Verdict) : Bool := !decide (cause = .stationReset) && needsTicket r.policy v

/-- Between s and t the run of station X with this record has been ended and counted. -/
structure RunOver (x : Station) (r : RunRecord) (cause : RunEndCause) (v : Verdict) (s t : State) : Prop where
  hv : t.hv = s.hv
  matrix : t.matrix = s.matrix
  channels : t.channels = s.channels
  store : t.store = s.store
  ports : t.ports = s.ports
  other : ∀ y, y ≠ x → t.bench y = s.bench y
  bench : t.bench x = ((s.bench x).ended r cause v).banked r.bank (endedBank s (ticketed r cause v))
  printer : ticketed r cause v = false → t.printer = s.printer
  queue : ticketed r cause v = true → t.printer.queue = s.printer.queue ++ [runJob s x r v]
  units : ∀ p, RaisedFrom (s.unit p) (t.unit p)
  supervisor : Notified s t .ps (srcRunEndedOf x)
  station : cause ≠ .stationReset → Notified s t x.port srcRunEnded

theorem runOver_endRun (x : Station) (r : RunRecord) (cause : RunEndCause) (v : Verdict) (s : State) :
    RunOver x r cause v s (endRun x r cause v s) := by
  have ended : Clerical s (s.setBench x ((s.bench x).ended r cause v)) := clerical_setBench s x _
  have work := ended.trans (clerical_endBank (x := x) r v (ticketed r cause v) (s.setBench x ((s.bench x).ended r cause v)))
  obtain ⟨bench, other, printer, queue⟩ := endBank_facts (x := x) r v (ticketed r cause v) (s.setBench x ((s.bench x).ended r cause v))
  rw [State.setBench_bench_same] at bench
  have others (y : Station) (hy : y ≠ x) := (other y hy).trans (State.setBench_bench_ne _ _ _ hy)
  have raises (p : Port) (n : Nat) (w : State) (h : w.attention = s.attention) (hn : n < 16) : Notified s (raise p n w) p n := fun on =>
    notified_raise p n w hn (by rwa [State.unit, h])
  have units (w v : State) (h : w.attention = s.attention) (k : Worked w v) (p : Port) : RaisedFrom (s.unit p) (v.unit p) := by
    have same : s.unit p = w.unit p := by rw [State.unit, State.unit, h]
    rw [same]
    exact k.units p
  by_cases quiet : cause = .stationReset
  · have eq : endRun x r cause v s = raise .ps (srcRunEndedOf x) (endBank x r v (ticketed r cause v) (s.setBench x ((s.bench x).ended r cause v))) := by
      simp [endRun, ticketed, quiet]
    rw [eq]
    exact ⟨work.hv, work.matrix, work.channels, work.store, work.ports, others, bench, printer, queue,
      units _ _ work.attention (worked_raise _ _ _), raises _ _ _ work.attention (by cases x <;> decide), fun h => absurd quiet h⟩
  · have eq : endRun x r cause v s = raise .ps (srcRunEndedOf x)
        (raise x.port srcRunEnded (endBank x r v (ticketed r cause v) (s.setBench x ((s.bench x).ended r cause v)))) := by
      simp [endRun, ticketed, quiet]
    have station := raises x.port srcRunEnded _ work.attention (by decide)
    have apart : x.port ≠ .ps := by cases x <;> nofun
    rw [eq]
    refine ⟨work.hv, work.matrix, work.channels, work.store, work.ports, others, bench, printer, queue,
      units _ _ work.attention ((worked_raise _ _ _).after (worked_raise _ _ _)), fun on => ?_, fun _ on => ?_⟩
    · refine notified_raise .ps _ _ (by cases x <;> decide) ?_
      rwa [raise_unit_ne _ _ apart.symm, State.unit, work.attention]
    · rw [raise_unit_ne _ _ apart]
      exact station on

/-! ## The holding at a run end (R121) -/

/-- The HV unit with the asks of a station cleared and its holding given up, before the release. -/
def Hv.givenUp (h : Hv) (x : Station) (quiet : Bool) : Hv :=
  { h.clearAsks x with reserved := false, holderStep := false, holdTimer := none, quiet := h.quiet || quiet }

theorem endHolding_uncut (quiet : Bool) (uncut : Uncut s x) :
    endHolding x quiet s =
      if s.hv.holder = some x then releaseHolder (s.setHv (s.hv.givenUp x quiet)) else s.setHv (s.hv.clearAsks x) := by
  unfold endHolding
  rw [cutEnergisation_uncut (s := clearAsks x s) uncut]
  rfl

theorem endHolding_else (quiet : Bool) (uncut : Uncut s x) (h : s.hv.holder ≠ some x) : endHolding x quiet s = s.setHv (s.hv.clearAsks x) := by
  rw [endHolding_uncut quiet uncut, if_neg h]

theorem endHolding_holder (quiet : Bool) (uncut : Uncut s x) (h : s.hv.holder = some x) :
    endHolding x quiet s = releaseHolder (s.setHv (s.hv.givenUp x quiet)) := by
  rw [endHolding_uncut quiet uncut, if_pos h]

theorem notWaiting_stepless (h : (s.bench x).step = none) : NotWaiting s x := fun _ hs => nomatch h.symm.trans hs

/-- A run end at the HV unit leaves the station alone whose step is gone. -/
theorem untouched_endHolding (quiet : Bool) (uncut : Uncut s x) (h : (s.bench x).step = none) : Untouched x s (endHolding x quiet s) := by
  rw [endHolding_uncut quiet uncut]
  split
  · have k := untouched_releaseHolder (z := x) (s := s.setHv (s.hv.givenUp x quiet)) (notWaiting_stepless h)
    exact ⟨k.bench, k.trunk, k.channel⟩
  · exact ⟨rfl, rfl, rfl⟩

theorem endHolding_asks (quiet : Bool) (uncut : Uncut s x) : (endHolding x quiet s).hv.asks x = false := by
  rw [endHolding_uncut quiet uncut]
  split
  · exact releaseHolder_asks (s := s.setHv (s.hv.givenUp x quiet)) (Hv.asks_clearAsks s.hv x)
  · exact Hv.asks_clearAsks s.hv x

/-- With a station out of line, the other is next where it stands in line and its conditions hold. -/
theorem next_without {h : Hv} {l : List Station} (line : h.line = l.filter (fun y => decide (y ≠ x))) :
    h.next = if h.grantable x.other = true ∧ l.contains x.other = true then some x.other else none := by
  unfold Hv.next
  rw [line]
  have only (y : Station) (hy : y ≠ x) : y = x.other := by cases x <;> cases y <;> first | rfl | exact absurd rfl hy
  by_cases can : h.grantable x.other = true ∧ l.contains x.other = true
  · rw [if_pos can]
    cases found : (l.filter (fun y => decide (y ≠ x))).find? (fun y => h.grantable y) with
    | some y =>
      have hy := List.mem_of_find?_eq_some found
      rw [List.mem_filter, decide_eq_true_eq] at hy
      rw [only y hy.2]
    | none =>
      have mem : x.other ∈ l.filter (fun y => decide (y ≠ x)) :=
        List.mem_filter.mpr ⟨List.contains_iff_mem.mp can.2, decide_eq_true (Station.other_ne x)⟩
      exact absurd can.1 (List.find?_eq_none.mp found _ mem)
  · rw [if_neg can, List.find?_eq_none]
    intro y hy g
    rw [List.mem_filter, decide_eq_true_eq] at hy
    rw [only y hy.2] at g hy
    exact can ⟨g, List.contains_iff_mem.mpr hy.1⟩

theorem next_givenUp (h : Hv) (quiet : Bool) :
    ({ h.givenUp x quiet with holder := none } : Hv).next =
      if ({ h with holder := none } : Hv).grantable x.other = true ∧ h.line.contains x.other = true then some x.other else none := by
  have line : ({ h.givenUp x quiet with holder := none } : Hv).line = h.line.filter (fun y => decide (y ≠ x)) := clearAsks_line_eq h x
  rw [next_without line]
  rfl

/-- What a grant to the other station makes of its asks is read before the station gave up. -/
theorem Granted.of_givenUp {quiet : Bool} (h : Granted (s.setHv (s.hv.givenUp x quiet)) t x.other) : Granted s t x.other := by
  obtain ⟨holder, asks, string, step, reserved, timer, raised, configures⟩ := h
  have stepAsk : (s.hv.givenUp x quiet).stepAsk.get x.other = s.hv.stepAsk.get x.other := Both.get_set_ne _ _ (Station.other_ne x)
  have reserveAsk : (s.hv.givenUp x quiet).reserveAsk.get x.other = s.hv.reserveAsk.get x.other := Both.get_set_ne _ _ (Station.other_ne x)
  simp only [State.setHv_hv, stepAsk, reserveAsk] at step reserved timer configures
  exact ⟨holder, asks, string, step, reserved, timer, raised, configures⟩

/-- A holder's run end with the switch OFF: a loud release, and the other station granted where it is next (R117, R121). -/
theorem endHolding_releases (uncut : Uncut s x) (held : s.hv.holder = some x) (off : s.hv.sw = .off) :
    (s.hv.quiet = false → Notified s (endHolding x false s) x.port srcHvReleased) ∧
    (({ s.hv with holder := none } : Hv).grantable x.other = true → s.hv.line.contains x.other = true →
      Granted s (endHolding x false s) x.other) ∧
    (({ s.hv with holder := none } : Hv).grantable x.other = false ∨ s.hv.line.contains x.other = false →
      (endHolding x false s).hv = (s.hv.givenUp x false).released ∧ (endHolding x false s).benches = s.benches ∧
      (endHolding x false s).matrix = s.matrix) := by
  have held' : (s.setHv (s.hv.givenUp x false)).hv.holder = some x := held
  have off' : (s.setHv (s.hv.givenUp x false)).hv.sw = .off := off
  rw [endHolding_holder false uncut held]
  refine ⟨fun loud => ?_, fun can line => ?_, fun none => ?_⟩
  · have quiet : (s.setHv (s.hv.givenUp x false)).hv.quiet = false := (Bool.or_false _).trans loud
    have k := (notified_released (x := x) quiet).worked (worked_lookForGrant _)
    rwa [← releaseHolder_off held' off'] at k
  · exact (releaseHolder_grants held' off' ((next_givenUp s.hv false).trans (if_pos ⟨can, line⟩))).1.of_givenUp
  · have nobody := releaseHolder_nobody held' off' ((next_givenUp (x := x) s.hv false).trans (if_neg fun h => ?_))
    · rw [nobody]
      refine ⟨released_hv, ?_, released_matrix⟩
      unfold released
      split <;> rfl
    · rcases none with no | no
      · exact absurd h.1 (by rw [no]; decide)
      · exact absurd h.2 (by rw [no]; decide)

/-- A holder's run end with the switch set: the release stands pending (R119, R121). -/
theorem endHolding_pends (quiet : Bool) (uncut : Uncut s x) (held : s.hv.holder = some x) (sw : s.hv.sw ≠ .off) :
    endHolding x quiet s = s.setHv { s.hv.givenUp x quiet with releasePending := true } := by
  rw [endHolding_holder quiet uncut held]
  exact releaseHolder_pending (s := s.setHv (s.hv.givenUp x quiet)) held sw

/-- A grant to another station behind a counted run end is a grant by the asks that stood before it. -/
theorem Granted.of_counted {r : RunRecord} {cause : RunEndCause} {v : Verdict} (h : RunOver x r cause v s u) (hy : y ≠ x)
    (g : Granted u t y) : Granted s t y := by
  obtain ⟨holder, asks, string, step, reserved, timer, raised, configures⟩ := g
  rw [h.hv] at step reserved timer configures
  rw [h.other y hy] at configures
  refine ⟨holder, asks, string, step, reserved, timer, raised.of_raised (h.units _), fun a st hs hw => ?_⟩
  have c := configures a st hs hw
  rwa [Configures, h.store] at c

/-! ## CLOSE RUN (R69) -/

/-- The state that CLOSE RUN leaves in READY. -/
def closedRun (x : Station) (r : RunRecord) (s : State) : State := endHolding x false (endRun x r .closeRun (verdictOf r) s)

theorem exec_closeRun_same {why : Status} (ready : Ready s x.port) (h : serveCloseRun x (ended x.port s) = same why (ended x.port s)) :
    exec (.closeRun x.port) s = .next (plainly x.port 0x31 why s) :=
  exec_same rfl rfl ready (taken_station rfl rfl nofun) ((serve_closeRun x _).trans h)

theorem exec_closeRun_closes {r : RunRecord} (ready : Ready s x.port) (run : (s.bench x).run = .ready) (record : (s.bench x).record = some r) :
    exec (.closeRun x.port) s =
      .next (respond x.port 0x31 (.data (closedPayload s x r)) (closedRun x r (ended x.port s))) := by
  have served : serve x.port .closeRun (ended x.port s) = (closedRun x r (ended x.port s), some (.data (closedPayload s x r))) := by
    rw [serve_closeRun]
    simp only [serveCloseRun, ended_bench, run, record]
    rfl
  rw [exec_replied (r := .closeRun) (c := 0x31) (a := .data (closedPayload s x r)) rfl rfl ready (taken_station rfl rfl nofun)
    (congrArg Prod.snd served), served]

/-- What the end of the run leaves of the station, its asks, the printer and the notices (R69, R71, R75). -/
theorem runCloses_closed {r : RunRecord} (uncut : Uncut s x) :
    RunCloses s (respond x.port 0x31 (.data (closedPayload s x r)) (closedRun x r (ended x.port s))) x r := by
  have counted := runOver_endRun x r .closeRun (verdictOf r) (ended x.port s)
  have w : Worked (endRun x r .closeRun (verdictOf r) (ended x.port s)) (closedRun x r (ended x.port s)) := worked_endHolding x false _
  have bench : (closedRun x r (ended x.port s)).bench x =
      ((s.bench x).ended r .closeRun (verdictOf r)).banked r.bank (endedBank s (needsTicket r.policy (verdictOf r))) := by
    have uncut' : Uncut (endRun x r .closeRun (verdictOf r) (ended x.port s)) x := by rwa [Uncut, counted.hv]
    have stepless : ((endRun x r .closeRun (verdictOf r) (ended x.port s)).bench x).step = none := by rw [counted.bench]; rfl
    exact (untouched_endHolding false uncut' stepless).bench.trans counted.bench
  have asks : (closedRun x r (ended x.port s)).hv.asks x = false :=
    endHolding_asks false (by rwa [Uncut, counted.hv])
  have store : (closedRun x r (ended x.port s)).store = s.store := w.store.trans counted.store
  have station : Notified s (closedRun x r (ended x.port s)) x.port srcRunEnded := (counted.station nofun).worked w
  have supervisor : Notified s (closedRun x r (ended x.port s)) .ps (srcRunEndedOf x) := counted.supervisor.worked w
  have printer (no : needsTicket r.policy (verdictOf r) = false) : (closedRun x r (ended x.port s)).printer = s.printer :=
    w.printer.trans (counted.printer no)
  have queue (yes : needsTicket r.policy (verdictOf r) = true) :
      (closedRun x r (ended x.port s)).printer.queue = s.printer.queue ++ [runJob s x r (verdictOf r)] :=
    (congrArg Printer.queue w.printer).trans (counted.queue yes)
  generalize closedRun x r (ended x.port s) = t at *
  have respondBench : (respond x.port 0x31 (.data (closedPayload s x r)) t).bench x = t.bench x := rfl
  rw [RunCloses, respondBench, bench]
  refine ⟨store, ?_, ?_, rfl, rfl, rfl, rfl, asks, station, supervisor, fun no => ⟨printer no, ?_⟩, fun yes => ⟨?_, queue yes⟩⟩
  · rw [respond, State.setPort_port_same]
  · rw [respond, State.setPort_port_same]
    rfl
  · rw [Bench.banked, Banks.get_set_same, endedBank, no]
    rfl
  · rw [Bench.banked, Banks.get_set_same, endedBank, yes]
    rfl

/-- Settles O34, by run state and holder. -/
theorem runClosed : Obligations.RunClosed := fun s x ready => by
  refine ⟨fun run => exec_closeRun_same ready ?_, fun run => exec_closeRun_same ready ?_, fun r run record apart => ?_⟩
  · simp only [serveCloseRun, ended_bench, run]
  · rcases run with run | run | run <;> simp only [serveCloseRun, ended_bench, run]
  have uncut : Uncut s x := fun e he hx => absurd hx (apart e he)
  refine ⟨_, exec_closeRun_closes ready run record, runCloses_closed uncut, ?_⟩
  have counted := runOver_endRun x r .closeRun (verdictOf r) (ended x.port s)
  have uncut' : Uncut (endRun x r .closeRun (verdictOf r) (ended x.port s)) x := by rwa [Uncut, counted.hv]
  have bench := counted.other x.other (Station.other_ne x)
  have hv : (endRun x r .closeRun (verdictOf r) (ended x.port s)).hv = s.hv := counted.hv
  have gives : closedRun x r (ended x.port s) = endHolding x false (endRun x r .closeRun (verdictOf r) (ended x.port s)) := rfl
  generalize endRun x r .closeRun (verdictOf r) (ended x.port s) = u at *
  have holds (h : s.hv.holder = some x) : u.hv.holder = some x := by rw [hv, h]
  refine ⟨fun free => ?_, fun held off => ?_, fun held sw => ?_⟩
  · rw [gives, endHolding_else false uncut' (by rwa [hv])]
    exact ⟨bench, counted.matrix, (congrArg Hv.holder hv : u.hv.holder = _)⟩
  · obtain ⟨loud, grants, nobody⟩ := endHolding_releases uncut' (holds held) (by rw [hv, off])
    rw [hv] at loud grants nobody
    rw [← gives] at loud grants nobody
    refine ⟨fun quiet => (loud quiet).of_raised (counted.units _), fun can _ line => ?_, fun no => ?_⟩
    · exact Granted.of_counted (s := ended x.port s) counted (Station.other_ne x) (grants can line)
    · obtain ⟨lends, benches, matrix⟩ := nobody no
      have same : (closedRun x r (ended x.port s)).bench x.other = u.bench x.other := by rw [State.bench, benches]; rfl
      have mine : (closedRun x r (ended x.port s)).matrix = s.matrix := matrix.trans counted.matrix
      generalize closedRun x r (ended x.port s) = t at *
      show t.hv.holder = _ ∧ t.hv.reserved = _ ∧ t.hv.releasePending = _ ∧ t.hv.holdTimer = _ ∧ t.hv.holderStep = _ ∧ t.bench x.other = _ ∧
        t.matrix = _
      rw [lends]
      exact ⟨rfl, rfl, rfl, rfl, rfl, same.trans bench, mine⟩
  · rw [gives, endHolding_pends false uncut' (holds held) (by rwa [hv])]
    exact ⟨holds held, rfl, rfl, rfl⟩

end

end Sys2Proof.Machine

/-! The station reset (R78, R164). -/

namespace Sys2Proof.Machine

section
variable {x y z : Station} {s t u : State}

/-! ## The energisation of a trunk, under the work of the other station -/

theorem Uncut.of_none (h : s.hv.energ = none) : Uncut s x := fun _ he => nomatch h.symm.trans he

/-- An energisation that has entered its discharge is past every cut. -/
theorem uncut_enterDischarge (e : Energisation) (o : EnergOutcome) (s : State) : Uncut (enterDischarge e o s).1 x := by
  cases hot : s.hot e.trunk
  · rw [enterDischarge_cold o hot]
    exact Uncut.of_none rfl
  · rw [enterDischarge_hot o hot]
    rintro f hf -
    cases hf
    rfl

/-- The cut of a station's energisation leaves an uncut trunk so. -/
theorem Uncut.cutEnergisation (h : Uncut s x) (y : Station) (c : CutCause) : Uncut (cutEnergisation y c s).1 x := by
  unfold Machine.cutEnergisation
  split
  · split
    · split
      · exact Uncut.of_none rfl
      iterate 4 exact uncut_enterDischarge _ _ s
      · exact h
    · exact h
  · exact h

theorem Uncut.connectSource (h : Uncut s x) (hy : y ≠ x) : Uncut (connectSource y s) x := by
  unfold Machine.connectSource
  split
  · split
    · next own =>
      rintro f hf k
      cases hf
      exact absurd (own.1.symm.trans k) hy
    · exact h
  · exact h

theorem Uncut.leaveSettled (h : Uncut s x) (hy : y ≠ x) : Uncut (leaveSettled y s) x := by
  have cut := h.cutEnergisation y .trunk
  unfold Machine.leaveSettled
  generalize (Machine.cutEnergisation y .trunk s).1 = t at cut
  unfold cutAperture
  dsimp only
  split
  · split
    · exact Uncut.connectSource (s := t.setChannel y _) cut hy
    · exact cut
  · exact cut

theorem Uncut.arrive (h : Uncut s x) (hy : y ≠ x) (c : Configuration) : Uncut (arrive y c s).1 x := by
  have leaves : Uncut (if (s.trunk y).state = .settled then Machine.leaveSettled y s else s) x := by
    split
    · exact h.leaveSettled hy
    · exact h
  rcases arrive_cases y c s with e | e | e <;> rw [e]
  · rcases takeUp_cases y c s _ _ rfl rfl with ⟨-, e⟩ | ⟨-, -, e⟩ | ⟨-, -, -, e⟩ | ⟨-, -, -, -, e⟩ | ⟨-, -, -, -, e⟩ <;> rw [e] <;> exact leaves
  · exact h
  · exact h

theorem Uncut.stepMayGo (h : Uncut s x) (hy : y ≠ x) : Uncut (stepMayGo y s) x := by
  unfold Machine.stepMayGo handStep holdRead handConfig
  repeat' split
  · exact h
  · exact Uncut.arrive (s := (State.setBench _ y _).setBench y _) h hy _
  all_goals exact h

/-! ## A release while the station stands out of line -/

/-- Between s and t trunk, station and channel X stand as they stood, and an uncut trunk stays so. -/
structure Bystands (x : Station) (s t : State) : Prop where
  untouched : Untouched x s t
  uncut : Uncut s x → Uncut t x

theorem Bystands.refl (x : Station) (s : State) : Bystands x s s := ⟨.refl x s, id⟩

theorem Bystands.trans (h : Bystands x s t) (k : Bystands x t u) : Bystands x s u := ⟨h.untouched.trans k.untouched, fun c => k.uncut (h.uncut c)⟩

theorem bystands_lookForGrant (out : x ∉ s.hv.line) : Bystands x s (lookForGrant s) := by
  rcases lookForGrant_cases s with ⟨-, e⟩ | ⟨y, mem, -, e⟩ <;> rw [e]
  · exact .refl x s
  have hy : y ≠ x := fun h => out (h ▸ mem)
  have granted : Bystands x s (raise y.port srcHvGranted (s.setHv (s.hv.granted y))) := ⟨⟨rfl, rfl, rfl⟩, id⟩
  unfold grant
  dsimp only
  split
  · exact granted.trans ⟨(apart_stepMayGo y _).beside.untouched hy.symm, fun h => h.stepMayGo hy⟩
  · exact granted

theorem bystands_releaseHolder (out : x ∉ s.hv.line) : Bystands x s (releaseHolder s) := by
  rcases releaseHolder_cases s with ⟨-, e⟩ | ⟨-, -, e⟩ | ⟨y, held, off, -⟩
  · rw [e]
    exact .refl x s
  · rw [e]
    exact ⟨⟨rfl, rfl, rfl⟩, id⟩
  · rw [releaseHolder_off held off]
    have one : Bystands x s (released y s) := ⟨untouched_released x y s, fun h => by rwa [Uncut, released_hv]⟩
    exact one.trans (bystands_lookForGrant (by rwa [released_hv]))

theorem lookForGrant_line (out : x ∉ s.hv.line) : x ∉ (lookForGrant s).hv.line := by
  rcases lookForGrant_cases s with ⟨-, e⟩ | ⟨y, -, -, e⟩ <;> rw [e]
  · exact out
  · have line : (grant y s).hv.line = (s.hv.granted y).line := congrArg (fun v => v.2.1) (grant_lending y s)
    rw [line]
    exact fun mem => out (granted_line s.hv x y mem)

theorem releaseHolder_line (out : x ∉ s.hv.line) : x ∉ (releaseHolder s).hv.line := by
  rcases releaseHolder_cases s with ⟨-, e⟩ | ⟨-, -, e⟩ | ⟨y, held, off, -⟩
  · rwa [e]
  · rwa [e]
  · rw [releaseHolder_off held off]
    exact lookForGrant_line (by rwa [released_hv])

/-! ## The cut at a run end -/

/-- A cut reaches the channel of its trunk at most in the isolation. -/
theorem cutEnergisation_channel (x : Station) (c : CutCause) (s : State) :
    (∃ v, (cutEnergisation x c s).1.channel x = { s.channel x with state := v, isoPending := false }) ∨
    (cutEnergisation x c s).1.channel x = s.channel x := by
  have isolation (w : State) (k : w.channel x = s.channel x) : ∃ v, (leaveIsolation x w).channel x = { s.channel x with state := v, isoPending := false } :=
    ⟨_, by rw [leaveIsolation, State.setChannel_channel_same, k]⟩
  unfold cutEnergisation
  split
  · next e _ =>
    split
    · next hx =>
      subst hx
      have discharge (o : EnergOutcome) : (∃ v, (enterDischarge e o s).1.channel e.trunk = { s.channel e.trunk with state := v, isoPending := false }) ∨
          (enterDischarge e o s).1.channel e.trunk = s.channel e.trunk := by
        cases hot : s.hot e.trunk
        · rw [enterDischarge_cold o hot]
          exact .inl (isolation _ rfl)
        · rw [enterDischarge_hot o hot]
          exact .inr rfl
      split
      · exact .inl (isolation _ rfl)
      iterate 4 exact discharge _
      · exact .inr rfl
    · exact .inr rfl
  · exact .inr rfl

/-- After a cut the trunk is uncut. -/
theorem cutEnergisation_done (x : Station) (c : CutCause) (s : State) : Uncut (cutEnergisation x c s).1 x := by
  unfold cutEnergisation
  split
  · next e he =>
    split
    · split
      · exact Uncut.of_none rfl
      iterate 4 exact uncut_enterDischarge _ _ s
      · next stage =>
        rintro f hf -
        cases he.symm.trans hf
        exact stage
    · next other =>
      rintro f hf k
      cases he.symm.trans hf
      exact absurd k other
  · next none => exact Uncut.of_none none

/-- A run end at the HV unit, from the cut on: the station that left the line stands aside. -/
theorem bystands_endHolding (quiet : Bool) (h : (s.bench x).wait ≠ .energisation) :
    Bystands x (cutEnergisation x .runEnd (clearAsks x s)).1 (endHolding x quiet s) ∧
    (endHolding x quiet s).hv.asks x = false := by
  have cut := supplying_cutEnergisation x .runEnd (clearAsks x s)
  obtain ⟨told, kept⟩ := cutEnergisation_told x .runEnd (clearAsks x s)
  have line : (cutEnergisation x .runEnd (clearAsks x s)).1.hv.line = (s.hv.clearAsks x).line := congrArg (fun v => v.2.1) cut.lending
  have out : x ∉ (cutEnergisation x .runEnd (clearAsks x s)).1.hv.line := by
    rw [line]
    exact clearAsks_line s.hv x
  have asks : (cutEnergisation x .runEnd (clearAsks x s)).1.hv.asks x = false :=
    (Hv.asks_of_lending cut.lending x).trans (Hv.asks_clearAsks s.hv x)
  have wait : ((cutEnergisation x .runEnd (clearAsks x s)).1.bench x).wait ≠ .energisation := by rwa [kept]
  unfold endHolding
  generalize cutEnergisation x .runEnd (clearAsks x s) = r at *
  have released (w : State) (lw : x ∉ w.hv.line) (aw : w.hv.asks x = false) :
      Bystands x w (releaseHolder w) ∧ x ∉ (releaseHolder w).hv.line ∧ (releaseHolder w).hv.asks x = false :=
    ⟨bystands_releaseHolder lw, releaseHolder_line lw, releaseHolder_asks aw⟩
  have tell : Bystands x r.1 (tellEngine r) ∧ x ∉ (tellEngine r).hv.line ∧ (tellEngine r).hv.asks x = false := by
    unfold tellEngine
    rcases told with e | ⟨v, e⟩ <;> rw [e]
    · exact ⟨.refl x _, out, asks⟩
    · dsimp only
      rw [stepResult_idle wait]
      unfold releaseIfDue
      split
      · exact released _ out asks
      · exact ⟨.refl x _, out, asks⟩
  obtain ⟨stands, out, asks⟩ := tell
  dsimp only
  split
  · obtain ⟨b, -, a⟩ := released ((tellEngine r).setHv
      { (tellEngine r).hv with reserved := false, holderStep := false, holdTimer := none, quiet := (tellEngine r).hv.quiet || quiet }) out asks
    have one : Bystands x (tellEngine r) ((tellEngine r).setHv
      { (tellEngine r).hv with reserved := false, holderStep := false, holdTimer := none, quiet := (tellEngine r).hv.quiet || quiet }) :=
      ⟨⟨rfl, rfl, rfl⟩, id⟩
    exact ⟨(stands.trans one).trans b, a⟩
  · exact ⟨stands, asks⟩

/-! ## The run (R78) -/

/-- Between s and t the run of station X has been ended by its reset, and has left the check. -/
structure RunReset (x : Station) (s t : State) : Prop where
  hv : t.hv = s.hv
  matrix : t.matrix = s.matrix
  channels : t.channels = s.channels
  store : t.store = { s.store with joined := s.store.joined.filter (fun y => decide (y ≠ x)) }
  ports : t.ports = s.ports
  printer : t.printer = s.printer
  units : ∀ p, RaisedFrom (s.unit p) (t.unit p)
  supervisor : Notified s t .ps (srcRunEndedOf x)
  wait : (t.bench x).wait = .nothing
  books : (t.bench x).nextSerial = (s.bench x).nextSerial ∧ (t.bench x).policy = (s.bench x).policy
  closed : (s.bench x).run = .noRun ∨ (s.bench x).record.isSome = true → (t.bench x).run = .noRun
  run : ∀ r, (s.bench x).record = some r →
    t.bench x = ((s.bench x).ended r .stationReset .incomplete).banked r.bank .kept

theorem runReset_resetRun (x : Station) (s : State) : RunReset x s (resetRun x (leaveCheck x s)) := by
  unfold resetRun
  split
  · next r hr =>
    have h := runOver_endRun x r .stationReset .incomplete (leaveCheck x s)
    have bench := h.bench
    exact ⟨h.hv, h.matrix, h.channels, h.store, h.ports, h.printer rfl, h.units, h.supervisor, by rw [bench]; rfl,
      by rw [bench]; exact ⟨rfl, rfl⟩, fun _ => by rw [bench]; rfl, fun k hk => by
        cases hr.symm.trans hk
        exact bench⟩
  · next hr =>
    have raised := worked_raise .ps (srcRunEndedOf x) ((leaveCheck x s).setBench x { (leaveCheck x s).bench x with wait := .nothing })
    have bench : (raise .ps (srcRunEndedOf x) ((leaveCheck x s).setBench x { (leaveCheck x s).bench x with wait := .nothing })).bench x =
        { s.bench x with wait := .nothing } := State.setBench_bench_same _ _ _
    refine ⟨rfl, rfl, rfl, rfl, rfl, rfl, raised.units, notified_raise .ps _ _ (by cases x <;> decide), by rw [bench],
      by rw [bench]; exact ⟨rfl, rfl⟩, fun open_ => ?_, fun k hk => nomatch hr.symm.trans hk⟩
    rw [bench]
    rcases open_ with h | h
    · exact h
    · exact absurd h (by rw [show (s.bench x).record = none from hr]; decide)

/-! ## The trunk (R16, log 22) -/

/-- A trunk with nothing to cut leaves SETTLED silently. -/
theorem leaveSettled_quiet (uncut : Uncut s x) (quiet : (s.channel x).state ≠ .measuring) : leaveSettled x s = s := by
  rw [leaveSettled, cutEnergisation_uncut uncut]
  exact if_neg quiet

/-- The state in which the trunk's waiting configuration and request are gone. -/
def unasked (x : Station) (s : State) : State := withdrawLoad x (s.setTrunk x { s.trunk x with waiting := none })

theorem unasked_trunk (x : Station) (s : State) : (unasked x s).trunk x = { s.trunk x with waiting := none } :=
  State.setTrunk_trunk_same s x _

theorem unasked_relays (x : Station) (s : State) : trunkRelays (unasked x s) x = trunkRelays s x := by
  simp only [trunkRelays, unasked, withdrawLoad, State.window, State.setMatrix_matrix, State.setTrunk_matrix, Matrix.known]

theorem stationResetTrunk_eq (x : Station) (s : State) :
    stationResetTrunk x s =
      if (s.trunk x).part = .deviceAllOpen ∨ restsOpen s x = true then s.setTrunk x { s.trunk x with waiting := none }
      else if ownLoadRuns s x then
        (left x (unasked x s)).setTrunk x { s.trunk x with
          waiting := none
          state := if s.hot x then .guarded else .opening
          config := some .empty
          target := .allOpen
          part := .earlierLoad
          settleTimer := none }
      else (takeUp x .empty (unasked x s)).1 := by
  have own : ownLoadRuns (unasked x s) x = ownLoadRuns s x := rfl
  have settled : (if (s.trunk x).state = .settled then leaveSettled x (unasked x s) else unasked x s) = left x (unasked x s) := by
    rw [left, unasked_trunk]
  unfold stationResetTrunk
  dsimp only
  rw [show withdrawLoad x (s.setTrunk x { s.trunk x with waiting := none }) = unasked x s from rfl, own, settled, left_trunk, left_hot,
    unasked_trunk]
  rfl

/-- Where nothing is to be cut, the reset of a trunk reaches the matrix alone. -/
theorem stationResetTrunk_quiet (uncut : Uncut s x) (quiet : (s.channel x).state ≠ .measuring) :
    (stationResetTrunk x s).hv = s.hv ∧ (stationResetTrunk x s).channels = s.channels ∧ (stationResetTrunk x s).benches = s.benches := by
  have silent : left x (unasked x s) = unasked x s := by
    unfold left
    split
    · exact leaveSettled_quiet (s := unasked x s) uncut quiet
    · rfl
  have same : (unasked x s).hv = s.hv ∧ (unasked x s).channels = s.channels ∧ (unasked x s).benches = s.benches := ⟨rfl, rfl, rfl⟩
  rw [stationResetTrunk_eq]
  generalize unasked x s = w at silent same
  split
  · exact ⟨rfl, rfl, rfl⟩
  · split
    · rw [silent]
      exact same
    · rcases takeUp_cases x .empty w _ _ rfl rfl with ⟨-, e⟩ | ⟨-, -, e⟩ | ⟨-, -, -, e⟩ | ⟨-, -, -, -, e⟩ | ⟨-, -, -, -, e⟩ <;>
        rw [e, show (if (w.trunk x).state = .settled then leaveSettled x w else w) = w from silent] <;> exact same

/-- What a station reset makes of the trunk of its station. -/
def TrunkReset (s t : State) (x : Station) : Prop :=
  (t.trunk x).waiting = none ∧
  ((s.trunk x).state = .idle → ¬ Closed s x → ownLoadRuns s x = false → t.trunk x = { s.trunk x with waiting := none }) ∧
  ((s.trunk x).part = .deviceAllOpen → t.trunk x = { s.trunk x with waiting := none }) ∧
  ((s.trunk x).state ≠ .idle ∨ Closed s x ∨ ownLoadRuns s x = true → (s.trunk x).part ≠ .deviceAllOpen →
    (s.hot x = true → (t.trunk x).state = .guarded) ∧
    (s.hot x = false → Closed s x ∨ ownLoadRuns s x = true → (t.trunk x).state = .opening) ∧
    (ownLoadRuns s x = true → (t.trunk x).part = .earlierLoad) ∧
    (s.hot x = true ∨ Closed s x ∨ ownLoadRuns s x = true → (t.trunk x).config = some .empty ∧ (t.trunk x).target = .allOpen) ∧
    (s.hot x = false → ¬ Closed s x → ownLoadRuns s x = false → (t.trunk x).state = .idle ∧ (t.trunk x).config = none))

theorem restsOpen_iff (s : State) (x : Station) :
    restsOpen s x = true ↔ (s.trunk x).state = .idle ∧ ownLoadRuns s x = false ∧ ¬ Closed s x := by
  simp [restsOpen, Closed, and_assoc]

theorem trunkReset_stationResetTrunk (x : Station) (s : State) : TrunkReset s (stationResetTrunk x s) x := by
  rw [stationResetTrunk_eq]
  by_cases rests : (s.trunk x).part = .deviceAllOpen ∨ restsOpen s x = true
  · rw [if_pos rests]
    have same : (s.setTrunk x { s.trunk x with waiting := none }).trunk x = { s.trunk x with waiting := none } := State.setTrunk_trunk_same _ _ _
    refine ⟨by rw [same], fun _ _ _ => same, fun _ => same, fun busy part => ?_⟩
    obtain ⟨idle, own, opened⟩ := (restsOpen_iff s x).mp (rests.resolve_left part)
    rcases busy with h | h | h
    · exact absurd idle h
    · exact absurd h opened
    · exact absurd h (by rw [own]; decide)
  rw [if_neg rests]
  obtain ⟨part, busy⟩ := not_or.mp rests
  rw [restsOpen_iff] at busy
  have cleared : (unasked x s).trunk x = { s.trunk x with waiting := none } := unasked_trunk x s
  have relays := unasked_relays x s
  have sameHot : (unasked x s).hot x = s.hot x := rfl
  cases own : ownLoadRuns s x
  · rw [if_neg Bool.false_ne_true]
    generalize unasked x s = w at cleared relays sameHot ⊢
    have empty : targetOf (w.window x) .empty = .allOpen := targetOf_empty _
    cases hot : s.hot x
    · by_cases closed : Closed s x
      · have opens : (trunkRelays w x).opensSome (targetOf (w.window x) .empty) = true := by rwa [empty, relays]
        have took := takeUp_opens (c := .empty) (sameHot.trans hot) opens
        have same : ((takeUp x .empty w).1).trunk x = { takingUp x .empty w with state := .opening } := by
          rw [took, requestLoad_trunk, State.setTrunk_trunk_same]
        rw [TrunkReset, same, own, hot]
        refine ⟨by rw [takingUp, cleared], fun _ n => absurd closed n, fun h => absurd h part, fun _ _ => ⟨nofun, fun _ _ => rfl, nofun,
          fun _ => ⟨rfl, empty⟩, fun _ n => absurd closed n⟩⟩
      · have took := takeUp_done (s := w) (x := x) .empty ((doneAtOnce_empty _ _).mpr ⟨sameHot.trans hot, by rwa [Closed, relays]⟩)
        have same : ((takeUp x .empty w).1).trunk x = (takingUp x .empty w).rest := by
          rw [took, State.setTrunk_trunk_same]
        rw [TrunkReset, same, own, hot]
        refine ⟨by rw [takingUp, cleared]; rfl, fun idle n _ => absurd ⟨idle, own, n⟩ busy, fun h => absurd h part, fun _ _ => ⟨nofun,
          fun _ h => ?_, nofun, fun h => ?_, fun _ _ _ => ⟨rfl, rfl⟩⟩⟩
        · exact absurd (h.resolve_right nofun) closed
        · exact absurd ((h.resolve_left nofun).resolve_right nofun) closed
    · have took := takeUp_hot (s := w) (x := x) .empty (sameHot.trans hot)
      have same : ((takeUp x .empty w).1).trunk x = { takingUp x .empty w with state := .guarded } := by
        rw [took, State.setTrunk_trunk_same]
      rw [TrunkReset, same, own, hot]
      exact ⟨by rw [takingUp, cleared], fun idle n _ => absurd ⟨idle, own, n⟩ busy, fun h => absurd h part, fun _ _ => ⟨fun _ => rfl, nofun, nofun,
        fun _ => ⟨rfl, empty⟩, nofun⟩⟩
  · rw [if_pos rfl, TrunkReset, State.setTrunk_trunk_same, own]
    refine ⟨rfl, nofun, fun h => absurd h part, fun _ _ => ⟨fun hot => by rw [hot]; rfl, fun cold _ => by rw [cold]; rfl, fun _ => rfl,
      fun _ => ⟨rfl, rfl⟩, nofun⟩⟩

/-! ## The source (R133) -/

theorem clearAsks_of_empty (x : Station) {h : Hv} (line : h.line = []) :
    h.clearAsks x = { h with stepAsk := h.stepAsk.set x false, reserveAsk := h.reserveAsk.set x false } := by
  have parted : (h.clearAsks x).line = h.line := by rw [clearAsks_line_eq, line, List.filter_nil]
  exact Hv.eq_of_parts (congrArg (fun l => ((h.holder, h.releasePending, h.quiet, h.reserved, h.stepAsk.set x false, h.reserveAsk.set x false),
    l, h.string, h.holdTimer, h.holderStep)) parted) rfl rfl

/-- An idle holding with nobody in line is released (R133). -/
theorem endHolding_alone (quiet : Bool) (uncut : Uncut s x) (held : s.hv.holder = some x) (off : s.hv.sw = .off) (line : s.hv.line = []) :
    (endHolding x quiet s).hv = { s.hv with
      stepAsk := s.hv.stepAsk.set x false, reserveAsk := s.hv.reserveAsk.set x false, holder := none, reserved := false,
      releasePending := false, quiet := false, holdTimer := none, holderStep := false } := by
  have gone : (s.hv.givenUp x quiet).line = [] := by
    show (s.hv.clearAsks x).line = []
    rw [clearAsks_line_eq, line, List.filter_nil]
  rw [endHolding_holder quiet uncut held, releaseHolder_nobody (s := s.setHv (s.hv.givenUp x quiet)) held off (Hv.next_of_empty gone),
    released_hv]
  show (s.hv.givenUp x quiet).released = _
  rw [Hv.givenUp, clearAsks_of_empty x line]
  rfl

/-- An energisation of the holder on its hot trunk goes through its discharge, with the release pending (R128, R133). -/
theorem endHolding_discharges {e : Energisation} (quiet : Bool) (he : s.hv.energ = some e) (held : s.hv.holder = some e.trunk)
    (sw : s.hv.sw = .to e.trunk) (hot : s.hot e.trunk = true) (stage : e.stage ≠ .isolating) :
    (endHolding e.trunk quiet s).hv.source = (if e.stage = .discharging then s.hv.source else .discharging) ∧
    (endHolding e.trunk quiet s).hv.path = (if e.stage = .discharging then s.hv.path else true) ∧
    (endHolding e.trunk quiet s).hv.energ = some { e with
      stage := .discharging, outcome := if e.stage = .discharging then e.outcome else some (e.outcome.getD (.cut .runEnd)) } ∧
    (endHolding e.trunk quiet s).hv.holder = some e.trunk ∧ (endHolding e.trunk quiet s).hv.reserved = false ∧
    (endHolding e.trunk quiet s).hv.releasePending = true ∧ (endHolding e.trunk quiet s).hv.quiet = (s.hv.quiet || quiet) := by
  by_cases discharging : e.stage = .discharging
  · have uncut : Uncut s e.trunk := fun f hf _ => by
      cases he.symm.trans hf
      exact discharging
    have same : s.hv.energ = some { e with stage := .discharging } := by rw [he, ← discharging]
    rw [endHolding_pends quiet uncut held (by rw [sw]; nofun), if_pos discharging, if_pos discharging, if_pos discharging]
    exact ⟨rfl, rfl, same, held, rfl, rfl, rfl⟩
  · have live : e.stage = .connecting ∨ e.stage = .ramping ∨ e.stage = .dwelling ∨ e.stage = .sampling := by
      cases h : e.stage <;> simp_all
    have cut := cutEnergisation_hot (s := clearAsks e.trunk s) .runEnd he live hot
    rw [if_neg discharging, if_neg discharging, if_neg discharging]
    have eq : endHolding e.trunk quiet s = (clearAsks e.trunk s).setHv { (s.hv.clearAsks e.trunk).discharging e (e.settle (.cut .runEnd)) with
        reserved := false, holderStep := false, holdTimer := none, quiet := s.hv.quiet || quiet, releasePending := true } := by
      unfold endHolding
      rw [cut, tellEngine_none]
      generalize hw : (clearAsks e.trunk s).setHv ((clearAsks e.trunk s).hv.discharging e (e.settle (.cut .runEnd))) = w
      have held' : w.hv.holder = some e.trunk := by rw [← hw]; exact held
      have sw' : w.hv.sw = .to e.trunk := by rw [← hw]; exact sw
      dsimp only
      rw [if_pos held', releaseHolder_pending
        (s := w.setHv { w.hv with reserved := false, holderStep := false, holdTimer := none, quiet := w.hv.quiet || quiet }) held'
        (by show w.hv.sw ≠ .off; rw [sw']; nofun), ← hw]
      rfl
    rw [eq]
    exact ⟨rfl, rfl, rfl, held, rfl, rfl, rfl⟩

/-! ## The reset as a whole -/

/-- The state in which run and holding of the station are reset. -/
def runReset (x : Station) (s : State) : State := endHolding x true (resetRun x (leaveCheck x s))

/-- The channel after a station reset (R59). -/
def Channel.stationReset (c : Channel) : Channel :=
  { c with
    state := if c.state = .isolated then .isolated else .idle
    lastResult := if c.inHand.isSome then some (.notTaken .cut) else c.lastResult
    inHand := none
    isoPending := false }

theorem stationResetChannel_eq (x : Station) (s : State) : stationResetChannel x s = s.setChannel x (s.channel x).stationReset := by
  unfold stationResetChannel Channel.stationReset
  by_cases h : (s.channel x).inHand.isSome = true
  · simp only [if_pos h]
  · simp only [if_neg h]

theorem Channel.stationReset_state (c : Channel) : c.stationReset.state = .idle ∨ c.stationReset.state = .isolated := by
  unfold Channel.stationReset
  dsimp only
  split
  · exact .inr rfl
  · exact .inl rfl

/-- Run, station and source of the reset station, once its holding is reset. -/
structure HoldingReset (x : Station) (s t : State) : Prop where
  run : ∃ u, RunReset x s u ∧ t.bench x = u.bench x ∧ t = endHolding x true u
  trunk : t.trunk x = s.trunk x
  own : ownLoadRuns t x = ownLoadRuns s x
  ground : t.matrix.ground = s.matrix.ground
  asks : t.hv.asks x = false
  uncut : Uncut t x
  channel : (∃ v, t.channel x = { s.channel x with state := v, isoPending := false }) ∨ t.channel x = s.channel x
  spared : Uncut s x → t.channel x = s.channel x

theorem holdingReset_runReset (served : ChainServed s) : HoldingReset x s (runReset x s) := by
  have run := runReset_resetRun x s
  have shown : runReset x s = endHolding x true (resetRun x (leaveCheck x s)) := rfl
  generalize resetRun x (leaveCheck x s) = u at run shown
  have wait : (u.bench x).wait ≠ .energisation := by rw [run.wait]; nofun
  obtain ⟨stands, asks⟩ := bystands_endHolding true wait
  have aside := aside_endHolding true (x := x) (s := u) (by rwa [ChainServed, run.matrix]) wait
  have channel : u.channel x = s.channel x := by rw [State.channel, run.channels]; rfl
  rw [shown]
  refine ⟨⟨u, run, ?_, rfl⟩, ?_, ?_, ?_, asks, stands.uncut (cutEnergisation_done x _ _), ?_, fun uncut => ?_⟩
  · exact stands.untouched.bench.trans ((cutEnergisation_told x .runEnd (clearAsks x u)).2 x)
  · exact aside.trunk.trans (by rw [State.trunk, run.matrix]; rfl)
  · exact aside.own.trans (by rw [ownLoadRuns, run.matrix]; rfl)
  · exact aside.ground.trans (by rw [run.matrix])
  · have reached := cutEnergisation_channel x .runEnd (clearAsks x u)
    rw [show (clearAsks x u).channel x = s.channel x from channel] at reached
    rwa [stands.untouched.channel]
  · have kept : Uncut (clearAsks x u) x := Uncut.of_hv (s := s) (t := u) uncut run.hv
    rw [stands.untouched.channel, cutEnergisation_uncut kept]
    exact channel

theorem TrunkReset.of_same (h : TrunkReset u t x) (trunk : u.trunk x = s.trunk x) (own : ownLoadRuns u x = ownLoadRuns s x)
    (ground : u.matrix.ground = s.matrix.ground) : TrunkReset s t x := by
  simp only [Matrix.ground, Prod.mk.injEq] at ground
  obtain ⟨-, image, -, -, windows, hots, -⟩ := ground
  have hot : u.hot x = s.hot x := by simp only [State.hot, hots]
  have relays : trunkRelays u x = trunkRelays s x := by simp only [trunkRelays, Matrix.known, State.window, image, windows]
  have closed : Closed u x = Closed s x := by rw [Closed, relays]
  unfold TrunkReset at h ⊢
  rwa [trunk, own, hot, closed] at h

/-- The attention unit, the port and the blocks around: what a station reset leaves after its trunk. -/
theorem takeStationReset_eq (x : Station) (s : State) :
    takeStationReset x.port x s =
      let w := stationResetTrunk x ((runReset x s).setChannel x ((runReset x s).channel x).stationReset)
      resetResponse x.port 0x33 .ok (s.port x.port).losing (w.setUnit x.port ((w.unit x.port).stationReset w.store.active)) := by
  show resetResponse x.port 0x33 .ok (s.port x.port).losing (stationReset x s) = _
  rw [stationReset, stationResetChannel_eq]
  rfl

/-- Settles O37: block by block, from `runReset_resetRun`, the reset of the holding, and that of the trunk. -/
theorem stationResetActs : Obligations.StationResetActs := fun s x running open_ served => by
  have acts := exec_stationReset x running
  refine ⟨_, acts, ?_⟩
  have windows : (takeStationReset x.port x (ended x.port s)).matrix.windows = s.matrix.windows := stationReset_windows x (ended x.port s)
  have settle : ((takeStationReset x.port x (ended x.port s)).trunk x).settleTime = (s.trunk x).settleTime :=
    settleTime_stationReset x x (ended x.port s)
  have cause : (takeStationReset x.port x (ended x.port s)).cause = s.cause :=
    (exec_window_cause acts nofun nofun).1.resolve_right (by rintro (h | ⟨bytes, h⟩) <;> cases h)
  rw [takeStationReset_eq] at windows settle cause ⊢
  obtain ⟨⟨u, run, bench, shown⟩, trunk, own, ground, asks, uncut, channel, spared⟩ :=
    holdingReset_runReset (x := x) (s := ended x.port s) served
  have work : Worked u (runReset x (ended x.port s)) := shown ▸ worked_endHolding x true u
  generalize runReset x (ended x.port s) = v at *
  have quiet : ((v.setChannel x (v.channel x).stationReset).channel x).state ≠ .measuring := by
    rw [State.setChannel_channel_same]
    rcases (v.channel x).stationReset_state with h | h <;> rw [h] <;> nofun
  obtain ⟨hv, channels, benches⟩ := stationResetTrunk_quiet (s := v.setChannel x (v.channel x).stationReset) uncut quiet
  have reset := (trunkReset_stationResetTrunk x (v.setChannel x (v.channel x).stationReset)).of_same (s := s) trunk own ground
  have all := work.trans ((worked_setChannel v x _).trans (worked_stationResetTrunk x (v.setChannel x (v.channel x).stationReset)))
  generalize stationResetTrunk x (v.setChannel x (v.channel x).stationReset) = w at *
  have mine : w.channel x = (v.channel x).stationReset := by rw [State.channel, channels]; exact State.setChannel_channel_same _ _ _
  have station : w.bench x = u.bench x := by rw [State.bench, benches]; exact bench
  have source : w.hv = v.hv := hv
  obtain ⟨levels, -, base, -⟩ := (run.units x.port).trans (all.units x.port)
  obtain ⟨waiting, rests, device, moves⟩ := reset
  refine ⟨?_, ?_, all.store.trans run.store, all.printer.trans run.printer, windows, ?_, cause, ?_, ?_, ?_, ?_, ?_, ?_, waiting, settle, rests,
    device, moves, fun held off none line => ?_, fun e he hx held sw hot stage => ?_, ?_, ?_, ?_, ?_, ?_, fun r hr => ?_⟩
  · have port : w.port x.port = (s.port x.port).endPeriod := by
      rw [State.port, all.ports, run.ports]
      exact State.setPort_port_same s x.port _
    have before : (ended x.port s).port x.port = (s.port x.port).endPeriod := State.setPort_port_same s x.port _
    refine (State.setPort_port_same _ _ _).trans ?_
    rw [State.setUnit_port, port, before]
    rfl
  · refine (State.setUnit_unit_same w x.port _).trans ?_
    rw [Attention.stationReset, levels, base, all.store, run.store]
    rfl
  · exact all.matrixState.trans (congrArg Matrix.state run.matrix)
  · show w.hv.asks x = false
    rw [source, asks]
  · exact congrArg Channel.inHand mine
  · exact congrArg Channel.isoPending mine
  · show (w.channel x).state = _ ∨ (w.channel x).state = _
    rw [mine]
    exact (v.channel x).stationReset_state
  · intro busy
    have inHand : (v.channel x).inHand = (s.channel x).inHand := by
      rcases channel with ⟨k, e⟩ | e <;> rw [e] <;> rfl
    refine (congrArg Channel.lastResult mine).trans ?_
    rw [Channel.stationReset, inHand, if_pos busy]
  · intro away
    refine (congrArg Channel.state mine).trans ?_
    rw [spared fun e he hx => absurd hx (away e he)]
    rfl
  · show w.hv = _
    have alone := endHolding_alone true (x := x) (s := u) (Uncut.of_none (by rw [run.hv]; exact none)) (by rw [run.hv]; exact held) (by rw [run.hv]; exact off) (by rw [run.hv]; exact line)
    rw [source, shown, alone, run.hv]
    rfl
  · subst hx
    have cut := endHolding_discharges true (s := u) (e := e) (by rw [run.hv]; exact he) (by rw [run.hv]; exact held) (by rw [run.hv]; exact sw) (by rw [State.hot, run.matrix]; exact hot) stage
    rw [← shown, ← source, run.hv] at cut
    obtain ⟨src, path, energ, holder, reserved, due, silent⟩ := cut
    exact ⟨src, path, energ, holder, reserved, due, silent.trans (Bool.or_true _)⟩
  · exact (congrArg Bench.nextSerial station).trans run.books.1
  · exact (congrArg Bench.policy station).trans run.books.2
  · exact (congrArg Bench.run station).trans (run.closed (or_iff_not_imp_left.mpr open_))
  · exact (congrArg Bench.wait station).trans run.wait
  · have raised : Notified s w .ps (srcRunEndedOf x) := run.supervisor.worked all
    intro on
    have other : (w.setUnit x.port ((w.unit x.port).stationReset w.store.active)).unit .ps = w.unit .ps :=
      State.setUnit_unit_ne _ _ _ (by cases x <;> nofun)
    refine (congrArg (fun v : Attention => v.pending.getLsbD (srcRunEndedOf x)) other).trans (raised on)
  · have closed := station.trans (run.run r hr)
    refine ⟨congrArg Bench.record closed, congrArg Bench.sweep closed, congrArg Bench.step closed, congrArg Bench.queued closed,
      congrArg Bench.locator closed, congrArg Bench.counters closed, congrArg Bench.summary closed, ?_⟩
    refine (congrArg (fun b : Bench => (b.banks.get r.bank).state) closed).trans ?_
    rw [Bench.banked, Banks.get_set_same]

end

end Sys2Proof.Machine

/-! The end of an aperture, and the end of a sweep (R50 to R53, R68, R73). -/

namespace Sys2Proof.Machine

section
variable {x y : Station} {s t : State} {w : Sweep} {code : Word16} {v : MeasResult}

/-! ## The end of an aperture -/

/-- The channel with its measurement ended by the end of an aperture with a code (R45, R46, R52). -/
def Channel.measured (c : Channel) (code : Word16) (v : MeasResult) : Channel :=
  { c with
    state := .idle, lastCode := some code, lastRaw := some (rawResistance code.toNat c.range), inHand := none, lastResult := some v }

theorem setChannel_setChannel (s : State) (x : Station) (c d : Channel) : (s.setChannel x c).setChannel x d = s.setChannel x d := by
  cases x <;> rfl

theorem isolatePending_none (h : (s.channel x).isoPending = false) : isolatePending x s = s := by
  simp [isolatePending, h]

/-- The channel whose final aperture is in, with its offsets still to come (R51). -/
def Channel.compensating (c : Channel) (code : Word16) : Channel :=
  { c with state := .compensating, lastCode := some code, lastRaw := some (rawResistance code.toNat c.range) }

/-- A pair measurement whose final aperture is in ends with its compensated value where no check holds up its offsets (R51). -/
theorem compensate_ends {p q k raw : Nat} (done : (s.channel x).state ≠ .measuring) (open_ : s.store.state ≠ .checking)
    (hand : (s.channel x).inHand = some (.pair p q k)) (last : (s.channel x).lastRaw = some raw) :
    compensate x s =
      (s.setChannel x ((s.channel x).finish
          (.pairValue (raw - offsetOf s.store.words p - offsetOf s.store.words q) (s.channel x).range)),
        some (.pairValue (raw - offsetOf s.store.words p - offsetOf s.store.words q) (s.channel x).range)) := by
  have free : checking s = false := decide_eq_false open_
  unfold compensate
  dsimp only
  rw [if_neg (by rw [free]; rintro (h | h); exacts [done h, nomatch h])]
  simp only [hand, last]
  rfl

/-- What the end of an aperture makes of the channel and answers, where no isolation is pending. -/
theorem endAperture_eq (measuring : (s.channel x).state = .measuring) (alone : (s.channel x).isoPending = false) :
    endAperture x code s =
      if ((s.channel x).apertureEnd code).2 = none then compensate x (s.setChannel x ((s.channel x).apertureEnd code).1)
      else (s.setChannel x ((s.channel x).apertureEnd code).1, ((s.channel x).apertureEnd code).2) := by
  have kept : ((s.channel x).apertureEnd code).1.isoPending = false := by
    unfold Channel.apertureEnd Channel.finish
    dsimp only
    repeat' split
    all_goals exact alone
  have still : isolatePending x (s.setChannel x ((s.channel x).apertureEnd code).1) = s.setChannel x ((s.channel x).apertureEnd code).1 :=
    isolatePending_none (by rwa [State.setChannel_channel_same])
  unfold endAperture
  dsimp only
  rw [if_pos measuring, still]
  cases h : ((s.channel x).apertureEnd code).2 with
  | none => rw [if_pos rfl]
  | some v => rw [if_neg nofun]

/-- An aperture that ends its measurement leaves the channel IDLE, and hands the result on (R50 to R53). -/
theorem endAperture_ends (measuring : (s.channel x).state = .measuring) (alone : (s.channel x).isoPending = false)
    (h : apertureResult s x code = some v) :
    endAperture x code s = (s.setChannel x ((s.channel x).measured code v), some v) := by
  have overRange : Config.overRange = 65520 := rfl
  have stepDown : Config.stepDown = 60000 := rfl
  have busy : (s.channel x).state ≠ .isolated := by rw [measuring]; nofun
  rw [endAperture_eq measuring alone]
  unfold apertureResult at h
  split at h
  · next p q k hand =>
    split at h
    · cases h
    next going =>
    split at h
    · next saturated =>
      cases h
      have ended : (s.channel x).apertureEnd code = ((s.channel x).measured code .openWire, some .openWire) := by
        simp only [Channel.apertureEnd, hand, stepDown, overRange, if_neg going, if_pos saturated, Channel.finish, if_neg busy,
          Channel.measured]
      rw [ended, if_neg nofun]
    · next fits =>
      split at h
      · cases h
      next open_ =>
      cases h
      have ended : (s.channel x).apertureEnd code =
          ({ s.channel x with
              lastCode := some code, lastRaw := some (rawResistance code.toNat (s.channel x).range), state := .compensating }, none) := by
        simp only [Channel.apertureEnd, hand, stepDown, overRange, if_neg going, if_neg fits]
      have pending : (s.channel x).compensating code =
          { s.channel x with
            lastCode := some code, lastRaw := some (rawResistance code.toNat (s.channel x).range), state := .compensating } := rfl
      rw [ended, if_pos rfl, ← pending]
      have channel : (s.setChannel x ((s.channel x).compensating code)).channel x = (s.channel x).compensating code :=
        State.setChannel_channel_same _ _ _
      rw [compensate_ends (s := s.setChannel x ((s.channel x).compensating code)) (by rw [channel]; nofun) open_ (by rw [channel]; exact hand)
        (by rw [channel]; rfl), channel, setChannel_setChannel]
      rfl
  · next th hand =>
    cases h
    have ended : (s.channel x).apertureEnd code =
        ((s.channel x).measured code (groupResult code.toNat th), some (groupResult code.toNat th)) := by
      simp only [Channel.apertureEnd, hand, Channel.finish, if_neg busy, Channel.measured]
    rw [ended, if_neg nofun]
  · cases h

/-- A result of an aperture is never one of a measurement that was not taken. -/
theorem apertureResult_completes (h : apertureResult s x code = some v) (why : NotTakenReason) : v ≠ .notTaken why := by
  unfold apertureResult groupResult at h
  repeat' split at h
  all_goals cases h
  all_goals nofun

/-- The end of an aperture that ends its measurement, as a step of the part. -/
theorem exec_apertureEnd (running : s.inReset = false) (measuring : (s.channel x).state = .measuring)
    (alone : (s.channel x).isoPending = false) (h : apertureResult s x code = some v) :
    exec (.apertureEnd x code) s = .next (onMeasured x v (s.setChannel x ((s.channel x).measured code v))) := by
  refine (next_running (fun t => tellChannel x (endAperture x code t)) running).trans ?_
  rw [endAperture_ends measuring alone h]
  rfl

/-- A completed measurement of a sweep is counted, and settled unless an ABORT takes it (R73, R81). -/
theorem onMeasured_completes (sweep : (s.bench x).sweep = some w) (run : (s.bench x).run = .continuity) (wait : (s.bench x).wait = .channel)
    (h : ∀ why, v ≠ .notTaken why) :
    onMeasured x v s =
      if aborting s x then endSweep x .cutShort (setSweep x (w.counted (s.bench x).locator) s)
      else settleMeasured x (w.counted (s.bench x).locator) v s := by
  unfold onMeasured
  dsimp only
  simp only [sweep]
  rw [if_pos ⟨run, wait⟩]
  cases v with
  | notTaken why => exact absurd rfl (h why)
  | pairValue _ _ => rfl
  | openWire => rfl
  | clean _ => rfl
  | fail _ => rfl
  | discarded => rfl

theorem aborting_eq {r : RunRecord} (record : (s.bench x).record = some r) : aborting s x = r.abortPending := by
  simp [aborting, record]

/-! ## The end of a sweep (R68) -/

/-- A station whose sweep has ended with a continuity status (R73, R92, R109). -/
def Bench.swept (b : Bench) (c : Continuity) : Bench :=
  { b with
    sweep := b.sweep.map (fun w => { w with held := [], retest := false })
    locator := []
    record := b.record.map (fun r => { r with continuity := c, abortPending := false }) }

theorem endSweep_eq (x : Station) (c : Continuity) (s : State) : endSweep x c s = handEmpty x (s.setBench x ((s.bench x).swept c)) := rfl

/-- Where the trunk is closed, a sweep that ends waits for the empty configuration. -/
theorem endSweep_bench (c : Continuity) (closed : Closed s x) : (endSweep x c s).bench x = ((s.bench x).swept c).clearing := by
  rw [endSweep_eq, handEmpty_bench_same, State.setBench_bench_same]
  exact arrive_empty_pending (s := (s.setBench x ((s.bench x).swept c)).setBench x _) (.inl closed)

theorem sweepEnded_swept {b : Bench} {r : RunRecord} (c : Continuity) (run : b.run = .continuity) (record : b.record = some r)
    (sweep : b.sweep.isSome = true) : SweepEnded (b.swept c).clearing r c := by
  obtain ⟨w, hw⟩ := Option.isSome_iff_exists.mp sweep
  refine ⟨run, ?_, rfl, rfl, rfl, ?_⟩
  · exact congrArg (Option.map _) record
  · exact (congrArg (fun o : Option Sweep => (o.map (fun w => { w with held := [], retest := false })).map (fun w => (w.held, w.retest))) hw).trans rfl

end

end Sys2Proof.Machine

/-! ABORT (R73, R74, R145). -/

namespace Sys2Proof.Machine

section
variable {x y : Station} {s t : State} {w : Sweep} {r : RunRecord}

/-! ## A pending abort is taken -/

/-- What the counts of a sweep record show of one more measurement (R81, R98, R104). -/
theorem measurementsCounted_counted (w : Sweep) (stack : List Entry) :
    (w.phase = .connection → MeasurementsCounted w (w.counted stack) 1 0 0) ∧
    (w.phase = .isolation → ∀ e, stack.head? = some e →
      (e.state = .toMeasure → MeasurementsCounted w (w.counted stack) 0 1 0) ∧
      (e.state = .confirm → MeasurementsCounted w (w.counted stack) 0 0 1)) := by
  refine ⟨fun phase => ?_, fun phase e head => ?_⟩
  · simp only [Sweep.counted, phase]
    exact ⟨rfl, rfl, rfl, rfl⟩
  · obtain ⟨rest, rfl⟩ := List.head?_eq_some_iff.mp head
    refine ⟨fun state => ?_, fun state => ?_⟩
    · have range : e.state ≠ .confirm := by rw [state]; nofun
      simp only [Sweep.counted, phase, if_neg range]
      exact ⟨rfl, rfl, rfl, rfl⟩
    · simp only [Sweep.counted, phase, if_pos state]
      exact ⟨rfl, rfl, rfl, rfl⟩

/-- A pending abort takes the sweep at the end of the measurement in hand, whose result is discarded (R73). -/
theorem aborted_apertureEnd {code : Word16} (closed : Closed s x) (waits : SweepWaits s x w r) (abort : r.abortPending = true)
    (ends : (apertureResult s x code).isSome = true) :
    ∃ t, exec (.apertureEnd x code) s = .next t ∧
      t.bench x = (((s.bench x).withSweep (w.counted (s.bench x).locator)).swept .cutShort).clearing := by
  obtain ⟨running, run, wait, sweep, record, measuring, alone⟩ := waits
  obtain ⟨v, hv⟩ := Option.isSome_iff_exists.mp ends
  refine ⟨_, exec_apertureEnd running measuring alone hv, ?_⟩
  generalize hu : s.setChannel x ((s.channel x).measured code v) = u
  have bench : u.bench x = s.bench x := by rw [← hu, State.setChannel_bench]
  have closed' : Closed u x := by rw [← hu]; exact closed
  rw [onMeasured_completes (w := w) (by rw [bench, sweep]) (by rw [bench, run]) (by rw [bench, wait]) (apertureResult_completes hv),
    if_pos ((aborting_eq (r := r) (by rw [bench, record])).trans abort), endSweep_bench, setSweep_bench, bench]
  exact closed'

/-- … or when the trunk reports SETTLED (R73). -/
theorem aborted_settles (closed : Closed s x) (sweep : (s.bench x).sweep = some w) (record : (s.bench x).record = some r)
    (abort : r.abortPending = true) (running : s.inReset = false) (settling : (s.trunk x).state = .settling)
    (alone : (s.trunk x).waiting = none) (wait : (s.bench x).wait = .trunk) (run : (s.bench x).run = .continuity) :
    ∃ t, exec (.settleTimeExpiry x) s = .next t ∧ t.bench x = ((s.bench x).swept .cutShort).clearing := by
  refine ⟨_, next_running (fun s => tellTrunk x (settleTimeEnds x s)) running, ?_⟩
  rw [settleTimeEnds_settles settling alone]
  have taken : onTrunkDone x (s.setTrunk x (s.trunk x).settledOn) = endSweep x .cutShort (s.setTrunk x (s.trunk x).settledOn) := by
    have aborts : aborting (s.setTrunk x (s.trunk x).settledOn) x = true := (aborting_eq (s := s.setTrunk x _) record).trans abort
    unfold onTrunkDone
    simp only [State.setTrunk_bench, wait, run, sweep, aborts, if_true]
  show (onTrunkDone x (s.setTrunk x (s.trunk x).settledOn)).bench x = _
  rw [taken, endSweep_bench]
  · rfl
  · exact closed

/-! ## The request -/

theorem abort_taken : Taken x.port .abort := taken_station rfl rfl nofun

theorem exec_abort_same {why : Status} (ready : Ready s x.port) (h : serveAbort x (ended x.port s) = same why (ended x.port s)) :
    exec (.abort x.port) s = .next (plainly x.port 0x32 why s) :=
  exec_same rfl rfl ready abort_taken (by cases x <;> exact h)

/-- On a run in INSULATION the step is interrupted. -/
theorem exec_abort_interrupts (ready : Ready s x.port) (run : (s.bench x).run = .insulation) :
    exec (.abort x.port) s = .next (respond x.port 0x32 (.plain .accepted) (interruptStep x .abort (ended x.port s))) := by
  have served : serve x.port .abort (ended x.port s) = (interruptStep x .abort (ended x.port s), some (.plain .accepted)) := by
    have h : serveAbort x (ended x.port s) = (interruptStep x .abort (ended x.port s), some (.plain .accepted)) := by
      simp only [serveAbort, ended_bench, run]
    cases x <;> exact h
  exact exec_plain rfl rfl ready abort_taken served

/-! ## The end of an interrupted step -/

/-- With no step queued, an activity's end touches station X alone. -/
theorem beside_activityEnds (q : (s.bench x).queued = none) : Beside x s (activityDone x s) := by
  have one (b : Bench) : Beside x s (s.setBench x b) := (apart_setBench s x b).beside
  have told (b : Bench) : Beside x s (raise x.port srcStepDone (s.setBench x b)) := ⟨(one b).bench, (one b).trunk, (one b).channel⟩
  by_cases run : (s.bench x).run = .insulation
  · rw [activityDone_ready run q]
    exact told _
  · unfold activityDone
    dsimp only
    split
    · exact told _
    · next e => exact absurd e run
    all_goals exact one _

/-- Handing the empty configuration, with no step queued, changes no lending and no other station, and cuts nothing where nothing could be
cut. -/
theorem handEmpty_quiet (q : (s.bench x).queued = none) :
    Beside x s (handEmpty x s) ∧ (handEmpty x s).hv.lending = s.hv.lending ∧ (Uncut s x → (handEmpty x s).hv = s.hv) := by
  have handed := handing_arrive x .empty (s.setBench x (s.bench x).clearing)
  have clears := apart_setBench s x (s.bench x).clearing
  cases done : (arrive x .empty (s.setBench x (s.bench x).clearing)).2
  · have apart := apart_handEmpty done
    exact ⟨apart.beside, apart.lending, apart.hv⟩
  · have none : (((arrive x .empty (s.setBench x (s.bench x).clearing)).1).bench x).queued = Option.none := by
      rw [handed.bench, State.setBench_bench_same]
      exact q
    rw [handEmpty_done done, activityDone_hv none]
    exact ⟨(clears.trans handed.apart).beside.trans (beside_activityEnds none), (clears.trans handed.apart).lending,
      (clears.trans handed.apart).hv⟩

/-- What is left of a station whose interrupted step ends. -/
structure Wound (b c : Bench) : Prop where
  queued : c.queued = none
  banks : c.banks = b.banks
  record : c.record = b.record
  locator : c.locator = []
  state : ∀ st, c.step = some st → st.state ≠ .waitHv

theorem wound_finishing {b : Bench} (q : b.queued = none) (st : StepRecord) : Wound b (b.finishing st).clearing :=
  ⟨q, rfl, rfl, rfl, fun st h => by cases h; nofun⟩

theorem wound_activityDone {b : Bench} (h : Wound b (s.bench x)) : Wound b ((activityDone x s).bench x) := by
  have one (c : Bench) (k : c.queued = none) (banks : c.banks = (s.bench x).banks) (record : c.record = (s.bench x).record)
      (locator : c.locator = (s.bench x).locator) (step : c.step = (s.bench x).step ∨ c.step = none) :
      Wound b ((s.setBench x c).bench x) := by
    rw [State.setBench_bench_same]
    refine ⟨k, banks.trans h.banks, record.trans h.record, locator.trans h.locator, fun st hs => ?_⟩
    rcases step with e | e
    · exact h.state st (e.symm.trans hs)
    · exact nomatch e.symm.trans hs
  by_cases run : (s.bench x).run = .insulation
  · rw [activityDone_ready run h.queued]
    exact one { s.bench x with run := .ready, step := none, wait := .nothing } h.queued rfl rfl rfl (.inr rfl)
  · unfold activityDone
    dsimp only
    split
    · exact one { s.bench x with run := .ready, sweep := none, wait := .nothing } h.queued rfl rfl rfl (.inl rfl)
    · next e => exact absurd e run
    all_goals exact one { s.bench x with wait := .nothing } h.queued rfl rfl rfl (.inl rfl)

theorem wound_finishStep {st : StepRecord} (hs : (s.bench x).step = some st) (q : (s.bench x).queued = none) :
    Wound (s.bench x) ((finishStep x s).bench x) := by
  have bench : ((arrive x .empty ((stepClosed x st s).setBench x ((stepClosed x st s).bench x).clearing)).1).bench x =
      ((s.bench x).finishing st).clearing := by
    rw [(handing_arrive x .empty _).bench, State.setBench_bench_same, stepClosed_bench]
  rw [finishStep_eq hs]
  cases d : (arrive x .empty ((stepClosed x st s).setBench x ((stepClosed x st s).bench x).clearing)).2
  · rw [handEmpty_pending d, bench]
    exact wound_finishing q st
  · rw [handEmpty_done d]
    refine wound_activityDone ?_
    rw [bench]
    exact wound_finishing q st

theorem wound_after {b : Bench} (r : EnergResult) (st : StepRecord) {c : Bench} (h : Wound { b with step := some (st.after r) } c) : Wound b c :=
  ⟨h.queued, h.banks, h.record, h.locator, h.state⟩

/-- The result that reaches an interrupted step with none queued ends it. -/
theorem wound_stepResult {st : StepRecord} {v : EnergResult} (hs : (s.bench x).step = some st) (mark : st.interrupted = true)
    (q : (s.bench x).queued = none) (locator : (s.bench x).locator = []) (active : st.state ≠ .waitHv)
    (marked : (s.bench x).record = (s.bench x).interrupted.record) : Wound (s.bench x) ((stepResult x v s).bench x) := by
  by_cases waits : (s.bench x).run = .insulation ∧ (s.bench x).wait = .energisation
  · by_cases fault : v.outcome = .fault
    · rw [stepResult_fault hs waits.1 waits.2 fault]
      have bench := markInterrupted_bench x (s.setBench x { s.bench x with step := some (st.after v) })
      rw [State.setBench_bench_same] at bench
      have h := wound_finishStep (x := x) (s := markInterrupted x (s.setBench x { s.bench x with step := some (st.after v) }))
        (st := { st.after v with interrupted := true }) (by rw [bench]; rfl) (by rw [bench]; rfl)
      rw [bench] at h
      exact ⟨h.queued, h.banks, h.record.trans marked.symm, h.locator, h.state⟩
    · rw [stepResult_ends hs waits.1 waits.2 mark fault]
      have h := wound_finishStep (x := x) (s := s.setBench x { s.bench x with step := some (st.after v) }) (st := st.after v)
        (by rw [State.setBench_bench_same]) (by rw [State.setBench_bench_same]; exact q)
      rw [State.setBench_bench_same] at h
      exact wound_after v st h
  · rw [stepResult_discarded _ (.inr waits)]
    exact ⟨q, rfl, rfl, locator, fun st' h => by cases hs.symm.trans h; exact active⟩

theorem interrupted_record (b : Bench) : b.interrupted.interrupted.record = b.interrupted.record := by
  unfold Bench.interrupted
  cases b.record <;> rfl

/-- An interruption marks the record, drops the queued step and the locate, and leaves the banks alone (R145). -/
theorem wound_interruptStep {st : StepRecord} (c : CutCause) (hs : (s.bench x).step = some st) (f : st.state ≠ .finish)
    (active : st.state = .waitHv → (s.bench x).wait ≠ .energisation) :
    Wound (s.bench x).interrupted ((interruptStep x c s).bench x) := by
  have bench := markInterrupted_bench x s
  have step : ((markInterrupted x s).bench x).step = some { st with interrupted := true } := by
    rw [bench, Bench.interrupted, hs]
    rfl
  by_cases w : (s.bench x).wait = .energisation
  · rw [interruptStep_energised c hs f w]
    generalize markInterrupted x s = m at bench step
    obtain ⟨told, kept⟩ := cutEnergisation_told x c m
    generalize cutEnergisation x c m = r at told kept
    have same := (kept x).trans bench
    have step' : (r.1.bench x).step = some { st with interrupted := true } := by rw [kept, step]
    have cut : Wound (s.bench x).interrupted (r.1.bench x) := by
      rw [same]
      refine ⟨rfl, rfl, rfl, rfl, fun st' h => ?_⟩
      rw [← same, step'] at h
      cases h
      exact fun waiting => active waiting w
    unfold tellEngine
    rcases told with e | ⟨v, e⟩ <;> rw [e]
    · exact cut
    · have h := wound_stepResult (v := v) step' rfl cut.queued cut.locator (fun waiting => active waiting w) (by rw [same]; exact (interrupted_record _).symm)
      have idle : NotWaiting (stepResult x v r.1) x := h.state
      show Wound _ ((releaseIfDue (stepResult x v r.1)).bench x)
      rw [(untouched_releaseIfDue idle).bench]
      rwa [same] at h
  · rw [interruptStep_configuring c hs f w]
    have h := wound_finishStep step (by rw [bench]; rfl)
    rwa [bench] at h

/-! ## Who has the source after it (R119) -/

/-- The state with the step of a station marked, before it ends (R145). -/
def marked (x : Station) (s : State) : State :=
  (s.setBench x (s.bench x).interrupted).setHv (s.hv.unqueued x (s.bench x).queued.isSome)

theorem marked_bench (x : Station) (s : State) : (marked x s).bench x = (s.bench x).interrupted := State.setBench_bench_same s x _

theorem marked_step {st : StepRecord} (hs : (s.bench x).step = some st) : ((marked x s).bench x).step = some { st with interrupted := true } := by
  rw [marked_bench, Bench.interrupted, hs]
  rfl

/-- With nobody in line, what a step end with none queued leaves of the lending: released, or kept by a reservation (R119, R120). -/
theorem stepEnd_alone (held : s.hv.holder = some x) (sw : s.hv.sw = .off) (line : s.hv.line = []) :
    (s.hv.reserved = false ∨ s.hv.releasePending = true →
      (stepEnd x false s).hv.holder = none ∧ (s.hv.quiet = false → Notified s (stepEnd x false s) x.port srcHvReleased)) ∧
    (s.hv.reserved = true → s.hv.releasePending = false →
      (stepEnd x false s).hv.holder = some x ∧ (stepEnd x false s).hv.holderStep = false ∧
      (stepEnd x false s).hv.holdTimer = some s.hv.limits.hold) := by
  refine ⟨fun frees => ?_, fun reserved due => ?_⟩
  · have release : stepEnd x false s = releaseHolder (s.setHv { s.hv.countString with holderStep := false }) := by
      rcases frees with free | due
      · exact stepEnd_frees held free
      · rw [stepEnd, if_pos held]
        exact if_pos (show s.hv.countString.releasePending = true from due)
    have nobody := releaseHolder_nobody (s := s.setHv { s.hv.countString with holderStep := false }) (x := x) held sw
      (Hv.next_of_empty (h := { s.hv.countString with holderStep := false, holder := none }) line)
    rw [release, nobody]
    refine ⟨by rw [released_hv]; rfl, fun loud => ?_⟩
    exact notified_released (s := s.setHv { s.hv.countString with holderStep := false }) loud
  · rw [stepEnd_keeps held due (.inr reserved) (by rw [waiting_nobody line]; exact fun h => nomatch h.1), reserved]
    exact ⟨held, rfl, rfl⟩

/-- With neither an energisation nor a waiting station, the end of an interrupted step settles the holding as a step end does. -/
theorem finishStep_alone {st : StepRecord} (hs : (s.bench x).step = some st) (q : (s.bench x).queued = none) (active : st.state ≠ .waitHv)
    (held : s.hv.holder = some x) (sw : s.hv.sw = .off) (line : s.hv.line = []) :
    (s.hv.reserved = false ∨ s.hv.releasePending = true →
      (finishStep x s).hv.holder = none ∧ (s.hv.quiet = false → Notified s (finishStep x s) x.port srcHvReleased)) ∧
    (s.hv.reserved = true → s.hv.releasePending = false →
      (finishStep x s).hv.holder = some x ∧ (finishStep x s).hv.holderStep = false ∧
      (finishStep x s).hv.holdTimer = some s.hv.limits.hold) := by
  have closed : stepClosed x st s = stepEnd x false (s.setBench x ((s.bench x).finishing st)) := by rw [stepClosed, if_neg active, q]; rfl
  obtain ⟨frees, keeps⟩ := stepEnd_alone (s := s.setBench x ((s.bench x).finishing st)) held sw line
  have quiet := handEmpty_quiet (s := stepClosed x st s) (by rw [stepClosed_bench]; exact q)
  have work : Worked (stepClosed x st s) (handEmpty x (stepClosed x st s)) := worked_handEmpty _ _
  rw [finishStep_eq hs]
  rw [← closed] at frees keeps
  have lending := quiet.2.1
  simp only [Hv.lending, Prod.mk.injEq] at lending
  obtain ⟨⟨holder, -⟩, -, -, timer, step⟩ := lending
  refine ⟨fun free => ?_, fun reserved due => ?_⟩
  · obtain ⟨gone, raised⟩ := frees free
    exact ⟨holder.trans gone, fun loud => (raised loud).worked work⟩
  · obtain ⟨still, none, hold⟩ := keeps reserved due
    exact ⟨holder.trans still, step.trans none, timer.trans hold⟩

theorem supply_stepClosed {st : StepRecord} (none : s.hv.energ = none) : (stepClosed x st s).hv.supply = s.hv.supply := by
  unfold stepClosed
  split
  · rfl
  · by_cases held : s.hv.holder = some x
    · cases due : s.hv.releasePending
      · exact supply_stepEnd (s := s.setBench x ((s.bench x).finishing st)) _ none due
      · rw [stepEnd, if_pos (show (s.setBench x _).hv.holder = some x from held)]
        dsimp only
        rw [if_pos (show (s.setBench x _).hv.countString.releasePending = true from due)]
        exact supply_releaseHolder (s := (s.setBench x ((s.bench x).finishing st)).setHv
          { (s.setBench x ((s.bench x).finishing st)).hv.countString with holderStep := false }) none
    · rw [stepEnd, if_neg (show ¬ (s.setBench x _).hv.holder = some x from held)]
      rfl

/-! ## The energisation of an interrupted step (R128) -/

theorem unqueued_empty (q : Bool) {h : Hv} (line : h.line = []) (asks : h.asks x = false) : h.unqueued x q = h := by
  cases q
  · rfl
  · obtain ⟨step, reserve⟩ := Bool.or_eq_false_iff.mp asks
    have same : h.stepAsk.set x false = h.stepAsk := by
      rw [← step]
      cases x <;> rfl
    show ({ h with stepAsk := h.stepAsk.set x false } : Hv).lineUp x = h
    rw [same]
    simp only [Hv.lineUp, Hv.asks, step, reserve, Bool.or_self, line, Bool.false_eq_true, if_false, List.filter_nil]
    rw [← line]

/-- A cut that ends its energisation at once: in ISOLATING, or on a cold trunk (R125, R128). -/
theorem cutEnergisation_atOnce {e : Energisation} (c : CutCause) (he : s.hv.energ = some e)
    (quick : s.hot e.trunk = false ∨ e.stage = .isolating) (live : e.stage ≠ .discharging) (open_ : e.outcome = none) :
    (cutEnergisation e.trunk c s).2 = some (e.trunk, e.result (.cut c)) ∧ (cutEnergisation e.trunk c s).1.hv.energ = none ∧
    (cutEnergisation e.trunk c s).1.hv.last = some (e.result (.cut c)) := by
  have noted : e.settle (.cut c) = .cut c := by rw [Energisation.settle, open_]; rfl
  by_cases isolating : e.stage = .isolating
  · simp only [cutEnergisation, he, isolating, if_true, noted]
    exact ⟨trivial, rfl, rfl⟩
  · have cold := quick.resolve_right isolating
    have cut : cutEnergisation e.trunk c s = endDischarge e (.cut c) s := by
      rw [← enterDischarge_cold _ cold, ← noted]
      cases h : e.stage with
      | isolating => exact absurd h isolating
      | discharging => exact absurd h live
      | _ => simp only [cutEnergisation, he, h, if_true]
    rw [cut]
    exact ⟨rfl, rfl, rfl⟩

/-- An interruption whose cut ends the energisation at once finishes the step (R128, R144, R145). -/
theorem interruptStep_atOnce {e : Energisation} {st : StepRecord} (c : CutCause) (hs : (s.bench e.trunk).step = some st) (f : st.state ≠ .finish)
    (run : (s.bench e.trunk).run = .insulation) (wait : (s.bench e.trunk).wait = .energisation) (he : s.hv.energ = some e)
    (quick : s.hot e.trunk = false ∨ e.stage = .isolating) (live : e.stage ≠ .discharging) (open_ : e.outcome = none)
    (settled : (s.trunk e.trunk).state = .settled) (ready : s.matrix.state = .ready) (closed : Closed s e.trunk) :
    StepFinishes (interruptStep e.trunk c s) e.trunk { st with interrupted := true } ∧ (interruptStep e.trunk c s).hv.energ = none ∧
    (interruptStep e.trunk c s).hv.last = some (e.result (.cut c)) := by
  have supply := Hv.unqueued_supply s.hv e.trunk (s.bench e.trunk).queued.isSome
  have shown : interruptStep e.trunk c s = tellEngine (cutEnergisation e.trunk c (marked e.trunk s)) := by
    rw [interruptStep_energised c hs f wait, markInterrupted_eq]
    rfl
  obtain ⟨told, gone, last⟩ := cutEnergisation_atOnce (s := marked e.trunk s) c ((Hv.energ_of_supply supply).trans he) quick live open_
  have cut := supplying_cutEnergisation e.trunk c (marked e.trunk s)
  rw [shown]
  unfold tellEngine
  rw [told]
  dsimp only
  generalize (cutEnergisation e.trunk c (marked e.trunk s)).1 = u at gone last cut
  have bench : u.bench e.trunk = (s.bench e.trunk).interrupted := by
    rw [State.bench, cut.benches]
    exact marked_bench e.trunk s
  have step : (u.bench e.trunk).step = some { st with interrupted := true } := by
    rw [bench, Bench.interrupted, hs]
    rfl
  have uncounted : ({ st with interrupted := true } : StepRecord).after (e.result (.cut c)) = { st with interrupted := true } := rfl
  have same : u.setBench e.trunk { u.bench e.trunk with step := some { st with interrupted := true } } = u := by
    rw [← step]
    cases e.trunk <;> rfl
  rw [stepResult_ends (r := e.result (.cut c)) step (by rw [bench]; exact run) (by rw [bench]; exact wait) rfl nofun, uncounted, same]
  have closed' : Closed u e.trunk := by
    rw [Closed, trunkRelays, State.window, cut.matrix]
    exact closed
  have stands : (u.trunk e.trunk).state = .settled := by rw [State.trunk, cut.matrix]; exact settled
  obtain ⟨apart, finished, -⟩ := finishStep_pending step (.inl closed')
  have config := finishStep_config step (by rw [cut.matrix]; exact ready) (.inr stands) (.inl closed')
  have parted := supply_stepClosed (x := e.trunk) (st := { st with interrupted := true }) gone
  have source := apart.hv (Uncut.of_none ((Hv.energ_of_supply parted).trans gone))
  have idle : NotWaiting (finishStep e.trunk u) e.trunk := fun st' h => by
    rw [finished] at h
    cases h
    nofun
  have rest := untouched_releaseIfDue idle
  have kept : (releaseIfDue (finishStep e.trunk u)).hv.supply = u.hv.supply := by
    have one : (finishStep e.trunk u).hv.supply = u.hv.supply := (congrArg Hv.supply source).trans parted
    unfold releaseIfDue
    split
    · exact (supply_releaseHolder ((Hv.energ_of_supply one).trans gone)).trans one
    · exact one
  refine ⟨?_, (Hv.energ_of_supply kept).trans gone, (congrArg (fun v => v.2.2.2.1) kept).trans last⟩
  rw [StepFinishes, rest.bench, rest.trunk, finished]
  exact ⟨rfl, rfl, rfl, rfl, config⟩

/-! ## ABORT -/

/-- A step that waits in WAIT-HV is interrupted: the ask is withdrawn, and nobody else is reached (R74, R144). -/
theorem interruptStep_waiting {st : StepRecord} (c : CutCause) (hs : (s.bench x).step = some st) (waits : st.state = .waitHv)
    (wait : (s.bench x).wait ≠ .energisation) :
    (interruptStep x c s).hv.stepAsk.get x = false ∧ (interruptStep x c s).bench x.other = s.bench x.other := by
  have f : st.state ≠ .finish := by rw [waits]; nofun
  have finishing : interruptStep x c s = finishStep x (marked x s) := by
    rw [interruptStep_configuring c hs f wait, markInterrupted_eq]
    rfl
  rw [finishing, finishStep_waiting (marked_step hs) waits]
  obtain ⟨beside, lending, -⟩ := handEmpty_quiet (x := x)
    (s := ((marked x s).setBench x (((marked x s).bench x).finishing { st with interrupted := true })).setHv ((marked x s).hv.setStepAsk x false))
    (by rw [State.setHv_bench, State.setBench_bench_same, marked_bench]; rfl)
  refine ⟨?_, (beside.bench _ (Station.other_ne x)).trans ?_⟩
  · have ask := congrArg (fun v => v.1.2.2.2.2.1.get x) lending
    exact ask.trans (Both.get_set_same _ _ _)
  · rw [State.setHv_bench, State.setBench_bench_other, marked, State.setHv_bench, State.setBench_bench_other]

/-- Settles O36: a pending abort through `endSweep`, ABORT by run state and by what the step waits for. -/
theorem abortAnswered : Obligations.AbortAnswered := by
  refine ⟨fun s x closed w sweep r record abort => ⟨fun code waits ends => ?_, fun running settling alone wait run => ?_⟩, fun s x ready => ?_⟩
  · obtain ⟨t, step, bench⟩ := aborted_apertureEnd closed waits abort ends
    obtain ⟨connection, isolation⟩ := measurementsCounted_counted w (s.bench x).locator
    obtain ⟨-, run, -⟩ := waits
    refine ⟨t, step, ?_, by rw [bench]; rfl, fun v hv => ?_⟩
    · rw [bench]
      exact sweepEnded_swept .cutShort run record rfl
    · rw [bench] at hv
      cases hv
      exact ⟨connection, isolation⟩
  · obtain ⟨t, step, bench⟩ := aborted_settles closed sweep record abort running settling alone wait run
    refine ⟨t, step, ?_, by rw [bench]; rfl⟩
    rw [bench]
    exact sweepEnded_swept .cutShort run record (by rw [sweep]; rfl)
  · refine ⟨fun run => exec_abort_same ready ?_, fun run => exec_abort_same ready ?_, fun run wait => exec_abort_same ready ?_,
      fun r run wait record => ?_, fun st run hs finish => ?_, fun st r run hs waits wait record => ?_, fun st run hs active r record => ?_⟩
    · rcases run with run | run <;> simp only [serveAbort, ended_bench, run]
    · simp only [serveAbort, ended_bench, run]
    · simp only [serveAbort, ended_bench, run, wait, if_true]
    · refine exec_plainly (t := s.setBench x { s.bench x with record := some { r with abortPending := true } }) rfl rfl ready abort_taken ?_
      have h : serveAbort x (ended x.port s) = (mapRecord x (fun r => { r with abortPending := true }) (ended x.port s), some (.plain .accepted)) := by
        simp only [serveAbort, ended_bench, run]
        exact if_neg wait
      have noted : mapRecord x (fun r => { r with abortPending := true }) (ended x.port s) =
          (ended x.port s).setBench x { s.bench x with record := some { r with abortPending := true } } := by
        rw [mapRecord, ended_bench, record]
        rfl
      rw [noted] at h
      cases x <;> exact h
    · have idle : interruptStep x .abort (ended x.port s) = ended x.port s := by simp [interruptStep, hs, finish]
      refine exec_abort_same ready ?_
      simp only [serveAbort, ended_bench, run, idle]
      rfl
    · have f : st.state ≠ .finish := by rw [waits]; nofun
      have calm : ((ended x.port s).bench x).wait ≠ .energisation := by rw [ended_bench, wait]; nofun
      have wound := wound_interruptStep (s := ended x.port s) .abort hs f fun _ => calm
      obtain ⟨ask, other⟩ := interruptStep_waiting (s := ended x.port s) .abort hs waits calm
      exact ⟨_, exec_abort_interrupts ready run, respond_status _ _ _ _, wound.record.trans (congrArg (Option.map _) record), wound.queued, ask, other⟩
    · have f : st.state ≠ .finish := by rintro h; rw [h] at active; rcases active with h | h | h <;> cases h
      have going : st.state ≠ .waitHv := by rintro h; rw [h] at active; rcases active with h | h | h <;> cases h
      have wound := wound_interruptStep (s := ended x.port s) .abort hs f fun h => absurd h going
      refine ⟨_, exec_abort_interrupts ready run, respond_status _ _ _ _, wound.record.trans (congrArg (Option.map _) record), wound.banks,
        wound.queued, wound.locator, fun calm => ?_, fun e he wait trunk held => ?_⟩
      · have finishing : interruptStep x .abort (ended x.port s) = finishStep x (marked x (ended x.port s)) := by
          rw [interruptStep_configuring (s := ended x.port s) .abort hs f calm, markInterrupted_eq]
          rfl
        have step := marked_step (s := ended x.port s) hs
        refine ⟨fun works => ?_, fun held sw line asks => ?_⟩
        · have work := finishStep_working step works
          have bench : (interruptStep x .abort (ended x.port s)).bench x =
              (((marked x (ended x.port s)).bench x).finishing { st with interrupted := true }).clearing := by
            rw [finishing, work, State.setTrunk_bench, State.setBench_bench_same]
          refine ⟨congrArg Bench.step bench, congrArg Bench.wait bench, ?_⟩
          have trunk : (interruptStep x .abort (ended x.port s)).trunk x = { (marked x (ended x.port s)).trunk x with waiting := some .empty } := by
            rw [finishing, work, State.setTrunk_trunk_same]
          exact congrArg Trunk.waiting trunk
        · have same : (marked x (ended x.port s)).hv = s.hv := unqueued_empty _ line asks
          have alone := finishStep_alone (s := marked x (ended x.port s)) step (by rw [marked_bench]; rfl) going
            (by rw [same]; exact held) (by rw [same]; exact sw) (by rw [same]; exact line)
          rw [same, ← finishing] at alone
          exact alone
      · subst trunk
        refine ⟨fun hot stage sw => ?_, fun quick live open_ settled matrix closed =>
          interruptStep_atOnce (s := ended e.trunk.port s) .abort hs f run wait he quick live open_ settled matrix closed⟩
        have supply := Hv.unqueued_supply s.hv e.trunk (s.bench e.trunk).queued.isSome
        have step := congrArg Bench.step (marked_bench e.trunk s)
        rw [marked_step hs] at step
        by_cases discharging : e.stage = .discharging
        · have uncut : Uncut (marked e.trunk (ended e.trunk.port s)) e.trunk := fun d hd _ => by
            cases he.symm.trans ((Hv.energ_of_supply supply).symm.trans hd)
            exact discharging
          have none : interruptStep e.trunk .abort (ended e.trunk.port s) = marked e.trunk (ended e.trunk.port s) := by
            have cut := cutEnergisation_uncut uncut .abort
            rw [interruptStep_energised (s := ended e.trunk.port s) .abort hs f wait, markInterrupted_eq]
            show tellEngine (cutEnergisation e.trunk .abort (marked e.trunk (ended e.trunk.port s))) = _
            rw [cut, tellEngine_none]
          rw [none, if_pos discharging, if_pos discharging]
          refine ⟨(congrArg Bench.step (marked_bench e.trunk (ended e.trunk.port s))).trans step.symm, Hv.source_of_supply supply,
            ((Hv.energ_of_supply supply).trans he).trans ?_⟩
          rw [← discharging]
        · have cut := interruptStep_discharges (s := ended e.trunk.port s) .abort hs f wait he (by cases h : e.stage <;> simp_all) hot
          rw [cut, if_neg discharging, if_neg discharging]
          exact ⟨(congrArg Bench.step (State.setBench_bench_same _ _ _)).trans step.symm, rfl, rfl⟩

end

end Sys2Proof.Machine

/-! What the sweep engine leaves alone on its way (R85, R98, R104): a channel at rest, and the defects recorded. -/

namespace Sys2Proof.Machine

section
variable {x y : Station} {s t u : State} {w : Sweep} {r : RunRecord}

/-! ## A channel at rest -/

/-- No aperture runs on channel MX, it is not isolated, and no isolation is pending. -/
def AtRest (s : State) (x : Station) : Prop :=
  ((s.channel x).state ≠ .measuring ∧ (s.channel x).state ≠ .isolated) ∧ (s.channel x).isoPending = false

theorem leaveIsolation_rests (rests : AtRest s x) : (leaveIsolation x s).channel x = s.channel x := by
  obtain ⟨⟨-, out⟩, alone⟩ := rests
  rw [leaveIsolation, State.setChannel_channel_same, ← alone]
  rw [if_neg out]

theorem cutEnergisation_rests (c : CutCause) (rests : AtRest s x) : (cutEnergisation x c s).1.channel x = s.channel x := by
  unfold cutEnergisation
  split
  · next e _ =>
    split
    · next hx =>
      subst hx
      have discharge (o : EnergOutcome) : (enterDischarge e o s).1.channel e.trunk = s.channel e.trunk := by
        cases hot : s.hot e.trunk
        · rw [enterDischarge_cold o hot]
          exact leaveIsolation_rests (s := s.setHv { s.hv with sw := .off, path := false, source := .off, energ := none, last := some (e.result o) }) rests
        · rw [enterDischarge_hot o hot]
          rfl
      split
      · exact leaveIsolation_rests (s := s.setHv _) rests
      iterate 4 exact discharge _
      · rfl
    · rfl
  · rfl

theorem leaveSettled_rests (rests : AtRest s x) : (leaveSettled x s).channel x = s.channel x := by
  have cut := cutEnergisation_rests .trunk rests
  rw [leaveSettled, cutAperture]
  dsimp only
  rw [if_neg (by rw [cut]; exact rests.1.1), cut]

theorem arrive_rests (c : Configuration) (rests : AtRest s x) : (arrive x c s).1.channel x = s.channel x := by
  have leaves : (if (s.trunk x).state = .settled then leaveSettled x s else s).channel x = s.channel x := by
    split
    · exact leaveSettled_rests rests
    · rfl
  rcases arrive_cases x c s with e | e | e <;> rw [e]
  · rcases takeUp_cases x c s _ _ rfl rfl with ⟨-, e⟩ | ⟨-, -, e⟩ | ⟨-, -, -, e⟩ | ⟨-, -, -, -, e⟩ | ⟨-, -, -, -, e⟩ <;> rw [e] <;> exact leaves
  · rfl
  · rfl

/-! ## The engine on its way -/

/-- Between s and t a channel at rest stays as it is. -/
def Rests (x : Station) (s t : State) : Prop := AtRest s x → t.channel x = s.channel x

theorem Rests.refl (x : Station) (s : State) : Rests x s s := fun _ => rfl

theorem Rests.trans (h : Rests x s t) (k : Rests x t u) : Rests x s u := fun rests => by
  have e := h rests
  exact (k (by rwa [AtRest, e])).trans e

/-- The counts of a station's run: the defects found, and the shorts among them. -/
def Bench.tally (b : Bench) : Option (Nat × Nat) := b.record.map fun r => (r.found, r.shorts)

/-- Between s and t the engine of a sweep has gone on without a defect: a channel at rest, the banks and the tally stand. -/
structure Onward (x : Station) (s t : State) : Prop where
  rests : Rests x s t
  banks : (t.bench x).banks = (s.bench x).banks
  tally : (t.bench x).tally = (s.bench x).tally

theorem Onward.refl (x : Station) (s : State) : Onward x s s := ⟨.refl x s, rfl, rfl⟩

theorem Onward.trans (h : Onward x s t) (k : Onward x t u) : Onward x s u :=
  ⟨h.rests.trans k.rests, k.banks.trans h.banks, k.tally.trans h.tally⟩

/-- The last operation first: it fixes the state in between. -/
theorem Onward.after (k : Onward x t u) (h : Onward x s t) : Onward x s u := h.trans k

theorem onward_setBench {b : Bench} (banks : b.banks = (s.bench x).banks) (tally : b.tally = (s.bench x).tally) :
    Onward x s (s.setBench x b) :=
  ⟨fun _ => rfl, by rw [State.setBench_bench_same, banks], by rw [State.setBench_bench_same, tally]⟩

theorem onward_setSweep (w : Sweep) (s : State) : Onward x s (setSweep x w s) := onward_setBench rfl rfl

theorem onward_raise (p : Port) (n : Nat) (s : State) : Onward x s (raise p n s) := ⟨fun _ => rfl, rfl, rfl⟩

theorem onward_holdRead (k : ReadPoint) (s : State) : Onward x s (holdRead x k s) := onward_setBench rfl rfl

theorem onward_arrive (c : Configuration) (s : State) : Onward x s (arrive x c s).1 :=
  ⟨arrive_rests c, by rw [(handing_arrive x c s).bench], by rw [(handing_arrive x c s).bench]⟩

theorem onward_handConfig (c : Configuration) (s : State) : Onward x s (handConfig x c s) :=
  (onward_arrive c (s.setBench x ((s.bench x).handing c))).after (onward_setBench rfl rfl)

theorem onward_handEmpty (run : (s.bench x).run = .continuity) : Onward x s (handEmpty x s) := by
  have clears : Onward x s (s.setBench x (s.bench x).clearing) := onward_setBench rfl rfl
  have arrived := (onward_arrive .empty (s.setBench x (s.bench x).clearing)).after clears
  have bench := (handing_arrive x .empty (s.setBench x (s.bench x).clearing)).bench x
  rw [State.setBench_bench_same] at bench
  cases done : (arrive x .empty (s.setBench x (s.bench x).clearing)).2
  · rw [handEmpty_pending done]
    exact arrived
  · rw [handEmpty_done done]
    refine Onward.after ?_ arrived
    generalize (arrive x .empty (s.setBench x (s.bench x).clearing)).1 = v at bench
    have run' : (v.bench x).run = .continuity := by rw [bench]; exact run
    unfold activityDone
    simp only [run']
    exact (onward_raise _ _ _).after (onward_setBench rfl rfl)

theorem onward_endSweep (c : Continuity) (run : (s.bench x).run = .continuity) : Onward x s (endSweep x c s) := by
  rw [endSweep_eq]
  refine (onward_handEmpty (s := s.setBench x ((s.bench x).swept c)) ?_).after (onward_setBench rfl ?_)
  · rw [State.setBench_bench_same]
    exact run
  · simp [Bench.tally, Bench.swept, Function.comp_def]

theorem onward_handLocator (s : State) : Onward x s (handLocator x s) := by
  unfold handLocator
  dsimp only
  repeat' split
  · exact onward_holdRead _ s
  · exact (onward_handConfig _ _).after (onward_setSweep _ s)
  · exact (onward_handConfig _ _).after (onward_setSweep _ s)
  · exact .refl x s

theorem onward_startDriver (d : Nat) (run : (s.bench x).run = .continuity) : Onward x s (startDriver x d s) := by
  unfold startDriver
  split
  · split
    · exact onward_endSweep _ run
    · exact (onward_handLocator _).after (onward_setBench rfl rfl)
  · exact .refl x s

theorem onward_isolationStart (run : (s.bench x).run = .continuity) : Onward x s (isolationStart x s) := by
  unfold isolationStart
  dsimp only
  split
  · exact onward_holdRead _ s
  · split
    · refine (onward_startDriver (s := setSweep x _ s) 0 ?_).after (onward_setSweep _ s)
      rw [setSweep_bench]
      exact run
    · exact .refl x s

theorem onward_connectionEnd (run : (s.bench x).run = .continuity) : Onward x s (connectionEnd x s) := by
  unfold connectionEnd
  split
  · split
    · exact onward_endSweep _ run
    · refine (onward_isolationStart (s := s.setBench x _) ?_).after (onward_setBench ?_ ?_)
      · rw [State.setBench_bench_same]
        exact run
      · rfl
      · rfl
  · exact .refl x s

theorem onward_handPair (s : State) : Onward x s (handPair x s) := by
  unfold handPair
  split
  · exact onward_holdRead _ s
  · split
    · exact (onward_handConfig _ _).after (onward_setSweep _ s)
    · exact .refl x s

theorem onward_beginNet (i : Nat) (run : (s.bench x).run = .continuity) : Onward x s (beginNet x i s) := by
  unfold beginNet
  split
  · split
    · exact onward_connectionEnd run
    · split
      · exact (onward_holdRead _ _).after (onward_setSweep _ s)
      · split
        · exact (onward_handPair _).after (onward_setSweep _ s)
        · refine (onward_connectionEnd (s := setSweep x _ s) ?_).after (onward_setSweep _ s)
          rw [setSweep_bench]
          exact run
  · exact .refl x s

theorem onward_walkOn (w : Sweep) (pos : Nat) (run : (s.bench x).run = .continuity) : Onward x s (walkOn x w pos s) := by
  unfold walkOn
  split
  · exact (onward_handPair _).after (onward_setSweep _ s)
  · refine (onward_beginNet (s := setSweep x w s) _ ?_).after (onward_setSweep _ s)
    rw [setSweep_bench]
    exact run

/-! ## Defects recorded -/

/-- Defects recorded one after another, with no limit in the way. -/
def recording (x : Station) (short : Bool) (ds : List Defect) (s : State) : State := ds.foldl (fun s d => recordDefect x short d s) s

theorem recording_cons (x : Station) (short : Bool) (d : Defect) (ds : List Defect) (s : State) :
    recording x short (d :: ds) s = recording x short ds (recordDefect x short d s) := rfl

/-- Between s and t only station X and the attention units have been written. -/
structure Booked (x : Station) (s t : State) : Prop where
  store : t.store = s.store
  matrix : t.matrix = s.matrix
  channels : t.channels = s.channels
  hv : t.hv = s.hv
  other : ∀ y, y ≠ x → t.bench y = s.bench y
  units : ∀ p, RaisedFrom (s.unit p) (t.unit p)

theorem Booked.refl (x : Station) (s : State) : Booked x s s := ⟨rfl, rfl, rfl, rfl, fun _ _ => rfl, fun _ => .refl _⟩

theorem Booked.trans (h : Booked x s t) (k : Booked x t u) : Booked x s u :=
  ⟨k.store.trans h.store, k.matrix.trans h.matrix, k.channels.trans h.channels, k.hv.trans h.hv,
    fun y hy => (k.other y hy).trans (h.other y hy), fun p => (h.units p).trans (k.units p)⟩

theorem booked_setBench (s : State) (x : Station) (b : Bench) : Booked x s (s.setBench x b) :=
  ⟨rfl, rfl, rfl, rfl, fun _ hy => State.setBench_bench_ne _ _ _ hy, fun _ => .refl _⟩

theorem recordDefect_some (short : Bool) (d : Defect) (record : (s.bench x).record = some r) :
    recordDefect x short d s = raise x.port srcDefect (s.setBench x ((s.bench x).record1 r short d)) := by
  unfold recordDefect
  simp only [record]

theorem recordDefect_none (short : Bool) (d : Defect) (record : (s.bench x).record = none) : recordDefect x short d s = s := by
  unfold recordDefect
  simp only [record]

theorem booked_recordDefect (x : Station) (short : Bool) (d : Defect) (s : State) : Booked x s (recordDefect x short d s) := by
  cases record : (s.bench x).record with
  | none =>
    rw [recordDefect_none short d record]
    exact .refl x s
  | some r =>
    rw [recordDefect_some short d record]
    exact (booked_setBench s x _).trans ⟨rfl, rfl, rfl, rfl, fun _ _ => rfl, (worked_raise _ _ _).units⟩

theorem booked_recording (x : Station) (short : Bool) (ds : List Defect) (s : State) : Booked x s (recording x short ds s) := by
  induction ds generalizing s with
  | nil => exact .refl x s
  | cons d ds ih => exact (booked_recordDefect x short d s).trans (ih _)

/-- What the station has recorded (R88, R105). -/
theorem recording_bench (x : Station) (short : Bool) (ds : List Defect) (s : State) :
    (recording x short ds s).bench x = (s.bench x).recorded short ds := by
  induction ds generalizing s with
  | nil => rfl
  | cons d ds ih =>
    rw [recording_cons, ih]
    cases record : (s.bench x).record with
    | none =>
      rw [recordDefect_none short d record]
      have still : (s.bench x).recorded short ds = s.bench x := by
        cases ds with
        | nil => rfl
        | cons d' ds' => simp only [Bench.recorded, record]
      rw [still]
      simp only [Bench.recorded, record]
    | some r =>
      have bench : (recordDefect x short d s).bench x = (s.bench x).record1 r short d := by
        rw [recordDefect_some short d record]
        exact State.setBench_bench_same _ _ _
      rw [bench]
      simp only [Bench.recorded, record]

/-- A defect that is recorded in a run is notified. -/
theorem recording_notifies (short : Bool) {ds : List Defect} (some_ : ds ≠ []) (record : (s.bench x).record = some r) :
    Notified s (recording x short ds s) x.port srcDefect := by
  cases ds with
  | nil => exact absurd rfl some_
  | cons d ds =>
    rw [recording_cons]
    have first : Notified s (recordDefect x short d s) x.port srcDefect := by
      rw [recordDefect_some short d record]
      exact notified_raise x.port srcDefect (s.setBench x ((s.bench x).record1 r short d)) (by decide)
    exact first.raised ((booked_recording x short ds _).units _)

/-- Recording touches the run record and the banks of a station alone. -/
theorem recorded_keeps (b : Bench) (short : Bool) (ds : List Defect) :
    (b.recorded short ds).run = b.run ∧ (b.recorded short ds).sweep = b.sweep ∧ (b.recorded short ds).locator = b.locator ∧
    (b.recorded short ds).wait = b.wait ∧ (b.recorded short ds).handed = b.handed ∧ (b.recorded short ds).step = b.step ∧
    (b.recorded short ds).queued = b.queued := by
  induction ds generalizing b with
  | nil => exact ⟨rfl, rfl, rfl, rfl, rfl, rfl, rfl⟩
  | cons d ds ih =>
    unfold Bench.recorded
    split
    · exact ih _
    · exact ⟨rfl, rfl, rfl, rfl, rfl, rfl, rfl⟩

/-- Record and banks after recording depend on record and banks alone. -/
theorem recorded_congr {b c : Bench} (record : c.record = b.record) (banks : c.banks = b.banks) (short : Bool) (ds : List Defect) :
    (c.recorded short ds).record = (b.recorded short ds).record ∧ (c.recorded short ds).banks = (b.recorded short ds).banks := by
  induction ds generalizing b c with
  | nil => exact ⟨record, banks⟩
  | cons d ds ih =>
    unfold Bench.recorded
    rw [record]
    split
    · exact ih rfl (by simp only [Bench.record1, banks])
    · exact ⟨record, banks⟩

/-- Without a limit every defect of a list is recorded (R92, R106). -/
theorem recordAll_free (short : Bool) (ds : List Defect) (free : w.limit = 0) (s : State) :
    recordAll x w short ds s = (recording x short ds s, false) := by
  induction ds generalizing s with
  | nil => rfl
  | cons d ds ih =>
    have open_ : limitReached x w (recordDefect x short d s) = false := by
      unfold limitReached
      split
      · simp [free]
      · rfl
    rw [recordAll, open_, if_neg Bool.false_ne_true, ih]
    rfl

end

end Sys2Proof.Machine

/-! The end of an aperture at the channel, and a group measurement that outlives its run (R45 to R53, R58). -/

namespace Sys2Proof.Machine

section
variable {x y : Station} {s t u : State} {w : Sweep} {r : RunRecord} {code : Word16} {v : MeasResult}

/-! ## The channel under the engine that takes its result -/

theorem rests_recordDefect (short : Bool) (d : Defect) (s : State) : Rests x s (recordDefect x short d s) := fun _ => by
  rw [State.channel, (booked_recordDefect x short d s).channels]
  rfl

theorem recordDefect_run (x : Station) (short : Bool) (d : Defect) (s : State) : ((recordDefect x short d s).bench x).run = (s.bench x).run := by
  have bench := recording_bench x short [d] s
  rw [show recording x short [d] s = recordDefect x short d s from rfl] at bench
  rw [bench]
  exact (recorded_keeps (s.bench x) short [d]).1

theorem rests_recordAll (w : Sweep) (short : Bool) (ds : List Defect) (run : (s.bench x).run = .continuity) :
    Rests x s (recordAll x w short ds s).1 ∧ ((recordAll x w short ds s).2 = false → ((recordAll x w short ds s).1.bench x).run = .continuity) := by
  induction ds generalizing s with
  | nil => exact ⟨.refl x s, fun _ => run⟩
  | cons d ds ih =>
    have run' := (recordDefect_run x short d s).trans run
    rw [recordAll]
    split
    · exact ⟨(rests_recordDefect short d s).trans (onward_endSweep .cutShort run').rests, nofun⟩
    · obtain ⟨rests, kept⟩ := ih run'
      exact ⟨(rests_recordDefect short d s).trans rests, kept⟩

theorem setSweep_run (w : Sweep) (run : (s.bench x).run = .continuity) : ((setSweep x w s).bench x).run = .continuity := by
  rw [setSweep_bench]
  exact run

theorem rests_recordThen (w : Sweep) (ds : List Defect) (pos : Nat) (run : (s.bench x).run = .continuity) :
    Rests x s (recordThen x w ds pos s) := by
  obtain ⟨rests, kept⟩ := rests_recordAll w false ds (setSweep_run w run)
  have recorded := (onward_setSweep w s).rests.trans rests
  unfold recordThen
  dsimp only
  split
  · exact recorded
  · next going => exact recorded.trans (onward_walkOn w pos (kept (Bool.eq_false_iff.mpr going))).rests

theorem rests_isolationNext (w : Sweep) (l : List Entry × List Entry) (run : (s.bench x).run = .continuity) :
    Rests x s (isolationNext x w l s) := by
  have base : Onward x s (s.setBench x { s.bench x with sweep := some w, locator := l.1 }) := onward_setBench rfl rfl
  obtain ⟨rests, kept⟩ := rests_recordAll (s := s.setBench x { s.bench x with sweep := some w, locator := l.1 }) w true (l.2.map w.leakGroup)
    (by rw [State.setBench_bench_same]; exact run)
  have recorded := base.rests.trans rests
  unfold isolationNext
  dsimp only
  split
  · exact recorded
  · next going =>
    split
    · exact recorded.trans (onward_startDriver _ (kept (Bool.eq_false_iff.mpr going))).rests
    · exact recorded.trans (onward_handLocator _).rests

theorem rests_onConfirm (w : Sweep) (e : Entry) (v : MeasResult) (run : (s.bench x).run = .continuity) : Rests x s (onConfirm x w e v s) := by
  obtain ⟨rests, kept⟩ := rests_recordAll w true [w.shortDefect e v] (setSweep_run w run)
  have recorded := (onward_setSweep w s).rests.trans rests
  unfold onConfirm
  dsimp only
  split
  · exact recorded
  · next going => exact recorded.trans (rests_isolationNext w _ (kept (Bool.eq_false_iff.mpr going)))

theorem rests_onPair (w : Sweep) (v : MeasResult) (run : (s.bench x).run = .continuity) : Rests x s (onPair x w v s) := by
  have hands (u : Sweep) : Rests x s (handPair x (setSweep x u s)) := ((onward_handPair _).after (onward_setSweep u s)).rests
  unfold onPair onRetest onWalkPair
  dsimp only
  repeat' split
  · exact rests_recordThen _ _ _ run
  · exact rests_recordThen _ _ _ run
  · exact rests_recordThen _ _ _ run
  · exact hands _
  · exact hands _
  · exact rests_recordThen _ _ _ run

theorem rests_settleMeasured (w : Sweep) (v : MeasResult) (run : (s.bench x).run = .continuity) : Rests x s (settleMeasured x w v s) := by
  unfold settleMeasured
  split
  · exact rests_onPair w v run
  · split
    · exact rests_onConfirm w _ v run
    · unfold onGroup
      split <;> exact rests_isolationNext w _ run
  · exact .refl x s

/-- A result that reaches its engine leaves the channel at rest (R85, R98, R104). -/
theorem rests_onMeasured (v : MeasResult) (s : State) : Rests x s (onMeasured x v s) := by
  unfold onMeasured
  dsimp only
  split
  · split
    · next waits =>
      split
      · split
        · exact (onward_endSweep _ waits.1).rests
        · exact (onward_handConfig _ s).rests
      all_goals
        split
        · exact ((onward_endSweep _ (setSweep_run _ waits.1)).after (onward_setSweep _ s)).rests
        · exact rests_settleMeasured _ _ waits.1
    · exact .refl x s
  · split
    · have idle : Onward x s (s.setBench x { s.bench x with wait := .nothing }) := onward_setBench rfl rfl
      exact ((onward_arrive .empty _).after idle).rests
    · exact .refl x s

/-- The end of an aperture that ends its measurement (R45, R52). -/
theorem measureEnds_apertureEnd (running : s.inReset = false) (measuring : (s.channel x).state = .measuring)
    (alone : (s.channel x).isoPending = false) (h : apertureResult s x code = some v) :
    MeasureEnds s x code (rawResistance code.toNat (s.channel x).range) v := by
  refine ⟨_, exec_apertureEnd running measuring alone h, ?_⟩
  generalize hu : s.setChannel x ((s.channel x).measured code v) = u
  have channel : u.channel x = (s.channel x).measured code v := by rw [← hu, State.setChannel_channel_same]
  have kept : (onMeasured x v u).channel x = (s.channel x).measured code v :=
    (rests_onMeasured v u (by rw [AtRest, channel]; exact ⟨⟨nofun, nofun⟩, alone⟩)).trans channel
  rw [kept, hu]
  exact ⟨rfl, rfl, rfl⟩

/-- An aperture whose measurement goes on writes the channel alone (R50, R51). -/
theorem exec_apertureEnd_goesOn {c : Channel} (running : s.inReset = false) (measuring : (s.channel x).state = .measuring)
    (alone : (s.channel x).isoPending = false) (next : (s.channel x).apertureEnd code = (c, none))
    (waits : c.state = .measuring ∨ s.store.state = .checking) :
    exec (.apertureEnd x code) s = .next (s.setChannel x c) := by
  refine (next_running (fun t => tellChannel x (endAperture x code t)) running).trans (congrArg _ ?_)
  have still : compensate x (s.setChannel x c) = (s.setChannel x c, none) := by
    unfold compensate
    dsimp only
    rw [State.setChannel_channel_same]
    exact if_pos (waits.imp_right fun h => decide_eq_true h)
  rw [endAperture_eq measuring alone, next, if_pos rfl, still]
  rfl

/-! ## A group measurement that outlives its run (R58, R112) -/

/-- The trunk of a run that is over opens at the end of its group measurement (log 45). -/
theorem outlived_apertureEnd {th : Nat} (running : s.inReset = false) (run : (s.bench x).run = .noRun) (wait : (s.bench x).wait = .channel)
    (none : (s.bench x).sweep = none) (measuring : (s.channel x).state = .measuring) (alone : (s.channel x).isoPending = false)
    (hand : (s.channel x).inHand = some (.group th)) (settled : (s.trunk x).state = .settled) (ready : s.matrix.state = .ready)
    (cold : s.hot x = false) (closed : Closed s x) :
    ∃ t, exec (.apertureEnd x code) s = .next t ∧ t.bench x = { s.bench x with wait := .nothing } ∧
      t.channel x = (s.channel x).measured code (groupResult code.toNat th) ∧ (t.trunk x).state = .opening ∧
      (t.trunk x).config = some .empty ∧ t.attention = s.attention := by
  have result : apertureResult s x code = some (groupResult code.toNat th) := by simp only [apertureResult, hand]
  refine ⟨_, exec_apertureEnd running measuring alone result, ?_⟩
  have clears : onMeasured x (groupResult code.toNat th) (s.setChannel x ((s.channel x).measured code (groupResult code.toNat th))) =
      (arrive x .empty ((s.setChannel x ((s.channel x).measured code (groupResult code.toNat th))).setBench x
        { s.bench x with wait := .nothing })).1 := by
    unfold onMeasured
    simp only [State.setChannel_bench, none, run, wait, and_self, if_true]
    rfl
  rw [clears]
  generalize hu : (s.setChannel x ((s.channel x).measured code (groupResult code.toNat th))).setBench x { s.bench x with wait := .nothing } = u
  have channel : u.channel x = (s.channel x).measured code (groupResult code.toNat th) := by
    rw [← hu, State.setBench_channel, State.setChannel_channel_same]
  have bench : u.bench x = { s.bench x with wait := .nothing } := by rw [← hu, State.setBench_bench_same]
  have stands : (u.trunk x).state = .settled := by rw [← hu]; exact settled
  have opens : (trunkRelays u x).opensSome (targetOf (u.window x) .empty) = true := by rw [targetOf_empty, ← hu]; exact closed
  have took : arrive x .empty u = takeUp x .empty u := arrive_takes .empty (by rw [← hu]; exact ready) (.inr stands)
  have handed := handing_arrive x .empty u
  have opening := takeUp_opens (s := u) (c := .empty) (by rw [← hu]; exact cold) opens
  refine ⟨(handed.bench x).trans bench, (arrive_rests .empty (by rw [AtRest, channel]; exact ⟨⟨nofun, nofun⟩, alone⟩)).trans channel, ?_, ?_, ?_⟩
  · rw [took, opening, requestLoad_trunk, State.setTrunk_trunk_same]
  · rw [took, opening, requestLoad_trunk, State.setTrunk_trunk_same]
    rfl
  · rw [handed.attention, ← hu]
    rfl

end

end Sys2Proof.Machine

/-! The locator of the isolation phase: what is tested next, and the results that settle an entry (R97 to R105, R109). -/

namespace Sys2Proof.Machine

section
variable {x y : Station} {s t u : State} {w : Sweep} {r : RunRecord} {e f top : Entry} {rest : List Entry} {v : MeasResult}

/-! ## The numbers of a locator entry -/

theorem isNet_driverAt (w : Sweep) (d : Nat) : (w.driverAt d).isNet = decide (d < w.nets) := by
  by_cases h : d < w.nets
  · rw [Sweep.driverAt, driverAt, if_pos h, decide_eq_true h]
    rfl
  · rw [Sweep.driverAt, driverAt, if_neg h, decide_eq_false h]
    rfl

theorem namesNet_range (w : Sweep) (state : e.state ≠ .confirm) (range : e.first ≤ e.last) :
    w.namesNet e = decide (w.driver < w.nets ∨ e.first < w.nets) := by
  unfold Sweep.namesNet Sweep.candidatesOf
  rw [if_neg state, Bool.eq_iff_iff]
  simp only [List.any_cons, isNet_driverAt, List.any_map, Function.comp_def, span, Bool.or_eq_true, decide_eq_true_eq, List.any_eq_true, List.mem_range]
  refine or_congr_right ⟨?_, fun h => ⟨0, by omega, by omega⟩⟩
  rintro ⟨k, -, h⟩
  omega

theorem namesNet_confirm (w : Sweep) (state : e.state = .confirm) : w.namesNet e = decide (w.driver < w.nets ∨ e.first < w.nets) := by
  unfold Sweep.namesNet Sweep.candidatesOf
  rw [if_pos state]
  simp [isNet_driverAt]

theorem subjectOf_driverAt (w : Sweep) (d point : Nat) : subjectOf (w.driverAt d) point = w.subject d point := by
  by_cases h : d < w.nets
  · rw [Sweep.driverAt, driverAt, if_pos h, Sweep.subject, if_pos h]
    rfl
  · rw [Sweep.driverAt, driverAt, if_neg h, Sweep.subject, if_neg h]
    rfl

/-! ## The entry that is tested next (R98, R104) -/

/-- The configuration of a range test: the driver against candidates first to last (R98). -/
def Sweep.rangeConfig (w : Sweep) (m : List ImageCell) (d first last : Nat) : Configuration :=
  { drive := driverPoints m (w.driverAt d), ret := driversPoints m ((List.range (last + 1 - first)).map (fun i => w.driverAt (first + i))) }

/-- The configuration of a confirm of candidate k (R104). -/
def Sweep.confirmConfig (w : Sweep) (m : List ImageCell) (k : Nat) : Configuration :=
  { drive := pointSet (firstPoint m (w.driverAt w.driver)), ret := pointSet (firstPoint m (w.driverAt k)) }

/-- The sweep record with the driver's first point kept (R98). -/
def Sweep.driven (w : Sweep) (p : Nat) : Sweep := { w with driverFirst := p }

/-- The sweep record with the points of a confirm kept (R104). -/
def Sweep.confirming (w : Sweep) (p q : Nat) : Sweep := { w with driverFirst := p, pairA := p, pairB := q }

theorem handLocator_held (sweep : (s.bench x).sweep = some w) (stack : (s.bench x).locator = e :: rest)
    (held : s.store.state = .checking ∧ w.namesNet e = true) : handLocator x s = holdRead x .locator s := by
  unfold handLocator
  simp only [sweep, stack, checking, held.1, held.2, decide_true, Bool.and_self, if_true]

theorem handLocator_range (sweep : (s.bench x).sweep = some w) (stack : (s.bench x).locator = e :: rest)
    (free : ¬ (s.store.state = .checking ∧ w.namesNet e = true)) (state : e.state ≠ .confirm) :
    handLocator x s =
      handConfig x (w.rangeConfig s.store.words w.driver e.first e.last)
        (setSweep x (w.driven (firstPoint s.store.words (w.driverAt w.driver))) s) := by
  have going : ¬ (checking s && w.namesNet e) = true := by simpa [checking] using free
  have candidates : w.candidatesOf e = (List.range (e.last + 1 - e.first)).map (fun i => w.driverAt (e.first + i)) := by
    rw [Sweep.candidatesOf, if_neg state, span, List.map_map]
    rfl
  unfold handLocator
  simp only [sweep, stack, if_neg going, if_neg state, candidates]
  rfl

theorem handLocator_confirm (sweep : (s.bench x).sweep = some w) (stack : (s.bench x).locator = e :: rest)
    (free : ¬ (s.store.state = .checking ∧ w.namesNet e = true)) (state : e.state = .confirm) :
    handLocator x s =
      handConfig x (w.confirmConfig s.store.words e.first)
        (setSweep x (w.confirming (firstPoint s.store.words (w.driverAt w.driver)) (firstPoint s.store.words (w.driverAt e.first))) s) := by
  have going : ¬ (checking s && w.namesNet e) = true := by simpa [checking] using free
  unfold handLocator
  simp only [sweep, stack, if_neg going, if_pos state]
  rfl

theorem locatorWait_eq (s : State) (w : Sweep) (d first : Nat) :
    locatorWait s w d first =
      if s.store.state = .checking ∧ decide (d < w.nets ∨ first < w.nets) = true then .read .locator else .trunk := by
  simp only [locatorWait, decide_eq_true_eq]

/-- Between s and t the engine of station X tests the top entry of its stack: only what it waits for, its configuration and the points of
the sweep record have changed of the station. -/
structure Tests (x : Station) (s t : State) (w : Sweep) : Prop where
  run : (t.bench x).run = (s.bench x).run
  record : (t.bench x).record = (s.bench x).record
  banks : (t.bench x).banks = (s.bench x).banks
  locator : (t.bench x).locator = (s.bench x).locator
  attention : t.attention = s.attention
  sweep : ∃ p a b, (t.bench x).sweep = some { w with driverFirst := p, pairA := a, pairB := b }

theorem tests_handConfig (c : Configuration) (p a b : Nat) (s : State) :
    Tests x s (handConfig x c (setSweep x { w with driverFirst := p, pairA := a, pairB := b } s)) w := by
  have bench : (handConfig x c (setSweep x { w with driverFirst := p, pairA := a, pairB := b } s)).bench x =
      ((s.bench x).withSweep { w with driverFirst := p, pairA := a, pairB := b }).handing c := by
    rw [handConfig_bench_same, setSweep_bench]
  have attention := (apart_handConfig x c (setSweep x { w with driverFirst := p, pairA := a, pairB := b } s)).attention
  refine ⟨?_, ?_, ?_, ?_, attention, p, a, b, ?_⟩ <;> rw [bench] <;> rfl

theorem tests_holdRead (k : ReadPoint) (sweep : (s.bench x).sweep = some w) : Tests x s (holdRead x k s) w := by
  have bench : (holdRead x k s).bench x = { s.bench x with wait := .read k } := State.setBench_bench_same _ _ _
  refine ⟨?_, ?_, ?_, ?_, rfl, w.driverFirst, w.pairA, w.pairB, ?_⟩ <;> rw [bench]
  exact sweep

/-- A range is tested next (R98). -/
theorem tests_range (sweep : (s.bench x).sweep = some w) (stack : (s.bench x).locator = e :: rest) (state : e.state ≠ .confirm)
    (range : e.first ≤ e.last) :
    Tests x s (handLocator x s) w ∧ ((handLocator x s).bench x).wait = locatorWait s w w.driver e.first ∧
    RangeHanded s (handLocator x s) x w w.driver e.first e.last := by
  have names := namesNet_range w state range
  have waits := locatorWait_eq s w w.driver e.first
  rw [← names] at waits
  by_cases held : s.store.state = .checking ∧ w.namesNet e = true
  · rw [if_pos held] at waits
    rw [handLocator_held sweep stack held]
    refine ⟨tests_holdRead .locator sweep, ?_, fun free => nomatch waits.symm.trans free⟩
    rw [waits]
    exact congrArg Bench.wait (State.setBench_bench_same s x _)
  · rw [if_neg held] at waits
    rw [handLocator_range sweep stack held state]
    obtain ⟨wait, handed, has⟩ := handConfig_handed x (w.rangeConfig s.store.words w.driver e.first e.last)
      (setSweep x (w.driven (firstPoint s.store.words (w.driverAt w.driver))) s)
    refine ⟨tests_handConfig _ _ w.pairA w.pairB s, wait.trans waits.symm, fun _ c hc => ?_⟩
    have same : c = w.rangeConfig s.store.words w.driver e.first e.last := hc
    rw [same]
    refine ⟨handed, has, ?_⟩
    rw [handConfig_bench_same, setSweep_bench]
    rfl

/-- A confirm is made next (R104). -/
theorem tests_confirm (sweep : (s.bench x).sweep = some w) (stack : (s.bench x).locator = e :: rest) (state : e.state = .confirm) :
    Tests x s (handLocator x s) w ∧ ((handLocator x s).bench x).wait = locatorWait s w w.driver e.first ∧
    ConfirmHanded s (handLocator x s) x w e.first := by
  have names := namesNet_confirm w state
  have waits := locatorWait_eq s w w.driver e.first
  rw [← names] at waits
  by_cases held : s.store.state = .checking ∧ w.namesNet e = true
  · rw [if_pos held] at waits
    rw [handLocator_held sweep stack held]
    refine ⟨tests_holdRead .locator sweep, ?_, fun free => nomatch waits.symm.trans free⟩
    rw [waits]
    exact congrArg Bench.wait (State.setBench_bench_same s x _)
  · rw [if_neg held] at waits
    rw [handLocator_confirm sweep stack held state]
    obtain ⟨wait, handed, has⟩ := handConfig_handed x (w.confirmConfig s.store.words e.first)
      (setSweep x (w.confirming (firstPoint s.store.words (w.driverAt w.driver)) (firstPoint s.store.words (w.driverAt e.first))) s)
    refine ⟨tests_handConfig _ _ _ _ s, wait.trans waits.symm, fun _ p hp q hq c hc => ?_⟩
    have same : c = w.confirmConfig s.store.words e.first := by rw [hc, hp, hq]; rfl
    rw [same]
    refine ⟨handed, has, ?_⟩
    rw [handConfig_bench_same, setSweep_bench, hp, hq]
    rfl

end

end Sys2Proof.Machine

/-! The results that settle an entry of the isolation phase, and the end of a driver (R98, R101 to R105, R109). -/

namespace Sys2Proof.Machine

section
variable {x y : Station} {s t u : State} {w w' : Sweep} {r : RunRecord} {e f top : Entry} {rest : List Entry} {v : MeasResult} {ds : List Defect}
  {short : Bool}

theorem locatorWait_congr (store : u.store = s.store) (nets : w'.nets = w.nets) (d first : Nat) :
    locatorWait u w' d first = locatorWait s w d first := by
  simp only [locatorWait, store, nets]

theorem RangeHanded.congr {d first last : Nat} (h : RangeHanded u t x w' d first last) (store : u.store = s.store) (nets : w'.nets = w.nets)
    (unused : w'.unused = w.unused) : RangeHanded s t x w d first last := fun wait c hc => by
  have h' := h ((locatorWait_congr store nets d first).trans wait) c (by rw [hc, store, nets, unused])
  rwa [store, nets, unused] at h'

/-- Between s and u these defects have been recorded in the run of station X, whose sweep stands now at record w and whose trunk and store
are as they were. -/
structure Reached (x : Station) (short : Bool) (ds : List Defect) (s u : State) (w : Sweep) : Prop where
  store : u.store = s.store
  matrix : u.matrix = s.matrix
  run : (u.bench x).run = .continuity
  sweep : (u.bench x).sweep = some w
  record : (u.bench x).record = ((s.bench x).recorded short ds).record
  banks : (u.bench x).banks = ((s.bench x).recorded short ds).banks
  notified : ds ≠ [] → Notified s u x.port srcDefect
  silent : ds = [] → u.attention = s.attention

theorem Reached.closed (h : Reached x short ds s u w) (closed : Closed s x) : Closed u x := by
  rw [Closed, trunkRelays, State.window, h.matrix]
  exact closed

/-- The sweep and the stack are replaced, and defects recorded behind it. -/
theorem reached_recording {b : Bench} (run : b.run = .continuity) (sweep : b.sweep = some w) (record : b.record = (s.bench x).record)
    (banks : b.banks = (s.bench x).banks) (has : (s.bench x).record = some r) :
    Reached x short ds s (recording x short ds (s.setBench x b)) w ∧
    ((recording x short ds (s.setBench x b)).bench x).locator = b.locator := by
  have booked := booked_recording x short ds (s.setBench x b)
  have bench := recording_bench x short ds (s.setBench x b)
  rw [State.setBench_bench_same] at bench
  obtain ⟨record', banks'⟩ := recorded_congr (b := s.bench x) (c := b) record banks short ds
  obtain ⟨keptRun, keptSweep, keptStack, -⟩ := recorded_keeps b short ds
  refine ⟨⟨booked.store, booked.matrix, ?_, ?_, ?_, ?_, fun some_ => ?_, fun none => ?_⟩, ?_⟩
  · rw [bench, keptRun, run]
  · rw [bench, keptSweep, sweep]
  · rw [bench, record']
  · rw [bench, banks']
  · exact recording_notifies (s := s.setBench x b) short some_ (r := r) (by rw [State.setBench_bench_same, record, has])
  · rw [none]
    rfl
  · rw [bench, keptStack]

/-- Defects recorded without a sweep or stack in between: lists of defects in a row. -/
theorem recorded_append (b : Bench) (short : Bool) (ds es : List Defect) : (b.recorded short ds).recorded short es = b.recorded short (ds ++ es) := by
  induction ds generalizing b with
  | nil => rfl
  | cons d ds ih =>
    cases record : b.record with
    | some r => simp only [Bench.recorded, List.cons_append, record, ih]
    | none =>
      simp only [Bench.recorded, List.cons_append, record]
      cases es <;> simp only [Bench.recorded, record]

theorem Reached.tests (h : Reached x short ds s u w) (k : Tests x u t w) : Recorded s t x short ds :=
  ⟨k.record.trans h.record, k.banks.trans h.banks, fun some_ on => by
    have raised := h.notified some_ on
    rw [State.unit, ← k.attention] at raised
    exact raised⟩

/-! ## The end of a sweep behind recorded defects -/

theorem Reached.ends {c : Continuity} (h : Reached x short ds s u w) (closed : Closed s x) :
    (∀ r, ((s.bench x).recorded short ds).record = some r → SweepEnded ((endSweep x c u).bench x) r c) ∧
    ((endSweep x c u).bench x).banks = ((s.bench x).recorded short ds).banks ∧
    (ds ≠ [] → Notified s (endSweep x c u) x.port srcDefect) := by
  have bench := endSweep_bench c (h.closed closed)
  refine ⟨fun r record => ?_, ?_, fun some_ => (h.notified some_).worked (worked_endSweep _ _ _)⟩
  · rw [bench]
    exact sweepEnded_swept c h.run (h.record.trans record) (by rw [h.sweep]; rfl)
  · rw [bench]
    exact h.banks

/-! ## The next driver (R98, R109) -/

/-- The sweep record at the start of a driver (R97, R98). -/
def Sweep.onDriver (w : Sweep) (d : Nat) : Sweep := { w with driver := d, candidates := w.drivers - 1 - d, groupDriver := 0 }

/-- A station at the start of a driver, with all its candidates to be tested. -/
def Bench.driving (b : Bench) (w : Sweep) (d : Nat) : Bench :=
  { b with sweep := some (w.onDriver d), locator := [Entry.due (d + 1) (w.drivers - 1)] }

theorem startDriver_ends {d : Nat} (sweep : (s.bench x).sweep = some w) (last : w.drivers ≤ d + 1) : startDriver x d s = endSweep x .done s := by
  unfold startDriver
  simp only [sweep, if_pos last]

theorem startDriver_goesOn {d : Nat} (sweep : (s.bench x).sweep = some w) (more : d + 1 < w.drivers) :
    startDriver x d s = handLocator x (s.setBench x ((s.bench x).driving w d)) := by
  unfold startDriver
  simp only [sweep, if_neg (Nat.not_le.mpr more)]
  rfl

/-- Between s and t driver d of a sweep is tested against all its candidates (R97, R98). -/
theorem Reached.drives {d : Nat} (h : Reached x short ds s u w) (more : d + 1 < w.drivers) :
    Recorded s (startDriver x d u) x short ds ∧ ((startDriver x d u).bench x).locator = [Entry.due (d + 1) (w.drivers - 1)] ∧
    ((startDriver x d u).bench x).run = .continuity ∧
    (∃ p a b, ((startDriver x d u).bench x).sweep = some { w.onDriver d with driverFirst := p, pairA := a, pairB := b }) ∧
    ((startDriver x d u).bench x).wait = locatorWait s w d (d + 1) ∧ RangeHanded s (startDriver x d u) x w d (d + 1) (w.drivers - 1) ∧
    (ds = [] → (startDriver x d u).attention = s.attention) := by
  rw [startDriver_goesOn h.sweep more]
  generalize hb : u.setBench x ((u.bench x).driving w d) = b
  have bench : b.bench x = (u.bench x).driving w d := by rw [← hb, State.setBench_bench_same]
  have reached : Reached x short ds s b (w.onDriver d) := by
    refine ⟨?_, ?_, ?_, ?_, ?_, ?_, ?_, ?_⟩
    · rw [← hb]; exact h.store
    · rw [← hb]; exact h.matrix
    · rw [bench]; exact h.run
    · rw [bench]; rfl
    · rw [bench]; exact h.record
    · rw [bench]; exact h.banks
    · rw [← hb]; exact h.notified
    · rw [← hb]; exact h.silent
  have stack : (b.bench x).locator = [Entry.due (d + 1) (w.drivers - 1)] := by rw [bench]; rfl
  obtain ⟨tests, wait, handed⟩ := tests_range reached.sweep stack nofun (show d + 1 ≤ w.drivers - 1 by omega)
  exact ⟨reached.tests tests, tests.locator.trans stack, tests.run.trans reached.run, tests.sweep,
    wait.trans (locatorWait_congr reached.store rfl d _), handed.congr reached.store rfl rfl, fun none => tests.attention.trans (reached.silent none)⟩

/-- A driver is done (R98, R109). -/
theorem driverDone_startDriver (h : Reached x true ds s u w') (driver : w'.driver = w.driver) (nets : w'.nets = w.nets)
    (unused : w'.unused = w.unused) (span : w'.span = w.span) (members : w'.members = w.members) :
    DriverDone s (startDriver x (w'.driver + 1) u) x w ds := by
  have drivers : w'.drivers = w.nets + (w.span - w.members) := by rw [Sweep.drivers, nets, span, members]
  refine ⟨fun more => ?_, fun last closed => ?_⟩
  · obtain ⟨recorded, stack, -, ⟨p, a, b, sweep⟩, wait, handed, -⟩ := h.drives (d := w'.driver + 1) (by rw [drivers, driver]; omega)
    rw [driver, drivers] at stack handed
    rw [driver] at wait sweep
    have candidates : w'.drivers - 1 - (w.driver + 1) = w.nets + (w.span - w.members) - 2 - w.driver := by rw [drivers]; omega
    refine ⟨recorded, by rw [driver]; exact stack, ?_, ?_, ?_⟩
    · rw [driver, sweep]
      simp only [Option.map_some, Sweep.onDriver, candidates]
    · rw [driver, wait]
      exact locatorWait_congr rfl nets _ _
    · rw [driver]
      exact handed.congr rfl nets unused
  · rw [startDriver_ends h.sweep (by rw [drivers, driver]; omega)]
    exact h.ends closed

/-! ## What a settled entry leaves (R101, R103) -/

/-- A station whose stack has been settled, its sweep record counted. -/
def Bench.stacked (b : Bench) (w : Sweep) (l : List Entry) : Bench := { b with sweep := some w, locator := l }

theorem isolationNext_free (free : w.limit = 0) (l : List Entry × List Entry) :
    isolationNext x w l s =
      if l.1 = [] then startDriver x (w.driver + 1) (recording x true (l.2.map w.leakGroup) (s.setBench x ((s.bench x).stacked w l.1)))
      else handLocator x (recording x true (l.2.map w.leakGroup) (s.setBench x ((s.bench x).stacked w l.1))) := by
  unfold isolationNext
  dsimp only
  rw [recordAll_free true _ free]
  rfl

theorem isolationNext_plain (w : Sweep) (l : List Entry) :
    isolationNext x w (l, []) s =
      if l = [] then startDriver x (w.driver + 1) (s.setBench x ((s.bench x).stacked w l))
      else handLocator x (s.setBench x ((s.bench x).stacked w l)) := rfl

/-- The lower half of an entry is done with (R103). -/
theorem upperNext_handLocator (h : Reached x short ds s u w') (stack : (u.bench x).locator = f.upperHalf :: { f with state := .upper } :: rest)
    (range : f.first < f.last) (driver : w'.driver = w.driver) (nets : w'.nets = w.nets) (unused : w'.unused = w.unused) :
    UpperNext s (handLocator x u) x w f rest ∧ Recorded s (handLocator x u) x short ds ∧
    ∃ p a b, ((handLocator x u).bench x).sweep = some { w' with driverFirst := p, pairA := a, pairB := b } := by
  have mid : f.mid + 1 = f.first + (f.last + 2 - f.first) / 2 := by
    simp only [Entry.mid, Entry.size]
    omega
  have upper : f.upperHalf = { first := f.first + (f.last + 2 - f.first) / 2, last := f.last, state := .toMeasure, value := none, halfFailed := false } := by
    rw [Entry.upperHalf, mid]
    rfl
  obtain ⟨tests, wait, handed⟩ := tests_range h.sweep stack nofun (by rw [upper]; show f.first + _ ≤ f.last; omega)
  rw [upper] at wait handed stack
  rw [driver] at wait handed
  exact ⟨⟨tests.locator.trans stack, wait.trans (locatorWait_congr h.store nets _ _), handed.congr h.store nets unused⟩, h.tests tests, tests.sweep⟩

end

end Sys2Proof.Machine

/-! The end of an aperture in the isolation phase (R98, R101 to R105, R109). -/

namespace Sys2Proof.Machine

section
variable {x y : Station} {s t u : State} {w w' : Sweep} {r : RunRecord} {e f top : Entry} {rest : List Entry} {v : MeasResult} {ds : List Defect}
  {short : Bool} {code : Word16}

/-- With the sweep record and the stack replaced, what has been recorded stands. -/
theorem Reached.stacked (h : Reached x short ds s u w) (w' : Sweep) (l : List Entry) :
    Reached x short ds s (u.setBench x ((u.bench x).stacked w' l)) w' ∧ ((u.setBench x ((u.bench x).stacked w' l)).bench x).locator = l := by
  have bench : (u.setBench x ((u.bench x).stacked w' l)).bench x = (u.bench x).stacked w' l := State.setBench_bench_same _ _ _
  refine ⟨⟨h.store, h.matrix, ?_, ?_, ?_, ?_, h.notified, h.silent⟩, by rw [bench]; rfl⟩
  · rw [bench]; exact h.run
  · rw [bench]; rfl
  · rw [bench]; exact h.record
  · rw [bench]; exact h.banks

/-! ## The counts (R98, R104) -/

/-- The sweep record with one more range test counted. -/
def Sweep.grouped (w : Sweep) : Sweep := { w with groupDriver := w.groupDriver + 1, groupSweep := w.groupSweep + 1 }

/-- The sweep record with one more confirm counted. -/
def Sweep.confirmed (w : Sweep) : Sweep := { w with confirms := w.confirms + 1 }

theorem counted_range (phase : w.phase = .isolation) (state : top.state ≠ .confirm) : w.counted (top :: rest) = w.grouped := by
  simp only [Sweep.counted, phase, if_neg state, Sweep.grouped]

theorem counted_confirm (phase : w.phase = .isolation) (state : top.state = .confirm) : w.counted (top :: rest) = w.confirmed := by
  simp only [Sweep.counted, phase, if_pos state, Sweep.confirmed]

/-- What the end of an aperture settles in the isolation phase (R98, R104). -/
theorem isolation_settles (waits : SweepWaits s x w r) (phase : w.phase = .isolation) (going : r.abortPending = false)
    (h : apertureResult s x code = some v) (stack : (s.bench x).locator = top :: rest) :
    exec (.apertureEnd x code) s =
      .next (if top.state = .confirm then onConfirm x w.confirmed top v (s.setChannel x ((s.channel x).measured code v))
        else onGroup x w.grouped v (s.setChannel x ((s.channel x).measured code v))) := by
  obtain ⟨running, run, wait, sweep, record, measuring, alone⟩ := waits
  rw [exec_apertureEnd running measuring alone h]
  refine congrArg _ ?_
  have calm : aborting (s.setChannel x ((s.channel x).measured code v)) x = false := (aborting_eq (s := s.setChannel x _) record).trans going
  rw [onMeasured_completes (s := s.setChannel x ((s.channel x).measured code v)) sweep run wait (apertureResult_completes h), calm,
    if_neg Bool.false_ne_true]
  by_cases state : top.state = .confirm
  · rw [if_pos state, State.setChannel_bench, stack, counted_confirm phase state]
    have phase' : w.confirmed.phase = .isolation := phase
    unfold settleMeasured
    simp only [phase', State.setChannel_bench, stack, if_pos state]
  · rw [if_neg state, State.setChannel_bench, stack, counted_range phase state]
    have phase' : w.grouped.phase = .isolation := phase
    unfold settleMeasured
    simp only [phase', State.setChannel_bench, stack, if_neg state]

/-! ## Results that settle the top entry -/

theorem onGroup_clean (w : Sweep) (o : Option Nat) (stack : (s.bench x).locator = top :: rest) :
    onGroup x w (.clean o) s = isolationNext x w (locatorUnwind rest) s := by
  show isolationNext x w (locatorRemove (s.bench x).locator) s = _
  rw [stack]
  rfl

theorem locatorUnwind_lower (state : f.state = .lower) : locatorUnwind (f :: rest) = (f.upperHalf :: { f with state := .upper } :: rest, []) := by
  simp only [locatorUnwind, state]

theorem locatorUnwind_upper (state : f.state = .upper) : locatorUnwind [f] = ([], if f.halfFailed then [] else [f]) := by
  simp only [locatorUnwind, state]
  split <;> rfl

/-- The recording of an entry's end, as the isolation phase goes on. -/
theorem reached_isolation (w : Sweep) (l : List Entry) (ds : List Defect) (run : (s.bench x).run = .continuity) (record : (s.bench x).record = some r) :
    Reached x true ds s (recording x true ds (s.setBench x ((s.bench x).stacked w l))) w ∧
    ((recording x true ds (s.setBench x ((s.bench x).stacked w l))).bench x).locator = l :=
  reached_recording run rfl rfl rfl record

theorem leakGroup_eq (w : Sweep) (f : Entry) :
    w.leakGroup f =
      { seq := 0, kind := .leakGroup, a := some (w.subject w.driver w.driverFirst), b := .range (w.driverAt f.first) (w.driverAt f.last),
        selection := none, value := f.value.map (fun z => (z + 500) / 1000), range := some 3 } := by
  rw [Sweep.leakGroup, Sweep.driverSubject, subjectOf_driverAt]
  rfl

/-- A CLEAN removes its entry (R101, R103). -/
theorem clean_settles {o : Option Nat} (run : (s.bench x).run = .continuity) (record : (s.bench x).record = some r) (free : w.limit = 0)
    (stack : (s.bench x).locator = top :: rest) :
    (rest = [] → DriverDone s (onGroup x w.grouped (.clean o) s) x w []) ∧
    ∀ f, rest.head? = some f →
      (f.state = .lower → f.first < f.last →
        UpperNext s (onGroup x w.grouped (.clean o) s) x w f rest.tail ∧ Recorded s (onGroup x w.grouped (.clean o) s) x true [] ∧
        ((onGroup x w.grouped (.clean o) s).bench x).sweep.map (fun u => (u.groupDriver, u.groupSweep)) =
          some (w.groupDriver + 1, w.groupSweep + 1)) ∧
      (f.state = .upper → rest.tail = [] →
        DriverDone s (onGroup x w.grouped (.clean o) s) x w
          (if f.halfFailed then []
          else [{ seq := 0, kind := .leakGroup, a := some (w.subject w.driver w.driverFirst),
                  b := .range (w.driverAt f.first) (w.driverAt f.last), selection := none,
                  value := f.value.map (fun z => (z + 500) / 1000), range := some 3 }])) := by
  rw [onGroup_clean w.grouped o stack]
  refine ⟨fun last => ?_, fun f head => ?_⟩
  · rw [last]
    obtain ⟨reached, -⟩ := reached_isolation w.grouped [] [] run record
    exact driverDone_startDriver reached rfl rfl rfl rfl rfl
  · have cons := cons_of_head head
    generalize rest.tail = tail at cons
    subst cons
    refine ⟨fun lower range => ?_, fun upper last => ?_⟩
    · rw [locatorUnwind_lower lower, isolationNext_plain, if_neg (List.cons_ne_nil _ _)]
      obtain ⟨reached, stack'⟩ := reached_isolation w.grouped (f.upperHalf :: { f with state := .upper } :: tail) [] run record
      obtain ⟨next, recorded, p, a, b, sweep⟩ := upperNext_handLocator reached stack' range rfl rfl rfl
      have shown : recording x true [] (s.setBench x ((s.bench x).stacked w.grouped (f.upperHalf :: { f with state := .upper } :: tail))) =
          s.setBench x ((s.bench x).stacked w.grouped (f.upperHalf :: { f with state := .upper } :: tail)) := rfl
      rw [shown] at next recorded sweep
      refine ⟨next, recorded, ?_⟩
      rw [sweep]
      rfl
    · rw [show tail = [] from last, locatorUnwind_upper upper, isolationNext_free (show w.grouped.limit = 0 from free), if_pos rfl]
      have reached := (reached_isolation w.grouped [] ((if f.halfFailed then [] else [f]).map w.grouped.leakGroup) run record).1
      have same : (if f.halfFailed then [] else [f]).map w.grouped.leakGroup =
          if f.halfFailed then [] else
            [{ seq := 0, kind := .leakGroup, a := some (w.subject w.driver w.driverFirst), b := .range (w.driverAt f.first) (w.driverAt f.last),
               selection := none, value := f.value.map (fun z => (z + 500) / 1000), range := some 3 }] := by
        split
        · rfl
        · rw [List.map_singleton, leakGroup_eq]
          rfl
      rw [← same]
      exact driverDone_startDriver reached rfl rfl rfl rfl rfl

/-- A confirm records its SHORT and removes its entry (R104). -/
theorem confirm_settles {value : Option Nat} {range : Nat} (run : (s.bench x).run = .continuity) (record : (s.bench x).record = some r)
    (free : w.limit = 0) (stack : (s.bench x).locator = top :: rest)
    (defect : w.confirmed.shortDefect top v =
      { seq := 0, kind := .short, a := some (w.subject w.driver w.driverFirst), b := .single (w.subject top.first w.pairB), selection := none,
        value := value, range := some range }) :
    Confirmed s (onConfirm x w.confirmed top v s) x w top rest value range := by
  rintro d rfl
  have first := (reached_recording (s := s) (x := x) (short := true) (b := (s.bench x).withSweep w.confirmed)
    (ds := [w.confirmed.shortDefect top v]) (w := w.confirmed) run rfl rfl rfl record).1
  have shown : onConfirm x w.confirmed top v s =
      isolationNext x w.confirmed (locatorUnwind rest)
        (recording x true [w.confirmed.shortDefect top v] (s.setBench x ((s.bench x).withSweep w.confirmed))) := by
    unfold onConfirm
    dsimp only
    rw [recordAll_free true _ (show w.confirmed.limit = 0 from free), if_neg Bool.false_ne_true, stack]
    rfl
  rw [shown, ← defect]
  generalize recording x true [w.confirmed.shortDefect top v] (s.setBench x ((s.bench x).withSweep w.confirmed)) = u at first
  refine ⟨fun last => ?_, fun f head lower range => ?_⟩
  · rw [last]
    exact driverDone_startDriver (first.stacked w.confirmed []).1 rfl rfl rfl rfl rfl
  · have cons := cons_of_head head
    generalize rest.tail = tail at cons
    subst cons
    rw [locatorUnwind_lower lower, isolationNext_plain, if_neg (List.cons_ne_nil _ _)]
    obtain ⟨reached, stack'⟩ := first.stacked w.confirmed (f.upperHalf :: { f with state := .upper } :: tail)
    obtain ⟨next, recorded, p, a, b, sweep⟩ := upperNext_handLocator reached stack' range rfl rfl rfl
    refine ⟨next, recorded, ?_⟩
    rw [sweep]
    rfl

theorem shortDefect_pair (w : Sweep) (top : Entry) (z k : Nat) :
    w.confirmed.shortDefect top (.pairValue z k) =
      { seq := 0, kind := .short, a := some (w.subject w.driver w.driverFirst), b := .single (w.subject top.first w.pairB), selection := none,
        value := some z, range := some k } := by
  unfold Sweep.shortDefect Sweep.driverSubject
  rw [subjectOf_driverAt, subjectOf_driverAt]
  rfl

theorem shortDefect_open (w : Sweep) (top : Entry) :
    w.confirmed.shortDefect top .openWire =
      { seq := 0, kind := .short, a := some (w.subject w.driver w.driverFirst), b := .single (w.subject top.first w.pairB), selection := none,
        value := none, range := some 3 } := by
  unfold Sweep.shortDefect Sweep.driverSubject
  rw [subjectOf_driverAt, subjectOf_driverAt]
  rfl

/-- Settles O31: the channel's part through `apertureResult`, the isolation phase through `isolation_settles`. -/
theorem apertureJudged : Obligations.ApertureJudged := by
  refine ⟨fun s x code running run wait none measuring alone th hand settled ready cold closed _ =>
    outlived_apertureEnd running run wait none measuring alone hand settled ready cold closed,
    fun s x code running c hc measuring alone raw hraw => ?_,
    fun s x code running w sweep r record waits phase free going v hv top head rest hrest => ?_⟩
  · subst hc hraw
    have ends (v : MeasResult) (h : apertureResult s x code = some v) := measureEnds_apertureEnd running measuring alone h
    refine ⟨fun range => ?_, fun p q k hand => ⟨fun down low => ?_, fun saturated top => ends _ ?_, fun fits => ⟨fun held => ?_, fun free => ends _ ?_⟩⟩,
      fun t hand top => ?_⟩
    · rw [Channel.current, if_pos measuring]
      have cases : (s.channel x).range = 0 ∨ (s.channel x).range = 1 ∨ (s.channel x).range = 2 ∨ (s.channel x).range = 3 := by omega
      rcases cases with h | h | h | h <;> rw [h] <;> rfl
    · refine exec_apertureEnd_goesOn running measuring alone ?_ (.inl measuring)
      have steps : Config.stepDown ≤ code.toNat ∧ (s.channel x).range < 3 := ⟨down, low⟩
      simp only [Channel.apertureEnd, hand, if_pos steps, alone, Bool.false_eq_true, if_false]
      rfl
    · have going : ¬ (60000 ≤ code.toNat ∧ (s.channel x).range < 3) := by omega
      simp only [apertureResult, hand, if_neg going, if_pos saturated]
    · refine exec_apertureEnd_goesOn running measuring alone ?_ (.inr held)
      have going : ¬ (Config.stepDown ≤ code.toNat ∧ (s.channel x).range < 3) := by show ¬ (60000 ≤ _ ∧ _); omega
      have below : ¬ Config.overRange ≤ code.toNat := by show ¬ 65520 ≤ _; omega
      simp only [Channel.apertureEnd, hand, if_neg going, if_neg below]
      rfl
    · have going : ¬ (60000 ≤ code.toNat ∧ (s.channel x).range < 3) := by omega
      have below : ¬ 65520 ≤ code.toNat := by omega
      simp only [apertureResult, hand, if_neg going, if_neg below, if_neg free]
      rfl
    · have result : apertureResult s x code = some (groupResult code.toNat t) := by simp only [apertureResult, hand]
      have judged := ends _ result
      rw [groupResult, ← top] at judged
      exact judged
  · obtain ⟨tail, stack⟩ := List.head?_eq_some_iff.mp head
    rw [stack] at hrest
    obtain rfl : rest = tail := hrest
    have ⟨_, run, _⟩ := waits
    refine ⟨_, isolation_settles waits phase going hv stack, fun state o clean => ?_, fun z k pair state => ?_, fun opened state => ?_⟩
    · subst clean
      rw [if_neg (by rw [state]; nofun)]
      exact clean_settles (s := s.setChannel x ((s.channel x).measured code (.clean o))) run record free stack
    · subst pair
      rw [if_pos state]
      exact confirm_settles (s := s.setChannel x ((s.channel x).measured code (.pairValue z k))) run record free stack (shortDefect_pair w top z k)
    · subst opened
      rw [if_pos state]
      exact confirm_settles (s := s.setChannel x ((s.channel x).measured code .openWire)) run record free stack (shortDefect_open w top)

end

end Sys2Proof.Machine

/-! The walk of the connection phase behind a result, and the end of the phase (R84 to R93, R97). -/

namespace Sys2Proof.Machine

section
variable {x y : Station} {s t u : State} {w w' : Sweep} {r : RunRecord} {v : MeasResult} {ds : List Defect} {code : Word16} {pos i j : Nat}

/-! ## A pair handed -/

theorem Reached.resweep {short : Bool} (h : Reached x short ds s u w) (w' : Sweep) : Reached x short ds s (setSweep x w' u) w' := by
  have bench := setSweep_bench x w' u
  refine ⟨h.store, h.matrix, ?_, ?_, ?_, ?_, h.notified, h.silent⟩ <;> rw [bench]
  · exact h.run
  · rfl
  · exact h.record
  · exact h.banks

/-- The walk comes to the pair of its sweep record (R85). -/
theorem Reached.hands (h : Reached x false ds s u w') (open_ : s.store.state ≠ .checking) :
    Recorded s (handPair x u) x false ds ∧ ((handPair x u).bench x).sweep = some (w'.paired s.store.words) ∧
    Handed (handPair x u) x (w'.pairConfig s.store.words) := by
  have open' : u.store.state ≠ .checking := by rw [h.store]; exact open_
  have hands := handPair_hands open' h.sweep
  have bench := handPair_bench open' h.sweep
  have attention : (handPair x u).attention = u.attention := by
    rw [hands]
    exact (apart_handConfig x _ _).attention
  have handed := handConfig_handed x (w'.pairConfig u.store.words) (setSweep x (w'.paired u.store.words) u)
  rw [← hands, h.store] at handed
  rw [h.store] at bench
  refine ⟨⟨?_, ?_, fun some_ on => ?_⟩, by rw [bench]; rfl, handed⟩
  · rw [bench]; exact h.record
  · rw [bench]; exact h.banks
  · have raised := h.notified some_ on
    rw [State.unit, ← attention] at raised
    exact raised

/-- The walk comes to the pair of its sweep record, which has one more pair counted. -/
theorem Reached.walks (h : Reached x false ds s u w') (open_ : s.store.state ≠ .checking) (pairs : w'.pairs = w.pairs + 1) :
    WalksTo (handPair x u) x w w'.held w'.retest w'.pos w'.anchor (w'.pair s.store.words).1 (w'.pair s.store.words).2 ∧
    Recorded s (handPair x u) x false ds := by
  obtain ⟨recorded, sweep, handed⟩ := h.hands open_
  refine ⟨⟨?_, handed⟩, recorded⟩
  rw [sweep, ← pairs]
  rfl

/-- The sweep record at a member position of its net. -/
def Sweep.atPos (w : Sweep) (pos : Nat) : Sweep := { w with pos := pos }

/-- The walk goes on at a member of its net (R85). -/
theorem Reached.walksOn (h : Reached x false ds s u w') (open_ : s.store.state ≠ .checking) (pairs : w'.pairs = w.pairs + 1)
    (calm : w'.retest = false) (more : pos < w'.netCount) :
    WalksTo (walkOn x w' pos u) x w w'.held false pos w'.anchor w'.anchor (memberAt s.store.words (w'.netFirst + pos)) ∧
    Recorded s (walkOn x w' pos u) x false ds := by
  obtain ⟨walks, recorded⟩ := (h.resweep (w'.atPos pos)).walks (w := w) open_ pairs
  have calm' : (w'.atPos pos).retest = false := calm
  have pair : (w'.atPos pos).pair s.store.words = (w'.anchor, memberAt s.store.words (w'.netFirst + pos)) := by
    rw [Sweep.pair, if_neg (by rw [calm']; decide)]
    rfl
  have shown : walkOn x w' pos u = handPair x (setSweep x (w'.atPos pos) u) := if_pos more
  rw [pair, calm'] at walks
  rw [shown]
  exact ⟨walks, recorded⟩

/-- … or with the next net that has a pair (R84). -/
theorem Reached.nextNet (h : Reached x false ds s u w') (open_ : s.store.state ≠ .checking) (pairs : w'.pairs = w.pairs + 1)
    (next : nextPaired s.store.words w'.nets i = some j) :
    (((beginNet x i u).bench x).sweep.map (fun v => (v.net, v.netCount, v.netFirst, v.netThreshold, v.reselected)) =
      some (j, netCount s.store.words j, netFirst s.store.words j, netThreshold s.store.words j w'.threshold, false)) ∧
    WalksTo (beginNet x i u) x w w'.held false 1 (memberAt s.store.words (netFirst s.store.words j))
      (memberAt s.store.words (netFirst s.store.words j)) (memberAt s.store.words (netFirst s.store.words j + 1)) ∧
    Recorded s (beginNet x i u) x false ds := by
  have hands := beginNet_hands (x := x) (s := u) (i := i) (j := j) (by rw [h.store]; exact open_) h.sweep (by rw [h.store]; exact next)
  rw [h.store] at hands
  have entered := h.resweep (w'.enterNet s.store.words j)
  obtain ⟨walks, recorded⟩ := entered.walks (w := w) open_ pairs
  obtain ⟨-, sweep, -⟩ := entered.hands open_
  rw [hands]
  exact ⟨by rw [sweep]; rfl, walks, recorded⟩

/-! ## The end of the connection phase (R93, R97) -/

/-- The sweep record at the entry of the isolation phase (R93, R97). -/
def Sweep.isolating (w : Sweep) : Sweep :=
  { w with phase := .isolation, driver := 0, candidates := 0, groupDriver := 0, groupSweep := 0, confirms := 0 }

/-- The sweep record with span, members, short threshold and unused points read (R97). -/
def Sweep.spanned (w : Sweep) (m : List ImageCell) : Sweep :=
  { w with span := hdrSpan m, members := hdrMembers m, short := hdrShort m, unused := unusedPoints m (hdrSpan m) (hdrMembers m) }

theorem connectionEnd_only (sweep : (s.bench x).sweep = some w) (scope : w.scope = .connectionOnly) : connectionEnd x s = endSweep x .notDone s := by
  unfold connectionEnd
  simp only [sweep, scope]

theorem connectionEnd_full (open_ : s.store.state ≠ .checking) (sweep : (s.bench x).sweep = some w) (scope : w.scope = .full) :
    connectionEnd x s =
      startDriver x 0 (setSweep x (w.isolating.spanned s.store.words) (s.setBench x ((s.bench x).stacked w.isolating []))) := by
  have free : checking (s.setBench x ((s.bench x).stacked w.isolating [])) = false := decide_eq_false open_
  have shown : connectionEnd x s = isolationStart x (s.setBench x ((s.bench x).stacked w.isolating [])) := by
    unfold connectionEnd
    split
    · next v hv =>
      cases sweep.symm.trans hv
      split
      · next only => exact nomatch scope.symm.trans only
      · rfl
    · next none => exact nomatch sweep.symm.trans none
  have record : ((s.setBench x ((s.bench x).stacked w.isolating [])).bench x).sweep = some w.isolating := by
    rw [State.setBench_bench_same]
    rfl
  rw [shown]
  unfold isolationStart
  simp only [free, Bool.false_eq_true, if_false, record]
  rfl

theorem phaseEnds_connectionEnd (h : Reached x false ds s u w') (open_ : s.store.state ≠ .checking) (pairs : w'.pairs = w.pairs + 1)
    (held : w'.held = []) (scope : w'.scope = w.scope) (nets : w'.nets = w.nets) : PhaseEnds s (connectionEnd x u) x w ds := by
  have open' : u.store.state ≠ .checking := by rw [h.store]; exact open_
  refine ⟨fun only closed => ?_, fun full span hs members hm n hn v hv => ?_⟩
  · rw [connectionEnd_only h.sweep (scope.trans only)]
    exact h.ends closed
  · subst hs hm hn hv
    have entered := ((h.stacked w'.isolating []).1.resweep (w'.isolating.spanned s.store.words))
    have drivers : (w'.isolating.spanned s.store.words).drivers = w.nets + (hdrSpan s.store.words - hdrMembers s.store.words) := by
      rw [← nets]
      rfl
    rw [connectionEnd_full open' h.sweep (scope.trans full), h.store]
    refine ⟨fun more => ?_, fun last closed => ?_⟩
    · obtain ⟨recorded, stack, run, ⟨p, a, b, sweep⟩, wait, handed, silent⟩ := entered.drives (d := 0) (by rw [drivers]; exact more)
      rw [drivers] at stack handed
      refine ⟨recorded, silent, run, ?_, ?_, stack, ?_, handed.congr rfl nets rfl⟩
      · rw [sweep]
        rfl
      · rw [sweep]
        show some (0, (w'.isolating.spanned s.store.words).drivers - 1 - 0, 0, 0, 0, w'.pairs, w'.held) = _
        rw [drivers, pairs, held]
        rfl
      · rw [wait, locatorWait, if_neg (fun h => open_ h.1)]
    · rw [startDriver_ends entered.sweep (by rw [drivers]; exact last)]
      exact entered.ends closed

/-- With no further net that has a pair, the phase ends (R84, R93). -/
theorem phaseEnds_beginNet (h : Reached x false ds s u w') (open_ : s.store.state ≠ .checking) (pairs : w'.pairs = w.pairs + 1)
    (held : w'.held = []) (scope : w'.scope = w.scope) (nets : w'.nets = w.nets) (last : nextPaired s.store.words w'.nets i = none) :
    PhaseEnds s (beginNet x i u) x w ds := by
  by_cases done : w'.nets ≤ i
  · have shown : beginNet x i u = connectionEnd x u := by
      unfold beginNet
      simp only [h.sweep, if_pos done]
    rw [shown]
    exact phaseEnds_connectionEnd h open_ pairs held scope nets
  · have free : checking u = false := decide_eq_false (by rw [h.store]; exact open_)
    have shown : beginNet x i u = connectionEnd x (setSweep x (w'.enterNet s.store.words (w'.nets - 1)) u) := by
      unfold beginNet
      simp only [h.sweep, if_neg done, free, Bool.false_eq_true, if_false, h.store, last]
    rw [shown]
    exact phaseEnds_connectionEnd (h.resweep _) open_ pairs held scope nets

end

end Sys2Proof.Machine

/-! The results of the connection phase (R88 to R92), and a failed range test (R101, R102). -/

namespace Sys2Proof.Machine

section
variable {x y : Station} {s t u : State} {w : Sweep} {r : RunRecord} {e top : Entry} {rest : List Entry} {v : MeasResult} {ds : List Defect}
  {code : Word16} {o : PairOutcome}

/-! ## What a pair result does -/

/-- The sweep record with one more pair counted (R81). -/
def Sweep.walked (w : Sweep) : Sweep := { w with pairs := w.pairs + 1 }

theorem connection_settles (waits : SweepWaits s x w r) (phase : w.phase = .connection) (going : r.abortPending = false)
    (h : apertureResult s x code = some v) :
    exec (.apertureEnd x code) s = .next (onPair x w.walked v (s.setChannel x ((s.channel x).measured code v))) := by
  obtain ⟨running, run, wait, sweep, record, measuring, alone⟩ := waits
  rw [exec_apertureEnd running measuring alone h]
  refine congrArg _ ?_
  have calm : aborting (s.setChannel x ((s.channel x).measured code v)) x = false := (aborting_eq (s := s.setChannel x _) record).trans going
  have counted : w.counted ((s.setChannel x ((s.channel x).measured code v)).bench x).locator = w.walked := by
    simp only [Sweep.counted, phase, Sweep.walked]
  have phase' : w.walked.phase = .connection := phase
  rw [onMeasured_completes (s := s.setChannel x ((s.channel x).measured code v)) sweep run wait (apertureResult_completes h), calm,
    if_neg Bool.false_ne_true, counted]
  unfold settleMeasured
  simp only [phase']

theorem onPair_walks (calm : w.retest = false) (v : MeasResult) (s : State) : onPair x w v s = onWalkPair x w (pairOutcome w.netThreshold v) s := by
  unfold onPair
  dsimp only
  rw [if_neg (by rw [calm]; decide)]

theorem onPair_retests (testing : w.retest = true) (v : MeasResult) (s : State) : onPair x w v s = onRetest x w (pairOutcome w.netThreshold v) s := if_pos testing

theorem pairOutcome_pass {threshold z k : Nat} (h : z ≤ threshold) : pairOutcome threshold (.pairValue z k) = .pass := if_pos h

theorem pairOutcome_highR {threshold z k : Nat} (h : threshold < z) : pairOutcome threshold (.pairValue z k) = .highR z k :=
  if_neg (Nat.not_le.mpr h)

theorem pairOutcome_value (threshold z k : Nat) : pairOutcome threshold (.pairValue z k) ≠ .openWire := by
  rcases Nat.lt_or_ge threshold z with above | within
  · rw [pairOutcome_highR above]
    nofun
  · rw [pairOutcome_pass within]
    nofun

/-- The sweep record with no OPEN held any more. -/
def Sweep.settled (w : Sweep) : Sweep := { w with held := [] }

/-- A pair that is neither held nor holds another is recorded with what was held before it (R88, R90). -/
theorem onWalkPair_records (first : ¬ (w.pos = 1 ∧ 3 ≤ w.netCount ∧ o = .openWire)) (second : ¬ (w.held ≠ [] ∧ o = .openWire)) (s : State) :
    onWalkPair x w o s = recordThen x w.settled (w.held.map w.openDefect ++ w.outcomeDefects o) (w.pos + 1) s := by
  rw [onWalkPair, if_neg first, if_neg second]
  rfl

/-- Defects are recorded, and with no limit the walk goes on (R88, R92). -/
theorem recordThen_free (free : w.limit = 0) (ds : List Defect) (pos : Nat) (s : State) :
    recordThen x w ds pos s = walkOn x w pos (recording x false ds (setSweep x w s)) := by
  unfold recordThen
  dsimp only
  rw [recordAll_free false ds free, if_neg Bool.false_ne_true]

/-- The record behind which the walk goes on. -/
theorem reached_walk (w : Sweep) (ds : List Defect) (run : (s.bench x).run = .continuity) (record : (s.bench x).record = some r) :
    Reached x false ds s (recording x false ds (setSweep x w s)) w :=
  (reached_recording (b := (s.bench x).withSweep w) run rfl rfl rfl record).1

/-- A pair that is recorded at once at the end of its net lets the walk leave it (R84, R93). -/
theorem recorded_leaves (run : (s.bench x).run = .continuity) (record : (s.bench x).record = some r) (free : w.limit = 0) (o : PairOutcome)
    (first : ¬ (w.pos = 1 ∧ 3 ≤ w.netCount ∧ o = .openWire)) (second : ¬ (w.held ≠ [] ∧ o = .openWire)) (last : w.netCount ≤ w.pos + 1) :
    ∃ u, onWalkPair x w.walked o s = beginNet x (w.net + 1) u ∧
      Reached x false (w.held.map (fun g => w.openOf g.anchor g.point) ++ w.outcomeDefects o) s u w.walked.settled := by
  have same : w.walked.outcomeDefects o = w.outcomeDefects o := by cases o <;> rfl
  have reached := reached_walk w.walked.settled (w.walked.held.map w.walked.openDefect ++ w.walked.outcomeDefects o) run record
  refine ⟨setSweep x w.walked.settled (recording x false (w.walked.held.map w.walked.openDefect ++ w.walked.outcomeDefects o)
    (setSweep x w.walked.settled s)), ?_, ?_⟩
  · rw [onWalkPair_records (w := w.walked) first second s, recordThen_free (w := w.walked.settled) free]
    exact if_neg (Nat.not_lt.mpr last)
  · have next := reached.resweep w.walked.settled
    rw [same] at next ⊢
    exact next

section
variable (run : (s.bench x).run = .continuity) (record : (s.bench x).record = some r) (open_ : s.store.state ≠ .checking)
include run record open_

/-- An OPEN of the first pair of a net of three is held (R89). -/
theorem firstOpen_holds (calm : w.retest = false) (first : w.pos = 1) (three : 3 ≤ w.netCount) :
    WalksTo (onPair x w.walked .openWire s) x w [⟨w.anchor, w.pairB⟩] false 2 w.anchor w.anchor (memberAt s.store.words (w.netFirst + 2)) ∧
    Recorded s (onPair x w.walked .openWire s) x false [] := by
  have shown : onPair x w.walked .openWire s = handPair x (setSweep x { w.walked with held := [⟨w.anchor, w.pairB⟩], pos := 2 } s) := by
    rw [onPair_walks (w := w.walked) calm]
    exact if_pos ⟨first, three, rfl⟩
  have next := (reached_walk { w.walked with held := [⟨w.anchor, w.pairB⟩], pos := 2 } [] run record).walks (w := w) open_ rfl
  have pair : ({ w.walked with held := [⟨w.anchor, w.pairB⟩], pos := 2 } : Sweep).pair s.store.words =
      (w.anchor, memberAt s.store.words (w.netFirst + 2)) := if_neg (show ¬ w.retest = true by rw [calm]; decide)
  have calm' : ({ w.walked with held := [⟨w.anchor, w.pairB⟩], pos := 2 } : Sweep).retest = false := calm
  rw [pair, calm'] at next
  rw [shown]
  exact next

/-- A second OPEN is held with the first, and the re-selection test begins (R90, R91). -/
theorem secondOpen_tests (calm : w.retest = false) (held : w.held ≠ []) (later : w.pos ≠ 1) :
    WalksTo (onPair x w.walked .openWire s) x w (w.held ++ [⟨w.anchor, w.pairB⟩]) true w.pos w.anchor (memberAt s.store.words (w.netFirst + 1))
      (memberAt s.store.words (w.netFirst + 2)) ∧
    Recorded s (onPair x w.walked .openWire s) x false [] := by
  have shown : onPair x w.walked .openWire s =
      handPair x (setSweep x { w.walked with held := w.held ++ [⟨w.anchor, w.pairB⟩], retest := true } s) := by
    rw [onPair_walks (w := w.walked) calm, onWalkPair, if_neg (fun h => later h.1)]
    exact if_pos ⟨held, rfl⟩
  rw [shown]
  exact (reached_walk { w.walked with held := w.held ++ [⟨w.anchor, w.pairB⟩], retest := true } [] run record).walks (w := w) open_ rfl

/-- A pair that is recorded at once lets the walk go on in its net (R85, R88). -/
theorem recorded_walksOn (free : w.limit = 0) (calm : w.retest = false) (o : PairOutcome)
    (first : ¬ (w.pos = 1 ∧ 3 ≤ w.netCount ∧ o = .openWire)) (second : ¬ (w.held ≠ [] ∧ o = .openWire)) (more : w.pos + 1 < w.netCount) :
    WalksTo (onWalkPair x w.walked o s) x w [] false (w.pos + 1) w.anchor w.anchor (memberAt s.store.words (w.netFirst + (w.pos + 1))) ∧
    Recorded s (onWalkPair x w.walked o s) x false (w.held.map (fun g => w.openOf g.anchor g.point) ++ w.outcomeDefects o) := by
  have reached := reached_walk w.walked.settled (w.walked.held.map w.walked.openDefect ++ w.walked.outcomeDefects o) run record
  rw [onWalkPair_records (w := w.walked) first second s, recordThen_free (w := w.walked.settled) free]
  have next := reached.walksOn (w := w) (pos := w.pos + 1) open_ rfl calm more
  have same : w.walked.outcomeDefects o = w.outcomeDefects o := by cases o <;> rfl
  rw [same] at next ⊢
  exact next

/-- The re-selection test fails: what is held is recorded (R91). -/
theorem retest_fails (free : w.limit = 0) (testing : w.retest = true) (four : 3 < w.netCount) (fails : pairOutcome w.netThreshold v ≠ .pass) :
    WalksTo (onPair x w.walked v s) x w [] false 3 w.anchor w.anchor (memberAt s.store.words (w.netFirst + 3)) ∧
    Recorded s (onPair x w.walked v s) x false (w.held.map (fun g => w.openOf g.anchor g.point)) := by
  have shown : onPair x w.walked v s =
      recordThen x { w.walked with held := [], retest := false } (w.walked.held.map w.walked.openDefect) 3 s := by
    rw [onPair_retests (w := w.walked) testing, show w.walked.netThreshold = w.netThreshold from rfl]
    cases o : pairOutcome w.netThreshold v with
    | pass => exact absurd o fails
    | highR _ _ => rfl
    | openWire => rfl
  rw [shown, recordThen_free (w := { w.walked with held := [], retest := false }) free]
  exact (reached_walk { w.walked with held := [], retest := false } (w.walked.held.map w.walked.openDefect) run record).walksOn
    (w := w) (pos := 3) open_ rfl rfl four

/-- The re-selection test passes: the anchor moves to m1, and the old anchor's OPEN is recorded alone (R91). -/
theorem retest_passes (free : w.limit = 0) (testing : w.retest = true) (four : 3 < w.netCount) (passes : pairOutcome w.netThreshold v = .pass) :
    WalksTo (onPair x w.walked v s) x w [] false 3 w.pairA w.pairA (memberAt s.store.words (w.netFirst + 3)) ∧
    ((onPair x w.walked v s).bench x).sweep.map (·.reselected) = some true ∧
    Recorded s (onPair x w.walked v s) x false [{ w.openOf w.anchor 0 with b := .absent }] := by
  have shown : onPair x w.walked v s =
      recordThen x { w.walked with held := [], retest := false, reselected := true, anchor := w.pairA } [w.walked.anchorOpen] 3 s := by
    rw [onPair_retests (w := w.walked) testing, show w.walked.netThreshold = w.netThreshold from rfl, passes]
    rfl
  have reached := reached_walk { w.walked with held := [], retest := false, reselected := true, anchor := w.pairA } [w.walked.anchorOpen] run record
  rw [shown, recordThen_free (w := { w.walked with held := [], retest := false, reselected := true, anchor := w.pairA }) free]
  obtain ⟨walks, recorded⟩ := reached.walksOn (w := w) (pos := 3) open_ rfl rfl four
  refine ⟨walks, ?_, recorded⟩
  have sweep := ((reached.resweep (({ w.walked with held := [], retest := false, reselected := true, anchor := w.pairA } : Sweep).atPos 3)).hands open_).2.1
  have walk : walkOn x { w.walked with held := [], retest := false, reselected := true, anchor := w.pairA } 3
      (recording x false [w.walked.anchorOpen]
        (setSweep x { w.walked with held := [], retest := false, reselected := true, anchor := w.pairA } s)) =
      handPair x (setSweep x (({ w.walked with held := [], retest := false, reselected := true, anchor := w.pairA } : Sweep).atPos 3)
        (recording x false [w.walked.anchorOpen]
          (setSweep x { w.walked with held := [], retest := false, reselected := true, anchor := w.pairA } s))) := if_pos four
  rw [walk, sweep]
  rfl

end

/-! ## A defect that is recorded, whatever follows it (R88, R92) -/

theorem recorded_one (b : Bench) (record : b.record = some r) (short : Bool) (d : Defect) : b.recorded short [d] = b.record1 r short d := by
  simp only [Bench.recorded, record]

/-- A HIGH-R is counted and banked at once (R88). -/
theorem highR_recorded {z k : Nat} (run : (s.bench x).run = .continuity) (record : (s.bench x).record = some r) (calm : w.retest = false)
    (held : w.held = []) (free : w.limit = 0) (above : w.netThreshold < z) (room : r.found < 65535) :
    ((onPair x w.walked (.pairValue z k) s).bench x).tally = some (r.found + 1, r.shorts) ∧
    ((onPair x w.walked (.pairValue z k) s).bench x).banks =
      (s.bench x).banks.set r.bank (((s.bench x).banks.get r.bank).append r.found
        { seq := r.found + 1, kind := .highR, a := some { net := some w.net, point := w.anchor },
          b := .single { net := some w.net, point := w.pairB }, selection := none, value := some z, range := some k }) ∧
    Notified s (onPair x w.walked (.pairValue z k) s) x.port srcDefect := by
  have outcome : pairOutcome w.walked.netThreshold (.pairValue z k) = .highR z k := pairOutcome_highR above
  have shown : onPair x w.walked (.pairValue z k) s =
      walkOn x w.walked.settled (w.pos + 1) (recording x false [w.highRDefect z k] (setSweep x w.walked.settled s)) := by
    rw [onPair_walks (w := w.walked) calm, outcome,
      onWalkPair_records (w := w.walked) (o := .highR z k) (fun h => nomatch h.2.2) (fun h => nomatch h.2),
      recordThen_free (w := w.walked.settled) free, show w.walked.held = [] from held]
    rfl
  have reached := reached_walk w.walked.settled [w.highRDefect z k] run record
  rw [shown]
  generalize recording x false [w.highRDefect z k] (setSweep x w.walked.settled s) = u at reached
  have onward := onward_walkOn w.walked.settled (w.pos + 1) reached.run
  have count : saturate r.found = r.found + 1 := if_pos room
  have banks := onward.banks.trans reached.banks
  have tally : (u.bench x).tally = some (r.found + 1, r.shorts) := by
    rw [Bench.tally, reached.record, recorded_one _ record]
    simp only [Bench.record1, RunRecord.counted, count, Option.map_some]
    rfl
  refine ⟨onward.tally.trans tally, ?_, (reached.notified (List.cons_ne_nil _ _)).worked (worked_walkOn _ _ _ _)⟩
  rw [banks, recorded_one _ record]
  simp only [Bench.record1, RunRecord.counted, count]
  rfl

/-- The defect limit ends the sweep at the record that reaches it (R92). -/
theorem limit_ends {g : HeldOpen} {z k : Nat} (run : (s.bench x).run = .continuity) (record : (s.bench x).record = some r)
    (calm : w.retest = false) (held : w.held = [g]) (limit : w.limit = r.found + 1) (small : w.limit ≤ 128) (closed : Closed s x) :
    (∀ u, ((s.bench x).recorded false [w.openOf g.anchor g.point]).record = some u →
      SweepEnded ((onPair x w.walked (.pairValue z k) s).bench x) u .cutShort) ∧
    ((onPair x w.walked (.pairValue z k) s).bench x).banks = ((s.bench x).recorded false [w.openOf g.anchor g.point]).banks ∧
    Notified s (onPair x w.walked (.pairValue z k) s) x.port srcDefect := by
  have passed := pairOutcome_value w.walked.netThreshold z k
  have reached := reached_walk w.walked.settled [w.openOf g.anchor g.point] run record
  have full : limitReached x w.walked.settled (recording x false [w.openOf g.anchor g.point] (setSweep x w.walked.settled s)) = true := by
    have room : r.found < 65535 := by omega
    have count : saturate r.found = r.found + 1 := if_pos room
    unfold limitReached
    rw [reached.record, recorded_one _ record]
    simp only [Bench.record1, RunRecord.counted, count, decide_eq_true_eq]
    show w.limit ≠ 0 ∧ w.limit ≤ r.found + 1
    omega
  have shown : onPair x w.walked (.pairValue z k) s =
      endSweep x .cutShort (recording x false [w.openOf g.anchor g.point] (setSweep x w.walked.settled s)) := by
    rw [onPair_walks (w := w.walked) calm, onWalkPair_records (w := w.walked) (fun h => passed h.2.2) (fun h => passed h.2),
      show w.walked.held = [g] from held]
    unfold recordThen
    dsimp only
    have all : recordAll x w.walked.settled false ([g].map w.walked.openDefect ++ w.walked.outcomeDefects (pairOutcome w.walked.netThreshold (.pairValue z k)))
        (setSweep x w.walked.settled s) =
        (endSweep x .cutShort (recording x false [w.openOf g.anchor g.point] (setSweep x w.walked.settled s)), true) := if_pos full
    rw [all]
    rfl
  obtain ⟨ends, banks, notified⟩ := reached.ends (c := .cutShort) closed
  rw [shown]
  exact ⟨ends, banks, notified (List.cons_ne_nil _ _)⟩

/-! ## A failed range test (R101, R102) -/

/-- A range of more than one candidate is split, and its lower half tested next. -/
theorem fail_splits {z : Nat} (run : (s.bench x).run = .continuity) (record : (s.bench x).record = some r)
    (stack : (s.bench x).locator = top :: rest) (more : top.first < top.last) :
    Recorded s (onGroup x w.grouped (.fail z) s) x true [] ∧
    ((onGroup x w.grouped (.fail z) s).bench x).wait = locatorWait s w w.driver top.first ∧
    ((onGroup x w.grouped (.fail z) s).bench x).locator =
      { first := top.first, last := top.first + (top.last - top.first) / 2, state := .toMeasure, value := none, halfFailed := false } ::
      { top with state := .lower, value := some z, halfFailed := false } :: markHalf rest ∧
    RangeHanded s (onGroup x w.grouped (.fail z) s) x w w.driver top.first (top.first + (top.last - top.first) / 2) := by
  have mid : top.mid = top.first + (top.last - top.first) / 2 := by
    simp only [Entry.mid, Entry.size]
    omega
  have lower : top.lowerHalf = { first := top.first, last := top.first + (top.last - top.first) / 2, state := .toMeasure, value := none, halfFailed := false } := by
    rw [Entry.lowerHalf, mid]
    rfl
  have split : locatorFail z (s.bench x).locator = top.lowerHalf :: { top with state := .lower, value := some z, halfFailed := false } :: markHalf rest := by
    rw [stack]
    exact if_neg (Nat.ne_of_lt more)
  have shown : onGroup x w.grouped (.fail z) s = handLocator x (s.setBench x ((s.bench x).stacked w.grouped (locatorFail z (s.bench x).locator))) := by
    show isolationNext x w.grouped (locatorFail z (s.bench x).locator, []) s = _
    rw [isolationNext_plain, if_neg (by rw [split]; exact List.cons_ne_nil _ _)]
  obtain ⟨reached, stack'⟩ := reached_isolation w.grouped (locatorFail z (s.bench x).locator) [] run record
  rw [shown]
  change Reached x true [] s (s.setBench x ((s.bench x).stacked w.grouped (locatorFail z (s.bench x).locator))) w.grouped at reached
  change ((s.setBench x ((s.bench x).stacked w.grouped (locatorFail z (s.bench x).locator))).bench x).locator = _ at stack'
  obtain ⟨tests, wait, handed⟩ := tests_range reached.sweep (stack'.trans split) nofun (by rw [lower]; show top.first ≤ top.first + _; omega)
  rw [lower] at handed
  refine ⟨reached.tests tests, wait.trans (locatorWait_congr reached.store rfl _ _), ?_, handed.congr reached.store rfl rfl⟩
  rw [tests.locator, stack', split, lower]

/-- A single candidate that failed is confirmed next. -/
theorem fail_confirms {z : Nat} (run : (s.bench x).run = .continuity) (record : (s.bench x).record = some r)
    (stack : (s.bench x).locator = top :: rest) (single : top.first = top.last) :
    Recorded s (onGroup x w.grouped (.fail z) s) x true [] ∧
    ((onGroup x w.grouped (.fail z) s).bench x).wait = locatorWait s w w.driver top.first ∧
    ((onGroup x w.grouped (.fail z) s).bench x).locator = { top with state := .confirm, value := some z } :: markHalf rest ∧
    ConfirmHanded s (onGroup x w.grouped (.fail z) s) x w top.first := by
  have due : locatorFail z (s.bench x).locator = { top with state := .confirm, value := some z } :: markHalf rest := by
    rw [stack]
    exact if_pos single
  have shown : onGroup x w.grouped (.fail z) s = handLocator x (s.setBench x ((s.bench x).stacked w.grouped (locatorFail z (s.bench x).locator))) := by
    show isolationNext x w.grouped (locatorFail z (s.bench x).locator, []) s = _
    rw [isolationNext_plain, if_neg (by rw [due]; exact List.cons_ne_nil _ _)]
  obtain ⟨reached, stack'⟩ := reached_isolation w.grouped (locatorFail z (s.bench x).locator) [] run record
  rw [shown]
  change Reached x true [] s (s.setBench x ((s.bench x).stacked w.grouped (locatorFail z (s.bench x).locator))) w.grouped at reached
  change ((s.setBench x ((s.bench x).stacked w.grouped (locatorFail z (s.bench x).locator))).bench x).locator = _ at stack'
  obtain ⟨tests, wait, handed⟩ := tests_confirm reached.sweep (stack'.trans due) rfl
  exact ⟨reached.tests tests, wait, tests.locator.trans (stack'.trans due), handed⟩

end

end Sys2Proof.Machine

/-! The results of the connection phase, clause by clause (R84 to R98, R101, R102). -/

namespace Sys2Proof.Machine

section
variable {x : Station} {s : State} {w : Sweep} {r : RunRecord} {v : MeasResult} {code : Word16}

/-- A pair that is recorded at once, at the end of its net, where a further net has a pair (R84). -/
theorem pass_entersNet {z k j : Nat} (run : (s.bench x).run = .continuity) (record : (s.bench x).record = some r) (open_ : s.store.state ≠ .checking)
    (free : w.limit = 0) (calm : w.retest = false) (held : w.held = []) (within : z ≤ w.netThreshold) (last : w.netCount ≤ w.pos + 1)
    (next : nextPaired s.store.words w.nets (w.net + 1) = some j) :
    ((onPair x w.walked (.pairValue z k) s).bench x).sweep.map (fun u => (u.net, u.netCount, u.netFirst, u.netThreshold, u.reselected)) =
      some (j, netCount s.store.words j, netFirst s.store.words j, netThreshold s.store.words j w.threshold, false) ∧
    WalksTo (onPair x w.walked (.pairValue z k) s) x w [] false 1 (memberAt s.store.words (netFirst s.store.words j))
      (memberAt s.store.words (netFirst s.store.words j)) (memberAt s.store.words (netFirst s.store.words j + 1)) ∧
    Recorded s (onPair x w.walked (.pairValue z k) s) x false [] := by
  have passes : pairOutcome w.walked.netThreshold (.pairValue z k) = .pass := pairOutcome_pass within
  obtain ⟨u, leaves, reached⟩ := recorded_leaves (w := w) run record free .pass (fun h => nomatch h.2.2) (fun h => nomatch h.2) last
  rw [held] at reached
  rw [onPair_walks (w := w.walked) calm, passes, leaves]
  exact reached.nextNet (w := w) open_ rfl next

/-- A pair that is recorded at once, at the end of the last net that has a pair, ends the phase (R93). -/
theorem pair_endsPhase (run : (s.bench x).run = .continuity) (record : (s.bench x).record = some r) (open_ : s.store.state ≠ .checking)
    (free : w.limit = 0) (calm : w.retest = false) (last : w.netCount ≤ w.pos + 1) (none : nextPaired s.store.words w.nets (w.net + 1) = none)
    (first : ¬ (w.pos = 1 ∧ 3 ≤ w.netCount ∧ pairOutcome w.netThreshold v = .openWire))
    (second : ¬ (w.held ≠ [] ∧ pairOutcome w.netThreshold v = .openWire)) :
    PhaseEnds s (onPair x w.walked v s) x w
      (w.held.map (fun g => w.openOf g.anchor g.point) ++ w.outcomeDefects (pairOutcome w.netThreshold v)) := by
  obtain ⟨u, leaves, reached⟩ := recorded_leaves (w := w) run record free (pairOutcome w.netThreshold v) first second last
  rw [onPair_walks (w := w.walked) calm, show pairOutcome w.walked.netThreshold v = pairOutcome w.netThreshold v from rfl, leaves]
  exact phaseEnds_beginNet reached open_ rfl rfl rfl rfl none

/-- Settles O40, clause by clause. -/
theorem sweepResultsTaken : Obligations.SweepResultsTaken := by
  refine ⟨fun s i p q ds hp m hm => ?_, fun s x code w r p q k value running open_ run wait sweep phase calm held free record going room
    measuring alone hand below hvalue above => ?_, fun s x code running w sweep r record waits phase going open_ v hv h hh => ?_,
    fun s x code running w sweep r record waits phase going e head state range threshold hand low fails => ?_⟩
  · subst hm
    exact ⟨memberSet_getLsbD _ _ _ hp, rfl, pointSet_getLsbD q hp, driversPoints_getLsbD _ _ _⟩
  · have result : apertureResult s x code = some (.pairValue value (s.channel x).range) := by
      have ending : ¬ (60000 ≤ code.toNat ∧ (s.channel x).range < 3) := by omega
      have fits : ¬ 65520 ≤ code.toNat := by omega
      simp only [apertureResult, hand, if_neg ending, if_neg fits, if_neg open_, hvalue, rawResistance]
    have step := connection_settles ⟨running, run, wait, sweep, record, measuring, alone⟩ phase going result
    obtain ⟨tally, banks, notified⟩ := highR_recorded (s := s.setChannel x ((s.channel x).measured code (.pairValue value (s.channel x).range)))
      (w := w) (z := value) (k := (s.channel x).range) run record calm held free above room
    refine ⟨_, step, ?_, ?_, banks, notified⟩
    · have h := congrArg (Option.map Prod.fst) tally
      rwa [Bench.tally, Option.map_map] at h
    · have h := congrArg (Option.map Prod.snd) tally
      rwa [Bench.tally, Option.map_map] at h
  · subst hh
    have ⟨_, run, _⟩ := waits
    refine ⟨_, connection_settles waits phase going hv, ?_⟩
    refine ⟨fun free calm => ⟨fun first three opened => ?_, fun more => ⟨fun held later opened => ?_, fun z k value => ?_⟩,
        fun later held opened => ?_⟩,
      fun free testing four => ⟨fun opened => ?_, fun z k value => ⟨fun above => ?_, fun within => ?_⟩⟩,
      fun z k value free calm held within last j next => ?_,
      fun free calm last none => ⟨fun z k value => ⟨fun within => ?_, fun above => ?_⟩, fun opened held short => ?_⟩,
      fun g held calm limit small z k value closed => ?_⟩
    · subst opened
      exact firstOpen_holds (s := s.setChannel x ((s.channel x).measured code .openWire)) run record open_ calm first three
    · subst opened
      have walks := recorded_walksOn (s := s.setChannel x ((s.channel x).measured code .openWire)) run record open_ free calm .openWire
        (fun h => later h.1) (fun h => h.1 held) more
      rw [held] at walks
      rw [onPair_walks (w := w.walked) calm]
      exact walks
    · subst value
      have walks := recorded_walksOn (s := s.setChannel x ((s.channel x).measured code (.pairValue z k))) (w := w) run record open_ free calm
        (pairOutcome w.netThreshold (.pairValue z k)) (fun h => pairOutcome_value _ _ _ h.2.2) (fun h => pairOutcome_value _ _ _ h.2) more
      rw [onPair_walks (w := w.walked) calm]
      refine ⟨walks.1, fun within => ?_, fun above => ?_⟩
      · have recorded := walks.2
        rw [pairOutcome_pass within, show w.outcomeDefects .pass = [] from rfl, List.append_nil] at recorded
        rw [show pairOutcome w.walked.netThreshold (.pairValue z k) = .pass from pairOutcome_pass within]
        exact recorded
      · have recorded := walks.2
        rw [pairOutcome_highR above] at recorded
        rw [show pairOutcome w.walked.netThreshold (.pairValue z k) = .highR z k from pairOutcome_highR above]
        exact recorded
    · subst opened
      exact secondOpen_tests (s := s.setChannel x ((s.channel x).measured code .openWire)) run record open_ calm held later
    · subst opened
      exact retest_fails (s := s.setChannel x ((s.channel x).measured code .openWire)) run record open_ free testing four nofun
    · subst value
      exact retest_fails (s := s.setChannel x ((s.channel x).measured code (.pairValue z k))) run record open_ free testing four
        (by rw [pairOutcome_highR above]; nofun)
    · subst value
      exact retest_passes (s := s.setChannel x ((s.channel x).measured code (.pairValue z k))) run record open_ free testing four
        (pairOutcome_pass within)
    · subst value
      exact pass_entersNet (s := s.setChannel x ((s.channel x).measured code (.pairValue z k))) run record open_ free calm held within last next
    · subst value
      have ends := pair_endsPhase (s := s.setChannel x ((s.channel x).measured code (.pairValue z k))) (v := .pairValue z k) run record open_
        free calm last none (fun h => pairOutcome_value _ _ _ h.2.2) (fun h => pairOutcome_value _ _ _ h.2)
      rw [pairOutcome_pass within, show w.outcomeDefects .pass = [] from rfl, List.append_nil] at ends
      exact ends
    · subst value
      have ends := pair_endsPhase (s := s.setChannel x ((s.channel x).measured code (.pairValue z k))) (v := .pairValue z k) run record open_
        free calm last none (fun h => pairOutcome_value _ _ _ h.2.2) (fun h => pairOutcome_value _ _ _ h.2)
      rw [pairOutcome_highR above] at ends
      exact ends
    · subst opened
      have ends := pair_endsPhase (s := s.setChannel x ((s.channel x).measured code .openWire)) (v := .openWire) run record open_
        free calm last none (fun h => short ⟨h.1, h.2.1⟩) (fun h => h.1 held)
      rw [held] at ends
      exact ends
    · subst value
      exact limit_ends (s := s.setChannel x ((s.channel x).measured code (.pairValue z k))) run record calm held limit small closed
  · obtain ⟨rest, stack⟩ := List.head?_eq_some_iff.mp head
    have ⟨_, run, _⟩ := waits
    have result : apertureResult s x code = some (.fail (rawResistance code.toNat 3)) := by
      have fits : ¬ Config.overRange ≤ code.toNat := Nat.not_le.mpr low
      simp only [apertureResult, hand, groupResult, if_neg fits, if_neg (Nat.not_le.mpr fails)]
    have step := isolation_settles waits phase going result stack
    rw [if_neg (by rw [state]; nofun)] at step
    rw [stack]
    refine ⟨_, step, ?_⟩
    rcases Nat.lt_or_eq_of_le range with more | single
    · obtain ⟨recorded, wait, locator, handed⟩ := fail_splits (s := s.setChannel x ((s.channel x).measured code (.fail (rawResistance code.toNat 3))))
        (w := w) (z := rawResistance code.toNat 3) run record stack more
      exact ⟨recorded, wait, fun _ => ⟨locator, handed⟩, fun single => absurd single (Nat.ne_of_lt more)⟩
    · obtain ⟨recorded, wait, locator, handed⟩ := fail_confirms (s := s.setChannel x ((s.channel x).measured code (.fail (rawResistance code.toNat 3))))
        (w := w) (z := rawResistance code.toNat 3) run record stack single
      exact ⟨recorded, wait, fun more => absurd single (Nat.ne_of_lt more), fun _ => ⟨locator, handed⟩⟩

end

end Sys2Proof.Machine

/-! START INSULATION (R136 to R140). -/

namespace Sys2Proof.Machine

/-! ## The selection (R137) -/

/-- A class lies under a mask exactly where the bits outside the mask agree. -/
theorem masked_iff (c v k : Byte) :
    (c ^^^ v) &&& ~~~k = 0 ↔ ∀ b, b < 8 → k.getLsbD b = false → c.getLsbD b = v.getLsbD b := by
  constructor
  · intro h b hb open_
    have bit : ((c ^^^ v) &&& ~~~k).getLsbD b = false := by rw [h]; exact BitVec.getLsbD_zero
    rw [BitVec.getLsbD_and, BitVec.getLsbD_not, BitVec.getLsbD_xor, open_] at bit
    simpa [hb] using bit
  · intro h
    apply BitVec.eq_of_getLsbD_eq
    intro b hb
    by_cases masked : k.getLsbD b = true
    · simp [masked]
    · have same := h b hb (by simpa using masked)
      simp [same]

theorem mem_selectedNets (m : List ImageCell) (sel : Selection) (i : Nat) :
    i ∈ selectedNets m sel ↔ i < hdrNets m ∧ netExcluded m i = false ∧ sel.selects i (netClass m i) = true := by
  simp [selectedNets]

theorem selectedNets_sorted (m : List ImageCell) (sel : Selection) : (selectedNets m sel).Pairwise (· < ·) :=
  List.pairwise_lt_range.filter _

/-- The nets that are not excluded and not selected are those that the selection does not name. -/
theorem returnedNets_eq (m : List ImageCell) (sel : Selection) :
    (List.range (hdrNets m)).filter (fun i => !netExcluded m i && !sel.selects i (netClass m i)) =
      (List.range (hdrNets m)).filter (fun i => !netExcluded m i && decide (i ∉ selectedNets m sel)) := by
  refine List.filter_congr fun i hi => ?_
  have within : i < hdrNets m := List.mem_range.mp hi
  cases excluded : netExcluded m i <;> simp [mem_selectedNets, within, excluded]

/-- The unused points are the points of the span with no member entry (R96). -/
theorem unusedPoints_eq (m : List ImageCell) {span : Nat} (members : Nat) (h : span ≤ 2048) :
    unusedPoints m span members = (List.range span).filter (fun p => decide (∀ j, j < members → memberAt m j ≠ p)) := by
  refine List.filter_congr fun p hp => ?_
  have within : p < 2048 := Nat.lt_of_lt_of_le (List.mem_range.mp hp) h
  have used := memberSet_getLsbD m 0 members within
  rw [Bool.eq_iff_iff, Bool.not_eq_true', ← Bool.not_eq_true, used]
  simp

/-! ## The values of the request (R136) -/

theorem defaulted_eq {lo hi : Nat} (h : lo ≤ hi) (dflt : Nat) (v : Word16) :
    defaulted lo hi dflt v.toNat = if v = 0 then dflt else max lo (min hi v.toNat) := by
  have zero : v.toNat = 0 ↔ v = 0 := by rw [← BitVec.toNat_inj]; rfl
  simp only [defaulted, clampTo_eq lo hi _ h, zero]

/-- A threshold that is not 0 needs no clamp from below. -/
theorem defaulted_threshold (dflt : Nat) (v : Word16) :
    defaulted 1 60000 dflt v.toNat = if v = 0 then dflt else min 60000 v.toNat := by
  rw [defaulted_eq (by decide)]
  split
  · rfl
  next nonzero =>
    have : v.toNat ≠ 0 := fun e => nonzero (BitVec.eq_of_toNat_eq e)
    omega

theorem wasClamped_eq {lo hi : Nat} (h : lo ≤ hi) (v : Word16) :
    wasClamped lo hi v.toNat = decide (v ≠ 0 ∧ (v.toNat < lo ∨ hi < v.toNat)) := by
  have zero : v.toNat = 0 ↔ v = 0 := by rw [← BitVec.toNat_inj]; rfl
  simp only [wasClamped, clampTo_ne_iff h, ne_eq, zero]

theorem wasClamped_threshold (v : Word16) : wasClamped 1 60000 v.toNat = decide (60000 < v.toNat) := by
  rw [wasClamped_eq (by decide), decide_eq_decide]
  constructor
  · rintro ⟨nonzero, h⟩
    have : v.toNat ≠ 0 := fun e => nonzero (BitVec.eq_of_toNat_eq e)
    omega
  · intro h
    refine ⟨fun e => ?_, .inr h⟩
    rw [e] at h
    exact absurd h (by decide)

/-- The step record of a request (R135 to R137). -/
theorem create_eq (m : List ImageCell) (sel : Selection) (voltage dwell threshold : Word16) (locate : Bool) :
    StepRecord.create m sel voltage.toNat dwell.toNat threshold.toNat locate =
      { selection := sel, selected := selectedNets m sel, returned := returnedSet m sel,
        voltage := if voltage = 0 then hdrVoltage m else max 50 (min 1500 voltage.toNat),
        dwell := if dwell = 0 then hdrDwell m else max 10 (min 60000 dwell.toNat),
        threshold := if threshold = 0 then hdrInsulation m else min 60000 threshold.toNat,
        locate := locate, state := .waitHv, energisations := 0, lastRins := none, clamped := false, interrupted := false } := by
  simp only [StepRecord.create, defaulted_threshold, defaulted_eq (show 50 ≤ 1500 by decide), defaulted_eq (show 10 ≤ 60000 by decide)]

theorem valuesClamped_eq (voltage dwell threshold : Word16) :
    (wasClamped 50 1500 voltage.toNat || wasClamped 10 60000 dwell.toNat || wasClamped 1 60000 threshold.toNat) =
      (decide (voltage ≠ 0 ∧ (voltage.toNat < 50 ∨ 1500 < voltage.toNat)) ||
        decide (dwell ≠ 0 ∧ (dwell.toNat < 10 ∨ 60000 < dwell.toNat)) || decide (60000 < threshold.toNat)) := by
  rw [wasClamped_threshold, wasClamped_eq (by decide), wasClamped_eq (by decide)]

section
variable {x : Station} {s : State} {st : StepRecord}

/-! ## A step in WAIT-HV (R116, R140) -/

theorem stepMayGo_run (x : Station) (s : State) : ((stepMayGo x s).bench x).run = (s.bench x).run := by
  unfold stepMayGo handStep holdRead
  split
  next v hv =>
    split
    · rw [State.setBench_bench_same]
      dsimp only
      split
      · simp
      · simp [handConfig_bench_same, Bench.handing]
    · rfl
  · rfl

theorem grant_run (x : Station) (s : State) : ((grant x s).bench x).run = (s.bench x).run := by
  unfold grant
  dsimp only
  split
  · exact stepMayGo_run x _
  · rfl

/-- The holder's step goes on at once (R140). -/
theorem stepWaits_holder (h : s.hv.holder = some x) (pending : s.hv.releasePending = false) :
    stepWaits x s = stepMayGo x (s.setHv { s.hv with holderStep := true, holdTimer := none }) := if_pos ⟨h, pending⟩

/-- A station that does not hold asks for the source (R116). -/
theorem stepWaits_asks (h : s.hv.holder ≠ some x ∨ s.hv.releasePending = true) :
    stepWaits x s = lookForGrant (s.setHv (s.hv.setStepAsk x true)) := by
  refine if_neg fun ⟨holder, pending⟩ => ?_
  rcases h with h | h
  · exact h holder
  · rw [h] at pending
    cases pending

/-- A station is granted only while nobody holds the source (R116). -/
theorem Hv.next_unheld {h : Hv} (next : h.next = some x) : h.holder = none := by
  have grantable := List.find?_some next
  simp only [Hv.grantable, Bool.and_eq_true, Option.isNone_iff_eq_none] at grantable
  exact grantable.2

/-- The bench of a step that has just been accepted in READY (R140). -/
def Bench.stepping (b : Bench) (st : StepRecord) : Bench := { b with run := .insulation, step := some st, wait := .hv }

theorem acceptStep_ready (st : StepRecord) (run : (s.bench x).run = .ready) :
    acceptStep x st s = stepWaits x (s.setBench x ((s.bench x).stepping st)) := if_pos run

theorem acceptStep_queues (st : StepRecord) (run : (s.bench x).run = .insulation) :
    acceptStep x st s = s.setBench x { s.bench x with queued := some st } := by
  refine if_neg ?_
  rw [run]
  nofun

/-- The step of the holder enters CONFIGURE (R139, R140). -/
theorem acceptStep_holder (waits : st.state = .waitHv) (run : (s.bench x).run = .ready) (h : s.hv.holder = some x)
    (pending : s.hv.releasePending = false) (away : ∀ e, s.hv.energ = some e → e.trunk ≠ x) :
    ((acceptStep x st s).bench x).run = .insulation ∧ Configures s (acceptStep x st s) x st ∧
    (acceptStep x st s).hv = { s.hv with holderStep := true, holdTimer := none } := by
  have goes : acceptStep x st s =
      stepMayGo x ((s.setBench x ((s.bench x).stepping st)).setHv { s.hv with holderStep := true, holdTimer := none }) := by
    rw [acceptStep_ready st run]
    exact stepWaits_holder (s := s.setBench x ((s.bench x).stepping st)) h pending
  rw [goes]
  generalize hu : (s.setBench x ((s.bench x).stepping st)).setHv { s.hv with holderStep := true, holdTimer := none } = u
  have bench : u.bench x = (s.bench x).stepping st := by rw [← hu]; exact State.setBench_bench_same s x _
  have store : u.store = s.store := by rw [← hu]; rfl
  have hv : u.hv = { s.hv with holderStep := true, holdTimer := none } := by rw [← hu]; rfl
  have uncut : Uncut u x := fun e he hx => absurd hx (away e (by rw [hv] at he; exact he))
  have configures := stepMayGo_configures (s := u) (x := x) (st := st) (by rw [bench]; rfl) waits
  refine ⟨?_, ?_, ?_⟩
  · rw [stepMayGo_run, bench]
    rfl
  · rwa [Configures, store] at configures
  · rw [(apart_stepMayGo x u).hv uncut, hv]

/-- The step of a station that is granted at once (R116, R117). -/
theorem acceptStep_granted (waits : st.state = .waitHv) (run : (s.bench x).run = .ready)
    (next : (s.hv.setStepAsk x true).next = some x) :
    ((acceptStep x st s).bench x).run = .insulation ∧ Configures s (acceptStep x st s) x st ∧
    (acceptStep x st s).hv.holder = some x ∧ (acceptStep x st s).hv.holderStep = true ∧
    (acceptStep x st s).hv.reserved = s.hv.reserveAsk.get x ∧ (acceptStep x st s).hv.string = 0 ∧
    (acceptStep x st s).hv.holdTimer = none ∧ (acceptStep x st s).hv.asks x = false ∧
    Notified s (acceptStep x st s) x.port srcHvGranted := by
  have unheld : s.hv.holder = none := Hv.next_unheld (h := s.hv.setStepAsk x true) next
  have apart : s.hv.holder ≠ some x := by rw [unheld]; nofun
  have goes : acceptStep x st s = lookForGrant ((s.setBench x ((s.bench x).stepping st)).setHv (s.hv.setStepAsk x true)) := by
    rw [acceptStep_ready st run]
    exact stepWaits_asks (s := s.setBench x ((s.bench x).stepping st)) (.inl apart)
  rw [goes]
  generalize hu : (s.setBench x ((s.bench x).stepping st)).setHv (s.hv.setStepAsk x true) = u
  have bench : u.bench x = (s.bench x).stepping st := by rw [← hu]; exact State.setBench_bench_same s x _
  have store : u.store = s.store := by rw [← hu]; rfl
  have hv : u.hv = s.hv.setStepAsk x true := by rw [← hu]; rfl
  have units : ∀ p, u.unit p = s.unit p := fun p => by rw [← hu]; rfl
  have asks : u.hv.stepAsk.get x = true := by rw [hv]; simp [Hv.setStepAsk, Hv.lineUp]
  have first : u.hv.next = some x := by rw [hv]; exact next
  have ran : ((lookForGrant u).bench x).run = .insulation := by
    rw [lookForGrant_next first, grant_run, bench]
    rfl
  obtain ⟨holder, unasks, string, step, reserved, timer, raised, configures⟩ := granted_lookForGrant first
  have configures := configures asks st (by rw [bench]; rfl) waits
  rw [Configures, store] at configures
  rw [asks] at step reserved timer
  refine ⟨ran, configures, holder, step, ?_, string, timer, unasks, ?_⟩
  · rw [reserved, hv]
    simp [Hv.setStepAsk, Hv.lineUp]
  · rwa [Notified, units] at raised

/-- The step of a station that no grant reaches stays in WAIT-HV with its ask set (R116). -/
theorem acceptStep_waits (st : StepRecord) (run : (s.bench x).run = .ready) (h : s.hv.holder ≠ some x ∨ s.hv.releasePending = true)
    (next : (s.hv.setStepAsk x true).next = none) :
    acceptStep x st s = (s.setBench x ((s.bench x).stepping st)).setHv (s.hv.setStepAsk x true) := by
  rw [acceptStep_ready st run, stepWaits_asks (s := s.setBench x _) h]
  exact lookForGrant_none (s := (s.setBench x ((s.bench x).stepping st)).setHv (s.hv.setStepAsk x true)) next

/-! ## The request (R136, R138) -/

section
variable {kind locate : Byte} {selection voltage dwell threshold : Word16} {sel : Selection} {r : RunRecord}

theorem serveStart_unselected (h : selectionOf kind selection = none) :
    serveStartInsulation x kind selection voltage dwell threshold locate s = same .badArgument s := by
  simp only [serveStartInsulation, h]

theorem serveStart_noRun (h : selectionOf kind selection = some sel) (record : (s.bench x).record = none) :
    serveStartInsulation x kind selection voltage dwell threshold locate s = same .noRun s := by
  simp only [serveStartInsulation, h, insulationBarred, record]

theorem serveStart_prerequisite (h : selectionOf kind selection = some sel) (record : (s.bench x).record = some r)
    (open_ : r.continuity ≠ .done ∨ r.shorts ≠ 0) :
    serveStartInsulation x kind selection voltage dwell threshold locate s = same .prerequisite s := by
  simp only [serveStartInsulation, h, insulationBarred, record, if_pos open_]

/-- A run that may step is judged further behind a check, or at once. -/
theorem serveStart_judged (h : selectionOf kind selection = some sel) (record : (s.bench x).record = some r)
    (done : r.continuity = .done) (shorts : r.shorts = 0) :
    serveStartInsulation x kind selection voltage dwell threshold locate s =
      if s.store.state = .checking then (s, none)
      else if selectedNets s.store.words sel = [] ∨ returnedSet s.store.words sel = [] then same .emptySelection s
      else if (s.bench x).run = .checking ∨ (s.bench x).run = .continuity ∨
          ((s.bench x).run = .insulation ∧ (s.bench x).queued.isSome = true) then same .busy s
      else
        (acceptStep x (.create s.store.words sel voltage.toNat dwell.toNat threshold.toNat (decide (locate ≠ 0))) s,
          some { status := .accepted, more := false, payload := .stepTaken (decide ((s.bench x).run = .insulation)),
                 clamped := wasClamped 50 1500 voltage.toNat || wasClamped 10 60000 dwell.toNat
                   || wasClamped 1 60000 threshold.toNat }) := by
  have met : ¬ (r.continuity ≠ .done ∨ r.shorts ≠ 0) := by simp [done, shorts]
  simp only [serveStartInsulation, h, insulationBarred, record, if_neg met, checking_iff]
  rfl

end

theorem taken_start (x : Station) (kind locate : Byte) (selection voltage dwell threshold : Word16) :
    Taken x.port (.startInsulation kind selection voltage dwell threshold locate) := taken_station rfl rfl nofun

theorem respond_response (p : Port) (c : Byte) (a : Reply) (t : State) : ((respond p c a t).port p).response = some (a.response c) := by
  unfold respond
  rw [State.setPort_port_same]

/-- Settles O41: the selection by its kinds, then the request test by test, and an accepted step by the holding. -/
theorem stepAnswered : Obligations.StepAnswered := by
  refine ⟨fun s i n v k m _ => ⟨?_, ?_, ?_⟩, fun s kind selection sel _ m _ => ⟨selectedNets_sorted m sel, fun span => ?_⟩,
    fun s x kind locate selection voltage dwell threshold ready => ?_⟩
  · simp only [mem_selectedNets, Selection.selects, decide_eq_true_eq]
    tauto
  · simp only [mem_selectedNets, Selection.selects, decide_eq_true_eq, masked_iff]
  · simp only [mem_selectedNets, Selection.selects, decide_eq_true_eq]
  · rw [returnedSet, returnedNets_eq, unusedPoints_eq m _ span]
  have taken := taken_start x kind locate selection voltage dwell threshold
  have same {v : Status}
      (h : serveStartInsulation x kind selection voltage dwell threshold locate (ended x.port s) = same v (ended x.port s)) :
      exec (.startInsulation x.port kind selection voltage dwell threshold locate) s = .next (plainly x.port 0x35 v s) :=
    exec_same rfl rfl ready taken ((ofStation_port x _ _).trans h)
  refine ⟨fun h => same (serveStart_unselected h), fun sel h => ⟨fun record => same (serveStart_noRun h record), fun r record =>
    ⟨fun barred => same (serveStart_prerequisite h record barred), fun done shorts => ?_⟩⟩⟩
  have judged := serveStart_judged (s := ended x.port s) (voltage := voltage) (dwell := dwell) (threshold := threshold)
    (locate := locate) h record done shorts
  rw [ended_store, ended_bench] at judged
  refine ⟨fun checking => ?_, fun rests => ?_⟩
  · rw [if_pos checking] at judged
    rw [exec_handOn (r := .startInsulation kind selection voltage dwell threshold locate) rfl ready taken]
    have left : serve x.port (.startInsulation kind selection voltage dwell threshold locate) (ended x.port s) = (ended x.port s, none) :=
      (ofStation_port x _ _).trans judged
    simp only [handOn, left, leftWaiting]
    simp [ended, PortState.endPeriod]
  rw [if_neg rests] at judged
  refine ⟨fun empty => same (judged.trans (if_pos empty)), fun selected returned => ?_⟩
  rw [if_neg (by rintro (e | e); exacts [selected e, returned e])] at judged
  refine ⟨fun busy => same (judged.trans (if_pos busy)), fun st clamped hst hclamped => ?_⟩
  have waits : st.state = .waitHv := by rw [hst]
  rw [create_eq, valuesClamped_eq] at judged
  rw [← hst, ← hclamped] at judged
  have accepted (run : (s.bench x).run = .ready ∨ ((s.bench x).run = .insulation ∧ (s.bench x).queued = none)) :
      exec (.startInsulation x.port kind selection voltage dwell threshold locate) s = .next (respond x.port 0x35
        { status := .accepted, clamped := clamped, more := false, payload := .stepTaken (decide ((s.bench x).run = .insulation)) }
        (acceptStep x st (ended x.port s))) := by
    have free : ¬ ((s.bench x).run = .checking ∨ (s.bench x).run = .continuity ∨
        ((s.bench x).run = .insulation ∧ (s.bench x).queued.isSome = true)) := by
      rcases run with run | ⟨run, queued⟩
      · simp [run]
      · simp [run, queued]
    rw [if_neg free] at judged
    have served : serve x.port (.startInsulation kind selection voltage dwell threshold locate) (ended x.port s) = _ :=
      (ofStation_port x _ _).trans judged
    have replied := exec_replied (s := s) (i := .startInsulation x.port kind selection voltage dwell threshold locate) rfl rfl ready taken
      (congrArg Prod.snd served)
    exact replied.trans (congrArg (fun u : Served => Host.Outcome.next (respond x.port 0x35 _ u.1)) served)
  refine ⟨fun run queued => ?_, fun run holder pending away => ?_, fun run next away => ?_, fun run holder next => ?_⟩
  · rw [accepted (.inr ⟨run, queued⟩), acceptStep_queues (s := ended x.port s) st run, run]
    exact congrArg _ (respond_endPeriod (s.setBench x { s.bench x with queued := some st }) x.port 0x35 _)
  · obtain ⟨ran, configures, hv⟩ := acceptStep_holder (s := ended x.port s) waits run holder pending away
    refine ⟨_, accepted (.inl run), ?_, ran, configures, hv⟩
    rw [respond_response, run]
    rfl
  · obtain ⟨ran, configures, granted⟩ := acceptStep_granted (s := ended x.port s) waits run next
    refine ⟨_, accepted (.inl run), ?_, ran, configures, granted⟩
    rw [respond_response, run]
    rfl
  · rw [accepted (.inl run), acceptStep_waits (s := ended x.port s) st run holder next, run]
    exact congrArg _ (respond_endPeriod ((s.setBench x ((s.bench x).stepping st)).setHv (s.hv.setStepAsk x true)) x.port 0x35 _)

end

end Sys2Proof.Machine

/-! A monitor rises (R13, R16, R49). -/

namespace Sys2Proof.Machine

section
variable {x : Station} {s : State}

theorem setHot_hot (x : Station) (v : Bool) (s : State) : (setHot x v s).hot x = v := by simp [setHot, State.hot]

/-! ## The guard -/

theorem guardTrunk_stands (h : (s.trunk x).state = .idle ∨ (s.trunk x).state = .settled) : guardTrunk x s = s := by
  rcases h with h | h <;> simp only [guardTrunk, h]

/-- A trunk that waits for the supervisor all-open load shows GUARDED (R16). -/
theorem guardTrunk_waits (opening : (s.trunk x).state = .opening) (part : (s.trunk x).part = .deviceAllOpen) :
    guardTrunk x s = s.setTrunk x { s.trunk x with state := .guarded } := by
  simp only [guardTrunk, opening, part, if_true]

/-- A trunk at work under the guard: its timers are stopped and a configuration is held (R13). -/
def Trunk.guarding (t : Trunk) : Trunk :=
  { t with
    state := .guarded, config := t.held, waiting := t.behind, settleTimer := none,
    part := if t.part = .earlierLoad then .earlierLoad else .load }

/-- Outside SETTLING the newest configuration is held. -/
theorem Trunk.guarding_newest {t : Trunk} (state : t.state = .opening ∨ t.state = .closing) :
    t.guarding =
      { t with
        state := .guarded, config := t.waiting.or t.config, waiting := none, settleTimer := none,
        part := if t.part = .earlierLoad then .earlierLoad else .load } := by
  rcases state with state | state <;> simp [Trunk.guarding, Trunk.held, Trunk.behind, state]

/-- In SETTLING the configuration in work stays, and so does one that waits behind it (log 19). -/
theorem Trunk.guarding_settling {t : Trunk} (state : t.state = .settling) :
    t.guarding =
      { t with state := .guarded, settleTimer := none, part := if t.part = .earlierLoad then .earlierLoad else .load } := by
  simp [Trunk.guarding, Trunk.held, Trunk.behind, state]

theorem guardTrunk_withdraws (busy : (s.trunk x).state = .opening ∨ (s.trunk x).state = .closing ∨ (s.trunk x).state = .settling)
    (part : (s.trunk x).part ≠ .deviceAllOpen) :
    guardTrunk x s = withdrawLoad x (s.setTrunk x (s.trunk x).guarding) := by
  rcases busy with h | h | h <;> simp only [guardTrunk, h, if_neg part, Trunk.guarding]

theorem guardTrunk_channels (x : Station) (s : State) : (guardTrunk x s).channels = s.channels := by
  unfold guardTrunk withdrawLoad
  dsimp only
  split
  iterate 3
    · split <;> rfl
  iterate 3
    · rfl

/-! ## The rise -/

/-- With no aperture on its channel a rise is the trunk's guard alone (R13). -/
theorem exec_rise_guards (running : s.inReset = false) (cold : s.hot x = false) (quiet : (s.channel x).state ≠ .measuring) :
    exec (.monitorRise x) s = .next (guardTrunk x (setHot x true s)) := by
  have still : ((guardTrunk x (setHot x true s)).channel x).state ≠ .measuring := by
    rw [State.channel, guardTrunk_channels]
    exact quiet
  refine next_running (monitorRises x) running |>.trans (congrArg _ ?_)
  simp [monitorRises, cold, quiet, cutAperture, still]

/-- A running aperture of a SETTLED trunk is cut, and the engine of the trunk learns that the measurement was not taken (R49). -/
theorem exec_rise_cuts (running : s.inReset = false) (cold : s.hot x = false) (measuring : (s.channel x).state = .measuring)
    (alone : (s.channel x).isoPending = false) (settled : (s.trunk x).state = .settled) :
    exec (.monitorRise x) s =
      .next (onMeasured x (.notTaken .cut) ((setHot x true s).setChannel x
        { s.channel x with state := .idle, lastResult := some (.notTaken .cut), inHand := none })) := by
  refine next_running (monitorRises x) running |>.trans (congrArg _ ?_)
  have stands : guardTrunk x (setHot x true s) = setHot x true s := guardTrunk_stands (s := setHot x true s) (.inr settled)
  have cut : cutAperture x (setHot x true s) =
      (setHot x true s).setChannel x { s.channel x with state := .idle, lastResult := some (.notTaken .cut), inHand := none } := by
    have same : (setHot x true s).channel x = s.channel x := rfl
    unfold cutAperture
    rw [same, if_pos measuring]
    simp only [alone]
    rfl
  rw [monitorRises, if_neg (by simp [cold]), stands, cut, if_pos measuring]

/-- A sweep that does not wait for its channel, like a step, makes nothing of the cut. -/
theorem onMeasured_idle (v : MeasResult) (h : (s.bench x).wait ≠ .channel) : onMeasured x v s = s := by
  simp only [onMeasured, h, and_false, if_false]
  split <;> rfl

/-- A measurement of a sweep that was not taken is repeated: the same configuration is handed again (R86, R99). -/
theorem onMeasured_repeats {w : Sweep} {r : RunRecord} {why : NotTakenReason} (sweep : (s.bench x).sweep = some w)
    (run : (s.bench x).run = .continuity) (wait : (s.bench x).wait = .channel) (record : (s.bench x).record = some r)
    (going : r.abortPending = false) : onMeasured x (.notTaken why) s = handConfig x (s.bench x).handed s := by
  have goes : ¬ (aborting s x = true) := by rw [aborting_eq record, going]; nofun
  simp only [onMeasured, sweep, run, wait, and_self, if_true, if_neg goes, repeatPair]

/-- A configuration handed to a SETTLED trunk that is hot is held GUARDED (R10, R13). -/
theorem handConfig_guarded (c : Configuration) (ready : s.matrix.state = .ready) (settled : (s.trunk x).state = .settled)
    (hot : s.hot x = true) (uncut : Uncut s x) (quiet : (s.channel x).state ≠ .measuring) :
    handConfig x c s =
      (s.setBench x ((s.bench x).handing c)).setTrunk x { takingUp x c s with state := .guarded } := by
  have leaves : left x (s.setBench x ((s.bench x).handing c)) = s.setBench x ((s.bench x).handing c) :=
    (if_pos settled).trans (leaveSettled_quiet (s := s.setBench x ((s.bench x).handing c)) uncut quiet)
  have takes : arrive x c (s.setBench x ((s.bench x).handing c)) = takeUp x c (s.setBench x ((s.bench x).handing c)) :=
    arrive_takes (s := s.setBench x ((s.bench x).handing c)) c ready (.inr settled)
  have guarded := takeUp_hot (s := s.setBench x ((s.bench x).handing c)) (x := x) c hot
  rw [leaves] at guarded
  exact congrArg Prod.fst (takes.trans guarded)

/-- Settles O23: the guard by the trunk's state, and the cut of an aperture by what its engine waits for. -/
theorem monitorRiseGuards : Obligations.MonitorRiseGuards := fun s x running cold => by
  refine ⟨fun quiet => ?_, fun measuring alone settled => ⟨fun idle => ?_, fun r record c hc wait sweep run going ready away => ?_⟩⟩
  · have rises {t : State} (h : guardTrunk x (setHot x true s) = t) : exec (.monitorRise x) s = .next t :=
      (exec_rise_guards running cold quiet).trans (congrArg _ h)
    have withdraws (busy : (s.trunk x).state = .opening ∨ (s.trunk x).state = .closing ∨ (s.trunk x).state = .settling)
        (part : (s.trunk x).part ≠ .deviceAllOpen) :
        guardTrunk x (setHot x true s) = withdrawLoad x ((setHot x true s).setTrunk x (s.trunk x).guarding) :=
      guardTrunk_withdraws (s := setHot x true s) busy part
    refine ⟨fun h => rises (guardTrunk_stands (s := setHot x true s) h), fun h part => rises ?_, fun h part => rises ?_,
      fun h part => rises (guardTrunk_waits (s := setHot x true s) h part), fun h part => rises ?_⟩
    · have fresh : (s.trunk x).part ≠ .earlierLoad := by rcases part with part | part <;> simp [part]
      have own : (s.trunk x).part ≠ .deviceAllOpen := by rcases part with part | part <;> simp [part]
      rw [withdraws (h.elim .inl fun h => .inr (.inl h)) own, Trunk.guarding_newest h, if_neg fresh]
      rfl
    · have fresh : (s.trunk x).part ≠ .earlierLoad := by rcases part with part | part <;> simp [part]
      have own : (s.trunk x).part ≠ .deviceAllOpen := by rcases part with part | part <;> simp [part]
      rw [withdraws (.inr (.inr h)) own, Trunk.guarding_settling h, if_neg fresh]
      rfl
    · have own : (s.trunk x).part ≠ .deviceAllOpen := by simp [part]
      rw [withdraws (.inl h) own, Trunk.guarding_newest (.inl h), if_pos part, ← part]
      rfl
  · exact (exec_rise_cuts running cold measuring alone settled).trans (congrArg _ (onMeasured_idle _ idle))
  · obtain ⟨w, sweep⟩ := Option.isSome_iff_exists.mp sweep
    rw [exec_rise_cuts running cold measuring alone settled]
    generalize hu : (setHot x true s).setChannel x
      { s.channel x with state := .idle, lastResult := some (.notTaken .cut), inHand := none } = u
    have bench : u.bench x = s.bench x := by rw [← hu]; rfl
    have trunk : u.trunk x = s.trunk x := by rw [← hu]; rfl
    have hot : u.hot x = true := by rw [← hu]; exact setHot_hot x true s
    rw [onMeasured_repeats (w := w) (r := r) (by rw [bench]; exact sweep) (by rw [bench]; exact run) (by rw [bench]; exact wait)
      (by rw [bench]; exact record) going, bench, ← hc,
      handConfig_guarded c (by rw [← hu]; exact ready) (by rw [trunk]; exact settled) hot
        (fun e he hx => absurd hx (away e (by rw [← hu] at he; exact he))) (by rw [← hu]; simp)]
    have again : (s.bench x).handing c = { s.bench x with wait := .trunk } := by
      rw [hc]
      rfl
    rw [bench, again, ← hu]
    rfl

end

end Sys2Proof.Machine

/-! What the chain loads write, and what a completed load starts (R3 to R5, R10 to R13). -/

namespace Sys2Proof.Machine

section
variable {x : Station} {s t : State}

/-! ## The contents of the loads (R3, R5, R10) -/

theorem known_image {m : Matrix} {i : RelayImage} (h : m.image = some i) : m.known = i := by rw [Matrix.known, h]; rfl

theorem trunkRelays_drive (s : State) (x : Station) {p : Nat} (hp : p < 2048) :
    (trunkRelays s x).drive.getLsbD p = (decide (OnCards (s.window x) p) && s.matrix.known.relays.drive.getLsbD p) := by
  simp only [trunkRelays, BitVec.getLsbD_and, Window.points_getLsbD _ hp, Bool.and_comm]

theorem trunkRelays_ret (s : State) (x : Station) {p : Nat} (hp : p < 2048) :
    (trunkRelays s x).ret.getLsbD p = (decide (OnCards (s.window x) p) && s.matrix.known.relays.ret.getLsbD p) := by
  simp only [trunkRelays, BitVec.getLsbD_and, Window.points_getLsbD _ hp, Bool.and_comm]

theorem mayStart_allOpen (m : Matrix) : m.mayStart .allOpen = true ↔ m.hot.a = false ∧ m.hot.b = false := by
  simp [Matrix.mayStart]

theorem mayStart_window (m : Matrix) :
    m.mayStart .window = true ↔
      (m.known.sel.a ≠ m.selTable.a → m.hot.a = false) ∧ (m.known.sel.b ≠ m.selTable.b → m.hot.b = false) := by
  simp only [Matrix.mayStart, Bool.and_eq_true, Bool.or_eq_true, decide_eq_true_eq, Bool.not_eq_true', or_iff_not_imp_left, ne_eq]

/-! ## A completed load (R3 to R5) -/

/-- The part with a load's contents in its relay image and the chain free (R3). -/
def State.loaded (s : State) (l : ChainLoad) : State := s.setMatrix { s.matrix with image := some l.contents, load := none }

theorem exec_loadComplete {l : ChainLoad} (running : s.inReset = false) (load : s.matrix.load = some l) :
    exec .chainLoadComplete s = .next (chainStart (loadCompleted l.requester (s.loaded l))) := by
  refine (next_running chainLoadCompletes running).trans (congrArg _ ?_)
  unfold chainLoadCompletes
  split
  next k hk =>
    cases load.symm.trans hk
    rfl
  next none => cases load.symm.trans none

/-- The matrix with what a completed load may move of it: the housekeeping release wait, and the trunks. -/
def Matrix.moved (m : Matrix) (wait : Option Housekeeping) (trunks : Both Trunk) : Matrix := { m with hkWait := wait, trunks := trunks }

/-- The end of an earlier load of a trunk whose newer request waits moves nothing of the trunk (log 20). -/
theorem trunkLoadDone_superseded (h : (s.matrix.slots.get x).isSome = true) : trunkLoadDone x s = (s, none) := if_pos h

section
variable (alone : ¬ (s.matrix.slots.get x).isSome = true)
include alone

theorem trunkLoadDone_opening (state : (s.trunk x).state = .opening) (part : (s.trunk x).part = .load) :
    trunkLoadDone x s = (s.setTrunk x { s.trunk x with part := .releaseWait }, none) := by
  simp only [trunkLoadDone, if_neg alone, state, part]

theorem trunkLoadDone_closing (state : (s.trunk x).state = .closing) :
    trunkLoadDone x s = (s.setTrunk x (s.trunk x).settle, none) := by
  simp only [trunkLoadDone, if_neg alone, state]

/-- A trunk that let its own load run out takes up what it holds (logs 20 and 22). -/
theorem trunkLoadDone_earlier {c : Configuration} (state : (s.trunk x).state = .opening) (part : (s.trunk x).part = .earlierLoad)
    (config : (s.trunk x).config = some c) (later : ¬ DoneAtOnce s x c) : trunkLoadDone x s = ((takeUp x c s).1, none) := by
  have going := unfinished later
  simp only [trunkLoadDone, if_neg alone, state, part, config, Option.getD_some, going]
  rfl

theorem trunkLoadDone_else (opening : (s.trunk x).state = .opening → (s.trunk x).part ≠ .load ∧ (s.trunk x).part ≠ .earlierLoad)
    (closing : (s.trunk x).state ≠ .closing) : trunkLoadDone x s = (s, none) := by
  simp only [trunkLoadDone, if_neg alone]
  split
  next state part => exact absurd part (opening state).1
  next state part => exact absurd part (opening state).2
  next state => exact absurd state closing
  next => rfl

end

/-- A load's end, but for that of a trunk that let its own load run out, moves trunks and the release wait only (R5, R11, log 20). -/
theorem loadCompleted_moves {q : Requester} (h : ∀ x, q = .trunk x →
      (s.trunk x).state ≠ .opening ∨ (s.trunk x).part ≠ .earlierLoad ∨ (s.matrix.slots.get x).isSome = true) :
    ∃ w v, loadCompleted q s = s.setMatrix (s.matrix.moved w v) ∧
      ∀ x, q = .trunk x → (s.matrix.slots.get x).isSome = true ∨ (s.trunk x).state = .guarded → v.get x = s.trunk x := by
  have stays {w : State} (e : w = s) : ∃ k v, w = s.setMatrix (s.matrix.moved k v) ∧
      ∀ x, q = .trunk x → (s.matrix.slots.get x).isSome = true ∨ (s.trunk x).state = .guarded → v.get x = s.trunk x :=
    ⟨s.matrix.hkWait, s.matrix.trunks, e, fun _ _ _ => rfl⟩
  cases q with
  | trunk x =>
    have told : loadCompleted (.trunk x) s = tellTrunk x (trunkLoadDone x s) := rfl
    rw [told]
    by_cases queued : (s.matrix.slots.get x).isSome = true
    · exact stays (congrArg (tellTrunk x) (trunkLoadDone_superseded queued))
    · have moves {v : Trunk} (e : trunkLoadDone x s = (s.setTrunk x v, none)) (busy : (s.trunk x).state ≠ .guarded) :
          ∃ k u, tellTrunk x (trunkLoadDone x s) = s.setMatrix (s.matrix.moved k u) ∧ ∀ y, Requester.trunk x = .trunk y →
            (s.matrix.slots.get y).isSome = true ∨ (s.trunk y).state = .guarded → u.get y = s.trunk y := by
        refine ⟨s.matrix.hkWait, s.matrix.trunks.set x v, congrArg (tellTrunk x) e, fun y hy idle => ?_⟩
        cases hy
        exact (idle.elim queued busy).elim
      by_cases closing : (s.trunk x).state = .closing
      · exact moves (trunkLoadDone_closing queued closing) (by rw [closing]; nofun)
      · by_cases opens : (s.trunk x).state = .opening ∧ (s.trunk x).part = .load
        · exact moves (trunkLoadDone_opening queued opens.1 opens.2) (by rw [opens.1]; nofun)
        · refine stays (congrArg (tellTrunk x)
            (trunkLoadDone_else queued (fun state => ⟨fun part => opens ⟨state, part⟩, fun part => ?_⟩) closing))
          rcases h x rfl with h | h | h
          · exact h state
          · exact h part
          · exact queued h
  | housekeeping k =>
    have moves (w : Option Housekeeping) (e : loadCompleted (.housekeeping k) s = s.setMatrix { s.matrix with hkWait := w }) :
        ∃ k' v, loadCompleted (.housekeeping k) s = s.setMatrix (s.matrix.moved k' v) ∧ ∀ x, Requester.housekeeping k = .trunk x →
          (s.matrix.slots.get x).isSome = true ∨ (s.trunk x).state = .guarded → v.get x = s.trunk x :=
      ⟨w, s.matrix.trunks, e, nofun⟩
    cases k with
    | clearing => exact moves (some .clearing) rfl
    | window => exact stays rfl
    | allOpen =>
      by_cases again : s.matrix.hk = some .allOpen
      · exact stays (if_pos again)
      · exact moves (some .allOpen) (if_neg again)

/-- What waits is served behind a load that moved trunks and the release wait only (R4, R5). -/
theorem chainStart_moved (free : s.matrix.load = none) (w : Option Housekeeping) (v : Both Trunk) :
    (chainStart (s.setMatrix (s.matrix.moved w v))).benches = s.benches ∧ (chainStart (s.setMatrix (s.matrix.moved w v))).hv = s.hv ∧
    ChainServes s.matrix (chainStart (s.setMatrix (s.matrix.moved w v))).matrix ∧
    ∀ x, (chainStart (s.setMatrix (s.matrix.moved w v))).trunk x = v.get x := by
  refine ⟨rfl, rfl, chainServes_arbitrate (m := s.matrix.moved w v) free, fun x => ?_⟩
  rw [chainStart_trunk]
  rfl

end

end Sys2Proof.Machine

/-! The end of a trunk's release wait, with the end of an activity (R11, R12, R68, R144). -/

namespace Sys2Proof.Machine

section
variable {x : Station} {s t : State}

/-! ## The arbiter behind a taking up -/

theorem chainStart_busy {l : ChainLoad} (h : s.matrix.load = some l) : chainStart s = s := by
  rw [chainStart, arbitrate_busy h]
  rfl

/-- A request that is on the chain, or that waits behind a load in progress, stands as the arbiter looks again. -/
theorem LoadRequested.chainStart {r : Relays} (h : LoadRequested s t x r) : LoadRequested s (chainStart t) x r := by
  obtain ⟨starts, waits⟩ := h
  refine ⟨fun free none alone => ?_, fun l busy => ?_⟩
  · have started := starts free none alone
    rw [chainStart_busy started.1]
    exact started
  · have waiting := waits l busy
    rw [chainStart_busy waiting.1]
    exact waiting

theorem TakesUp.chainStart {c : Configuration} {b : Option Configuration} (h : TakesUp s t x c b) : TakesUp s (chainStart t) x c b := by
  rintro g hg now hnow k hk
  obtain ⟨hot, cold⟩ := h g hg now hnow k hk
  refine ⟨fun e => (chainStart_trunk t x).trans (hot e), fun e => ?_⟩
  obtain ⟨opens, closes, settles⟩ := cold e
  exact ⟨fun o => ⟨(chainStart_trunk t x).trans (opens o).1, LoadRequested.chainStart (opens o).2⟩,
    fun o k => ⟨(chainStart_trunk t x).trans (closes o k).1, LoadRequested.chainStart (closes o k).2⟩,
    fun o k n => (chainStart_trunk t x).trans (settles o k n)⟩

/-- A load's end writes nothing of the matrix but its trunks, its chain and the release wait. -/
theorem worked_loadCompleted (q : Requester) (s : State) :
    ∃ w, Worked (s.setMatrix { s.matrix with hkWait := w }) (loadCompleted q s) := by
  cases q with
  | trunk x => exact ⟨s.matrix.hkWait, worked_tellTrunk x (worked_trunkLoadDone x s)⟩
  | housekeeping k =>
    cases k with
    | clearing => exact ⟨some .clearing, .refl _⟩
    | window => exact ⟨s.matrix.hkWait, .refl _⟩
    | allOpen =>
      by_cases again : s.matrix.hk = some .allOpen
      · exact ⟨s.matrix.hkWait, by rw [show loadCompleted (.housekeeping .allOpen) s = s from if_pos again]; exact .refl s⟩
      · exact ⟨some .allOpen, by rw [show loadCompleted (.housekeeping .allOpen) s = _ from if_neg again]; exact .refl _⟩

/-! ## The end of the release wait (R11, R12) -/

section
variable (opening : (s.trunk x).state = .opening) (part : (s.trunk x).part = .releaseWait)
include opening part

theorem releaseWaitEnds_closes (closes : (trunkRelays s x).closesSome (s.trunk x).target = true) :
    releaseWaitEnds x s =
      (requestLoad x (s.trunk x).target (s.setTrunk x { s.trunk x with state := .closing, part := .load }), none) := by
  simp only [releaseWaitEnds, opening, part, and_self, if_true, closes]

variable (stays : (trunkRelays s x).closesSome (s.trunk x).target = false)
include stays

theorem releaseWaitEnds_settles (config : (s.trunk x).config ≠ some .empty) :
    releaseWaitEnds x s = (s.setTrunk x (s.trunk x).settle, none) := by
  simp only [releaseWaitEnds, opening, part, and_self, if_true, stays, Bool.false_eq_true, if_false, if_neg config]

theorem releaseWaitEnds_completes (config : (s.trunk x).config = some .empty) :
    releaseWaitEnds x s = completeConfig x false s := by
  simp only [releaseWaitEnds, opening, part, and_self, if_true, stays, Bool.false_eq_true, if_false, config]

end

theorem completeConfig_superseded {c : Configuration} {settled : Bool} (newer : (s.trunk x).waiting = some c)
    (later : ¬ DoneAtOnce s x c) :
    completeConfig x settled s = ((takeUp x c (s.setTrunk x ((s.trunk x).behindWith none))).1, none) := by
  have going := unfinished (s := s.setTrunk x ((s.trunk x).behindWith none)) later
  simp only [completeConfig, newer]
  exact Prod.ext rfl (if_neg (Bool.eq_false_iff.mp going))

theorem completeConfig_rests (none_ : (s.trunk x).waiting = none) :
    completeConfig x false s = (s.setTrunk x (s.trunk x).rest, some .idle) := by
  simp only [completeConfig, none_, Bool.false_eq_true, if_false]

/-! ## The end of an activity (R68, R140, R144) -/

theorem onTrunkDone_allOpen (wait : (s.bench x).wait = .allOpen) : onTrunkDone x s = activityDone x s := by
  simp only [onTrunkDone, wait]

theorem activityDone_swept (run : (s.bench x).run = .continuity) :
    activityDone x s = raise x.port srcStepDone (s.setBench x { s.bench x with run := .ready, sweep := none, wait := .nothing }) := by
  simp only [activityDone, run]

theorem setBench_setBench (s : State) (x : Station) (b c : Bench) : (s.setBench x b).setBench x c = s.setBench x c := by
  cases x <;> rfl

/-- The bench with its queued step in the step slot (R144). -/
def Bench.takingQueued (b : Bench) (q : StepRecord) : Bench := { b with step := some q, queued := none, wait := .hv }

/-- A queued step whose ask stands, or which asks now (R140). -/
theorem activityDone_queued {q : StepRecord} (run : (s.bench x).run = .insulation) (queued : (s.bench x).queued = some q) :
    activityDone x s =
      if s.hv.stepAsk.get x then raise x.port srcStepDone (s.setBench x ((s.bench x).takingQueued q))
      else stepWaits x (raise x.port srcStepDone (s.setBench x ((s.bench x).takingQueued q))) := by
  have emptied : (s.setBench x { s.bench x with step := none }).bench x = { s.bench x with step := none } :=
    State.setBench_bench_same s x _
  have moved : takeUpQueued x q (raise x.port srcStepDone (s.setBench x { s.bench x with step := none })) =
      if s.hv.stepAsk.get x then raise x.port srcStepDone (s.setBench x ((s.bench x).takingQueued q))
      else stepWaits x (raise x.port srcStepDone (s.setBench x ((s.bench x).takingQueued q))) := by
    have slot : (raise x.port srcStepDone (s.setBench x { s.bench x with step := none })).setBench x
        { (s.setBench x { s.bench x with step := none }).bench x with step := some q, queued := none, wait := .hv } =
          raise x.port srcStepDone (s.setBench x ((s.bench x).takingQueued q)) := by
      rw [emptied]
      exact congrArg (raise x.port srcStepDone) (setBench_setBench s x _ _)
    exact congrArg (fun u => if s.hv.stepAsk.get x then u else stepWaits x u) slot
  refine Eq.trans ?_ moved
  unfold activityDone
  dsimp only
  split
  next other => cases run.symm.trans other
  next =>
    split
    next p hp =>
      cases queued.symm.trans hp
      rfl
    next none => cases queued.symm.trans none
  all_goals
    next other => cases run.symm.trans other

theorem stepMayGo_queued (x : Station) (s : State) : ((stepMayGo x s).bench x).queued = (s.bench x).queued := by
  unfold stepMayGo handStep holdRead
  split
  next v hv =>
    split
    · rw [State.setBench_bench_same]
      dsimp only
      split
      · simp
      · simp [handConfig_bench_same, Bench.handing]
    · rfl
  · rfl

/-- On a trunk that is not SETTLED a step that may go moves nothing of the source. -/
theorem stepMayGo_hv (h : (s.trunk x).state ≠ .settled) : (stepMayGo x s).hv = s.hv := by
  unfold stepMayGo handStep holdRead
  split
  next v hv =>
    split
    · rw [State.setBench_bench_same]
      dsimp only
      split
      · rfl
      · exact ((handing_handConfig x _ (s.setBench x _)).settled h).1
    · rfl
  · rfl

end

end Sys2Proof.Machine

/-! A trunk's loads and waits, clause by clause (R3 to R5, R10 to R12, R68, R144). -/

namespace Sys2Proof.Machine

section
variable {x : Station} {s : State}

/-- The end of the release wait where the trunk rests: the engine learns it. -/
theorem exec_waitEnds_rests (running : s.inReset = false) (opening : (s.trunk x).state = .opening) (part : (s.trunk x).part = .releaseWait)
    (stays : (trunkRelays s x).closesSome (s.trunk x).target = false) (config : (s.trunk x).config = some .empty)
    (alone : (s.trunk x).waiting = none) :
    exec (.releaseWaitExpiry x) s = .next (onTrunkDone x (s.setTrunk x (s.trunk x).rest)) := by
  refine (next_running (fun s => tellTrunk x (releaseWaitEnds x s)) running).trans (congrArg _ ?_)
  rw [releaseWaitEnds_completes opening part stays config, completeConfig_rests alone]
  rfl

/-- A request of a trunk waits in its slot, or its load is on the chain (R4). -/
theorem requestLoad_placed (x : Station) (r : Relays) (s : State) :
    (requestLoad x r s).matrix.slots.get x = some r ∨
      ∃ l, (requestLoad x r s).matrix.load = some l ∧ l.requester = .trunk x := by
  have asked : (s.matrix.asking x r).slots.get x = some r := Both.get_set_same _ _ _
  rw [requestLoad_eq, State.setMatrix_matrix]
  rcases arbitrate_cases (s.matrix.asking x r) with e | ⟨k, -, -, -, e⟩ | ⟨y, u, -, -, e⟩
  · rw [e]
    exact .inl asked
  · rw [e]
    exact .inl asked
  · rw [e]
    by_cases h : y = x
    · subst h
      exact .inr ⟨_, rfl, rfl⟩
    · exact .inl ((Both.get_set_ne _ _ (Ne.symm h)).trans asked)

/-- What the loads write (R3, R5, R10). -/
theorem loads_written (s : State) (x : Station) {i : RelayImage} (image : s.matrix.image = some i) (r target : Relays) {p : Nat}
    (hp : p < 2048) :
    (s.matrix.trunkLoad x r).requester = .trunk x ∧ (s.matrix.trunkLoad x r).contents.sel = s.matrix.selTable ∧
    (s.matrix.trunkLoad x r).contents.relays.drive.getLsbD p =
      (if OnCards (s.window x) p then r.drive.getLsbD p else i.relays.drive.getLsbD p) ∧
    (s.matrix.trunkLoad x r).contents.relays.ret.getLsbD p =
      (if OnCards (s.window x) p then r.ret.getLsbD p else i.relays.ret.getLsbD p) ∧
    (trunkRelays s x).drive.getLsbD p = (decide (OnCards (s.window x) p) && i.relays.drive.getLsbD p) ∧
    (trunkRelays s x).ret.getLsbD p = (decide (OnCards (s.window x) p) && i.relays.ret.getLsbD p) ∧
    (r.opened target).drive.getLsbD p = (r.drive.getLsbD p && target.drive.getLsbD p) ∧
    (r.opened target).ret.getLsbD p = (r.ret.getLsbD p && target.ret.getLsbD p) := by
  have known := known_image image
  have drive := trunkLoad_drive s.matrix x r hp
  have ret := trunkLoad_ret s.matrix x r hp
  have driven := trunkRelays_drive s x hp
  have returned := trunkRelays_ret s x hp
  rw [known] at drive ret driven returned
  exact ⟨rfl, rfl, drive, ret, driven, returned, BitVec.getLsbD_and, BitVec.getLsbD_and⟩

/-- A queued step of a station that stands behind the other one's holding asks and waits (R116, R140). -/
theorem stepWaits_behind (holder : s.hv.holder = some x.other) :
    stepWaits x s =
      s.setHv { s.hv with
        stepAsk := s.hv.stepAsk.set x true
        line := if s.hv.line.contains x then s.hv.line else s.hv.line ++ [x] } := by
  have apart : s.hv.holder ≠ some x := by
    rw [holder]
    exact fun e => Station.other_ne x (Option.some.inj e)
  have asked : s.hv.setStepAsk x true =
      { s.hv with
        stepAsk := s.hv.stepAsk.set x true
        line := if s.hv.line.contains x then s.hv.line else s.hv.line ++ [x] } := by
    simp [Hv.setStepAsk, Hv.lineUp, Hv.asks]
  have nobody : (s.hv.setStepAsk x true).next = none := by
    refine Option.eq_none_iff_forall_ne_some.mpr fun y next => ?_
    have unheld := Hv.next_unheld (h := s.hv.setStepAsk x true) next
    cases holder.symm.trans unheld
  rw [stepWaits_asks (.inl apart), lookForGrant_none (s := s.setHv (s.hv.setStepAsk x true)) nobody, asked]

/-- A queued step of the holder enters CONFIGURE on the trunk that has come to rest (R140, R144). -/
theorem takeUp_queued {q : StepRecord} (rests : (s.trunk x).state = .idle) (run : (s.bench x).run = .insulation)
    (queued : (s.bench x).queued = some q) (unasked : s.hv.stepAsk.get x = false) (holder : s.hv.holder = some x)
    (due : s.hv.releasePending = false) (waits : q.state = .waitHv) :
    Configures s (activityDone x s) x q ∧ ((activityDone x s).bench x).queued = none ∧
    ((activityDone x s).bench x).run = .insulation ∧
    (activityDone x s).hv = { s.hv with holderStep := true, holdTimer := none } ∧ Notified s (activityDone x s) x.port srcStepDone := by
  have goes : activityDone x s = stepMayGo x ((raise x.port srcStepDone (s.setBench x ((s.bench x).takingQueued q))).setHv
      { s.hv with holderStep := true, holdTimer := none }) := by
    rw [activityDone_queued run queued, if_neg (by rw [unasked]; nofun)]
    exact stepWaits_holder (s := raise x.port srcStepDone (s.setBench x ((s.bench x).takingQueued q))) holder due
  have raised : Notified s (raise x.port srcStepDone (s.setBench x ((s.bench x).takingQueued q))) x.port srcStepDone :=
    notified_raise x.port srcStepDone (s.setBench x _) (by decide)
  rw [goes]
  generalize hu : (raise x.port srcStepDone (s.setBench x ((s.bench x).takingQueued q))).setHv
    { s.hv with holderStep := true, holdTimer := none } = u
  have bench : u.bench x = (s.bench x).takingQueued q := by rw [← hu]; exact State.setBench_bench_same s x _
  have store : u.store = s.store := by rw [← hu]; rfl
  have trunk : u.trunk x = s.trunk x := by rw [← hu]; rfl
  have hv : u.hv = { s.hv with holderStep := true, holdTimer := none } := by rw [← hu]; rfl
  have notified : Notified s u x.port srcStepDone := by rw [← hu]; exact raised
  have configures := stepMayGo_configures (s := u) (x := x) (st := q) (by rw [bench]; rfl) waits
  refine ⟨?_, ?_, ?_, ?_, notified.worked (worked_stepMayGo x u)⟩
  · rwa [Configures, store] at configures
  · rw [stepMayGo_queued, bench]
    rfl
  · rw [stepMayGo_run, bench]
    exact run
  · rw [stepMayGo_hv (by rw [trunk, rests]; nofun), hv]

/-- Settles O20: the contents of the loads, a load's end by its requester, and the end of a release wait with its activity. -/
theorem trunkLoadsMoveOn : Obligations.TrunkLoadsMoveOn := by
  refine ⟨fun s x i image r target p hp => ?_, fun s l running load moves => ?_,
    fun s x running l load own opening part alone c config u hu later => ?_, fun s l running load => ⟨?_, fun a b hk => ?_⟩,
    fun s x running opening part => ⟨fun closes => ?_, fun stays config => ?_, fun c newer stays config later => ?_,
      fun stays config alone i hi => ?_⟩⟩
  · obtain ⟨h1, h2, h3, h4, h5, h6, h7, h8⟩ := loads_written s x image r target hp
    have known := known_image image
    refine ⟨h1, h2, h3, h4, h5, h6, h7, h8, rfl, rfl, ?_, rfl, mayStart_allOpen _, ?_⟩
    · rw [Matrix.housekeepingLoad, known]
    · rw [mayStart_window, known]
      rfl
  · obtain ⟨w, v, moved, stands⟩ := loadCompleted_moves (s := s.loaded l) (q := l.requester) moves
    obtain ⟨benches, hv, serves, trunks⟩ := chainStart_moved (s := s.loaded l) rfl w v
    refine ⟨_, exec_loadComplete running load, ?_⟩
    rw [moved]
    exact ⟨benches, hv, serves, fun x own h => (trunks x).trans (stands x own h)⟩
  · subst hu
    have free : ¬ ((s.loaded l).matrix.slots.get x).isSome = true := by
      show ¬ (s.matrix.slots.get x).isSome = true
      rw [alone]
      nofun
    have ends : loadCompleted l.requester (s.loaded l) = (takeUp x c (s.loaded l)).1 := by
      rw [own]
      exact congrArg (tellTrunk x) (trunkLoadDone_earlier (s := s.loaded l) free opening part config later)
    have handing := handing_takeUp x c (s.loaded l)
    obtain ⟨hv, -⟩ := handing.settled (by show (s.trunk x).state ≠ _; rw [opening]; nofun)
    refine ⟨_, exec_loadComplete running load, ?_⟩
    rw [ends]
    exact ⟨(takesUp_takeUp x c (s.loaded l)).chainStart, handing.benches, hv⟩
  · obtain ⟨w, worked⟩ := worked_loadCompleted l.requester (s.loaded l)
    have k := (worked_chainStart _).after worked
    exact ⟨_, exec_loadComplete running load, k.image, k.matrixState, k.selTable, k.presence, k.windows, k.hot, k.store,
      k.ports, k.printer⟩
  · have rests {w : State} (e : loadCompleted l.requester (s.loaded l) = w) (idle : w.matrix.arbitrate = w.matrix) :
        exec .chainLoadComplete s = .next w := by
      rw [exec_loadComplete running load, e, chainStart, idle]
      rfl
    have slots : s.matrix.slots = ⟨none, none⟩ := congrArg₂ Both.mk a b
    have nothing {m : Matrix} (free : m.load = none) (same : m.slots = s.matrix.slots) (none : m.hk = s.matrix.hk) : m.arbitrate = m := by
      rw [arbitrate_trunk free (fun k h => by cases hk.symm.trans (none.symm.trans h)), startTrunk_none (same.trans slots)]
    have alone (x : Station) : ¬ ((s.loaded l).matrix.slots.get x).isSome = true := by
      show ¬ (s.matrix.slots.get x).isSome = true
      rw [slots]
      cases x <;> nofun
    refine ⟨fun own => rests (by rw [own]; rfl) (nothing rfl rfl rfl), fun own => rests (by rw [own]; rfl) (nothing rfl rfl rfl),
      fun x own opening part => rests ?_ (nothing rfl rfl rfl), fun x own closing => rests ?_ (nothing rfl rfl rfl)⟩
    · rw [own]
      exact congrArg (tellTrunk x) (trunkLoadDone_opening (s := s.loaded l) (alone x) opening part)
    · rw [own]
      exact congrArg (tellTrunk x) (trunkLoadDone_closing (s := s.loaded l) (alone x) closing)
  · have handing : (requestLoad x (s.trunk x).target (s.setTrunk x { s.trunk x with state := .closing, part := .load })).trunk x =
        { s.trunk x with state := .closing, part := .load } := by
      rw [requestLoad_trunk, State.setTrunk_trunk_same]
    have worked := worked_requestLoad x (s.trunk x).target (s.setTrunk x { s.trunk x with state := .closing, part := .load })
    refine ⟨_, (next_running (fun s => tellTrunk x (releaseWaitEnds x s)) running).trans ?_, congrArg Trunk.state handing,
      (congrArg Trunk.config handing).trans rfl, ?_, ?_, worked.image, rfl, rfl⟩
    · rw [releaseWaitEnds_closes opening part closes]
      rfl
    · exact requestLoad_placed x _ _
    · exact loadRequested (m := { s.matrix with trunks := s.matrix.trunks.set x { s.trunk x with state := .closing, part := .load } })
        rfl rfl rfl rfl rfl rfl _
  · refine (next_running (fun s => tellTrunk x (releaseWaitEnds x s)) running).trans (congrArg _ ?_)
    rw [releaseWaitEnds_settles opening part stays config]
    rfl
  · have handing := handing_takeUp x c (s.setTrunk x ((s.trunk x).behindWith none))
    obtain ⟨hv, channels⟩ := handing.settled (by
      rw [State.setTrunk_trunk_same]
      show (s.trunk x).state ≠ _
      rw [opening]
      nofun)
    refine ⟨_, (next_running (fun s => tellTrunk x (releaseWaitEnds x s)) running).trans ?_, takesUp_behind x c none s,
      handing.benches, hv, channels, (worked_takeUp x c (s.setTrunk x ((s.trunk x).behindWith none))).image, handing.attention⟩
    rw [releaseWaitEnds_completes opening part stays config, completeConfig_superseded newer later]
    rfl
  · have ends := exec_waitEnds_rests running opening part stays config alone
    rw [show (s.trunk x).rest = i from hi.symm] at ends
    have told {t : State} (e : onTrunkDone x (s.setTrunk x i) = t) : exec (.releaseWaitExpiry x) s = .next t := ends.trans (congrArg _ e)
    have done (wait : (s.bench x).wait = .allOpen) : onTrunkDone x (s.setTrunk x i) = activityDone x (s.setTrunk x i) :=
      onTrunkDone_allOpen (s := s.setTrunk x i) wait
    refine ⟨fun trunk allOpen => told (onTrunkDone_idle (s := s.setTrunk x i) trunk allOpen),
      fun wait run => told ((done wait).trans (activityDone_swept (s := s.setTrunk x i) run)),
      fun wait run queued => told ((done wait).trans (activityDone_ready (s := s.setTrunk x i) run queued)),
      fun q queued wait run => ⟨fun ask => told ((done wait).trans ?_), fun unasked holder => told ((done wait).trans ?_),
        fun unasked holder due waits => ?_⟩⟩
    · exact (activityDone_queued (s := s.setTrunk x i) run queued).trans (if_pos ask)
    · have asks : activityDone x (s.setTrunk x i) = _ :=
        (activityDone_queued (s := s.setTrunk x i) run queued).trans
          (if_neg (by rw [show (s.setTrunk x i).hv = s.hv from rfl, unasked]; nofun))
      rw [asks]
      exact stepWaits_behind (s := raise x.port srcStepDone ((s.setTrunk x i).setBench x ((s.bench x).takingQueued q))) holder
    · have rests : ((s.setTrunk x i).trunk x).state = .idle := by
        rw [State.setTrunk_trunk_same, hi]
      exact ⟨_, told (done wait), takeUp_queued (s := s.setTrunk x i) rests run queued unasked holder due waits⟩

end

end Sys2Proof.Machine

/-! What the engine of one station leaves of another one, and of a channel that does not measure (R41, R85, R140). -/

namespace Sys2Proof.Machine

section
variable {x y z : Station} {s t u : State}

/-! ## An energisation of another trunk -/

/-- No energisation stands on trunk Z. -/
def Away (s : State) (z : Station) : Prop := ∀ e, s.hv.energ = some e → e.trunk ≠ z

theorem Away.uncut (h : Away s z) : Uncut s z := fun e he hz => absurd hz (h e he)

theorem Away.of_hv (h : Away s z) (e : t.hv = s.hv) : Away t z := by
  rw [Away, e]
  exact h

theorem Away.of_none (h : s.hv.energ = none) : Away s z := fun _ he => nomatch h.symm.trans he

theorem Away.discharge {e : Energisation} {o : EnergOutcome} (he : e.trunk ≠ z) : Away (enterDischarge e o s).1 z := by
  unfold enterDischarge
  split
  · intro f hf
    cases hf
    exact he
  · exact .of_none rfl

theorem Away.cutEnergisation (h : Away s z) (c : CutCause) : Away (cutEnergisation x c s).1 z := by
  unfold Machine.cutEnergisation
  split
  next e he =>
    split
    · split
      · exact .of_none rfl
      iterate 4 exact .discharge (h e he)
      · exact h
    · exact h
  next => exact h

theorem Away.connectSource (h : Away s z) : Away (connectSource x s) z := by
  unfold Machine.connectSource
  split
  next e he =>
    split
    · intro f hf
      cases hf
      exact h e he
    · exact h
  next => exact h

theorem Away.leaveSettled (h : Away s z) : Away (leaveSettled x s) z := by
  have cut := h.cutEnergisation (x := x) .trunk
  unfold Machine.leaveSettled
  generalize (Machine.cutEnergisation x .trunk s).1 = t at cut
  unfold cutAperture
  dsimp only
  split
  · split
    · exact Away.connectSource (s := t.setChannel x _) cut
    · exact cut
  · exact cut

theorem Away.arrive (h : Away s z) (c : Configuration) : Away (arrive x c s).1 z := by
  have leaves : Away (if (s.trunk x).state = .settled then Machine.leaveSettled x s else s) z := by
    split
    · exact h.leaveSettled
    · exact h
  rcases arrive_cases x c s with e | e | e <;> rw [e]
  · rcases takeUp_cases x c s _ _ rfl rfl with ⟨-, e⟩ | ⟨-, -, e⟩ | ⟨-, -, -, e⟩ | ⟨-, -, -, -, e⟩ | ⟨-, -, -, -, e⟩ <;> rw [e] <;> exact leaves
  · exact h
  · exact h

/-- A channel that does not measure stays as it is while its trunk, with no energisation on it, takes a configuration. -/
theorem arrive_still (h : Away s x) (quiet : (s.channel x).state ≠ .measuring) (c : Configuration) :
    (arrive x c s).1.channel x = s.channel x := by
  have leaves : (if (s.trunk x).state = .settled then Machine.leaveSettled x s else s) = s := by
    rw [leaveSettled_quiet h.uncut quiet, ite_self]
  rcases arrive_cases x c s with e | e | e <;> rw [e]
  · rcases takeUp_cases x c s _ _ rfl rfl with ⟨-, e⟩ | ⟨-, -, e⟩ | ⟨-, -, -, e⟩ | ⟨-, -, -, -, e⟩ | ⟨-, -, -, -, e⟩ <;> rw [e, leaves] <;> rfl
  · rfl
  · rfl

/-! ## A station's work, seen from a station -/

/-- Between s and t station Y has been worked, as station Z sees it: a channel that does not measure, with no energisation on its trunk,
stands; a station Z that is not Y and whose step has not asked stands with its trunk; and its run goes on in any case, waiting for no
table read that it did not wait for. -/
structure Passing (z y : Station) (s t : State) : Prop where
  store : t.store = s.store
  away : Away s z → Away t z
  channel : Away s z → (s.channel z).state ≠ .measuring → t.channel z = s.channel z
  aloof : z ≠ y → s.hv.stepAsk.get z = false → t.bench z = s.bench z ∧ t.trunk z = s.trunk z ∧ t.hv.stepAsk.get z = false
  course : z ≠ y → (t.bench z).run = (s.bench z).run ∧ (t.bench z).step.map (·.selected) = (s.bench z).step.map (·.selected)
  idle : z ≠ y → s.store.state ≠ .checking → (s.bench z).wait = .nothing ∨ (s.bench z).wait = .trunk →
    (t.bench z).wait = .nothing ∨ (t.bench z).wait = .trunk

theorem Passing.refl : Passing z y s s := ⟨rfl, id, fun _ _ => rfl, fun _ ask => ⟨rfl, rfl, ask⟩, fun _ => ⟨rfl, rfl⟩, fun _ _ h => h⟩

theorem Passing.trans (h : Passing z y s t) (k : Passing z y t u) : Passing z y s u := by
  refine ⟨k.store.trans h.store, fun a => k.away (h.away a), fun a quiet => ?_, fun other ask => ?_, fun other => ?_,
    fun other open_ wait => k.idle other (by rw [h.store]; exact open_) (h.idle other open_ wait)⟩
  · have still := h.channel a quiet
    exact (k.channel (h.away a) (by rw [still]; exact quiet)).trans still
  · obtain ⟨bench, trunk, unasked⟩ := h.aloof other ask
    obtain ⟨bench', trunk', unasked'⟩ := k.aloof other unasked
    exact ⟨bench'.trans bench, trunk'.trans trunk, unasked'⟩
  · obtain ⟨run, selected⟩ := h.course other
    obtain ⟨run', selected'⟩ := k.course other
    exact ⟨run'.trans run, selected'.trans selected⟩

/-- The last operation first: it fixes the state in between. -/
theorem Passing.after (k : Passing z y t u) (h : Passing z y s t) : Passing z y s u := h.trans k

/-- What leaves the source, the channels and the trunks, and of the stations writes Y alone. -/
theorem passing_of_bench (store : t.store = s.store) (hv : t.hv = s.hv) (channels : t.channels = s.channels) (matrix : t.matrix = s.matrix)
    (bench : z ≠ y → t.bench z = s.bench z) : Passing z y s t :=
  ⟨store, fun a => a.of_hv hv, fun _ _ => by rw [State.channel, channels]; rfl,
    fun other ask => ⟨bench other, by rw [State.trunk, matrix]; rfl, by rw [hv]; exact ask⟩,
    fun other => by rw [bench other]; exact ⟨rfl, rfl⟩, fun other _ wait => by rw [bench other]; exact wait⟩

theorem passing_setBench (s : State) (b : Bench) : Passing z x s (s.setBench x b) :=
  passing_of_bench rfl rfl rfl rfl fun h => State.setBench_bench_ne _ _ _ h

theorem passing_raise (p : Port) (n : Nat) (s : State) : Passing z x s (raise p n s) := passing_of_bench rfl rfl rfl rfl fun _ => rfl

theorem passing_recordDefect (x : Station) (b : Bool) (d : Defect) (s : State) : Passing z x s (recordDefect x b d s) :=
  have booked := booked_recordDefect x b d s
  passing_of_bench booked.store booked.hv booked.channels booked.matrix (booked.other z)

theorem passing_arrive (x : Station) (c : Configuration) (s : State) : Passing z x s (arrive x c s).1 := by
  have handed := handing_arrive x c s
  refine ⟨(worked_arrive x c s).store, fun a => a.arrive c, fun a quiet => ?_,
    fun other ask => ⟨handed.bench z, handed.trunk z other, ?_⟩, fun _ => ?_, fun _ _ wait => by rw [handed.bench z]; exact wait⟩
  · by_cases own : z = x
    · subst own
      exact arrive_still a quiet c
    · exact handed.channel z own
  · have lending := handed.lending
    simp only [Hv.lending, Prod.mk.injEq] at lending
    obtain ⟨⟨-, -, -, -, asks, -⟩, -⟩ := lending
    rw [asks]
    exact ask
  · rw [handed.bench z]
    exact ⟨rfl, rfl⟩

theorem passing_handConfig (x : Station) (c : Configuration) (s : State) : Passing z x s (handConfig x c s) :=
  (passing_arrive _ _ _).after (passing_setBench _ _)

theorem passing_holdRead (x : Station) (r : ReadPoint) (s : State) : Passing z x s (holdRead x r s) := passing_setBench _ _

theorem passing_handStep (x : Station) (s : State) : Passing z x s (handStep x s) := by
  unfold handStep
  split
  · exact passing_holdRead _ _ _
  · split
    · exact passing_handConfig _ _ _
    · exact .refl

/-! ## The arbiter -/

theorem passing_stepMayGo (x : Station) (s : State) : Passing z x s (stepMayGo x s) := by
  unfold stepMayGo
  split
  · split
    · exact (passing_handStep _ _).after (passing_setBench _ _)
    · exact .refl
  · exact .refl

theorem stepMayGo_selected (x : Station) (s : State) :
    ((stepMayGo x s).bench x).step.map (·.selected) = (s.bench x).step.map (·.selected) := by
  unfold stepMayGo handStep holdRead
  split
  next v hv =>
    split
    · rw [State.setBench_bench_same, hv]
      dsimp only
      split
      · simp
      · simp [handConfig_bench_same, Bench.handing]
    · rfl
  · rfl

/-- With no check in progress a step that may go waits for its trunk. -/
theorem stepMayGo_wait (open_ : s.store.state ≠ .checking) (wait : (s.bench x).wait = .nothing ∨ (s.bench x).wait = .trunk) :
    ((stepMayGo x s).bench x).wait = .nothing ∨ ((stepMayGo x s).bench x).wait = .trunk := by
  have free : checking s = false := decide_eq_false open_
  unfold stepMayGo handStep
  split
  next v hv =>
    split
    · rw [if_neg (by show ¬ checking s = true; rw [free]; nofun), State.setBench_bench_same]
      exact .inr (by rw [handConfig_bench_same]; rfl)
    · exact wait
  · exact wait

/-- A grant clears the asks of the station that it serves, and those of no other (R116). -/
theorem granted_stepAsk (h : Hv) (w z : Station) : (h.granted w).stepAsk.get z = if z = w then false else h.stepAsk.get z := by
  cases w <;> cases z <;> simp [Hv.granted, Hv.clearAsks, Hv.setReserveAsk, Hv.setStepAsk, Hv.lineUp, Both.get, Both.set]

theorem passing_grant (w : Station) (s : State) : Passing z y s (grant w s) := by
  have served : Passing z w (raise w.port srcHvGranted (s.setHv (s.hv.granted w))) (grant w s) := by
    unfold grant
    dsimp only
    split
    · exact passing_stepMayGo w _
    · exact .refl
  have asks := granted_stepAsk s.hv w z
  refine ⟨served.store, served.away, served.channel, fun other ask => ?_, fun other => ?_, fun other open_ wait => ?_⟩
  · by_cases own : z = w
    · subst own
      rw [grant_stepless ask]
      exact ⟨rfl, rfl, asks.trans (if_pos rfl)⟩
    · exact served.aloof own (asks.trans ((if_neg own).trans ask))
  · by_cases own : z = w
    · subst own
      refine ⟨grant_run z s, ?_⟩
      unfold grant
      dsimp only
      split
      · exact stepMayGo_selected z _
      · rfl
    · exact served.course own
  · by_cases own : z = w
    · subst own
      unfold grant
      dsimp only
      split
      · exact stepMayGo_wait open_ wait
      · exact wait
    · exact served.idle own open_ wait

theorem passing_lookForGrant (s : State) : Passing z y s (lookForGrant s) := by
  rcases lookForGrant_cases s with ⟨-, e⟩ | ⟨w, -, -, e⟩ <;> rw [e]
  · exact .refl
  · exact passing_grant w s

theorem passing_stepWaits (x : Station) (s : State) : Passing z x s (stepWaits x s) := by
  unfold stepWaits
  split
  · have goes := passing_stepMayGo (z := z) x (s.setHv { s.hv with holderStep := true, holdTimer := none })
    exact ⟨goes.store, goes.away, goes.channel, goes.aloof, goes.course, goes.idle⟩
  · have looked := passing_lookForGrant (z := z) (y := x) (s.setHv (s.hv.setStepAsk x true))
    refine ⟨looked.store, looked.away, looked.channel, fun other ask => looked.aloof other ?_, looked.course, looked.idle⟩
    exact (Both.get_set_ne _ _ other).trans ask

/-! ## The engine -/

theorem passing_takeUpQueued (x : Station) (q : StepRecord) (s : State) : Passing z x s (takeUpQueued x q s) := by
  have moved : Passing z x s (s.setBench x { s.bench x with step := some q, queued := none, wait := .hv }) := passing_setBench _ _
  unfold takeUpQueued
  dsimp only
  split
  · exact moved
  · exact (passing_stepWaits _ _).after moved

theorem passing_activityDone (x : Station) (s : State) : Passing z x s (activityDone x s) := by
  unfold activityDone
  dsimp only
  split
  · exact (passing_raise _ _ _).after (passing_setBench _ _)
  · split
    · exact (passing_takeUpQueued _ _ _).after ((passing_raise _ _ _).after (passing_setBench _ _))
    · exact (passing_raise _ _ _).after (passing_setBench _ _)
  all_goals exact passing_setBench _ _

theorem passing_handEmpty (x : Station) (s : State) : Passing z x s (handEmpty x s) := by
  have handed : Passing z x s (arrive x .empty (s.setBench x { s.bench x with handed := .empty, wait := .allOpen })).1 :=
    (passing_arrive _ _ _).after (passing_setBench _ _)
  unfold handEmpty
  dsimp only
  split
  · exact (passing_activityDone _ _).after handed
  · exact handed

theorem passing_handLocate (x : Station) (s : State) : Passing z x s (handLocate x s) := by
  unfold handLocate
  split
  · exact passing_holdRead _ _ _
  · split
    · exact passing_handConfig _ _ _
    · exact .refl

theorem passing_setSweep (x : Station) (w : Sweep) (s : State) : Passing z x s (setSweep x w s) := passing_setBench _ _

theorem passing_endSweep (x : Station) (c : Continuity) (s : State) : Passing z x s (endSweep x c s) := by
  exact (passing_handEmpty _ _).after (passing_setBench _ _)

theorem passing_recordAll (x : Station) (w : Sweep) (b : Bool) (ds : List Defect) (s : State) : Passing z x s (recordAll x w b ds s).1 := by
  induction ds generalizing s with
  | nil => exact .refl
  | cons d ds ih =>
    simp only [recordAll]
    split
    · exact (passing_endSweep _ _ _).after (passing_recordDefect _ _ _ _)
    · exact (ih _).after (passing_recordDefect _ _ _ _)

theorem passing_handLocator (x : Station) (s : State) : Passing z x s (handLocator x s) := by
  unfold handLocator
  dsimp only
  split
  · split
    · exact passing_holdRead _ _ _
    · split
      · exact (passing_handConfig _ _ _).after (passing_setSweep _ _ _)
      · exact (passing_handConfig _ _ _).after (passing_setSweep _ _ _)
  · exact .refl

theorem passing_startDriver (x : Station) (d : Nat) (s : State) : Passing z x s (startDriver x d s) := by
  unfold startDriver
  split
  · split
    · exact passing_endSweep _ _ _
    · exact (passing_handLocator _ _).after (passing_setBench _ _)
  · exact .refl

theorem passing_isolationStart (x : Station) (s : State) : Passing z x s (isolationStart x s) := by
  unfold isolationStart
  dsimp only
  split
  · exact passing_holdRead _ _ _
  · split
    · exact (passing_startDriver _ _ _).after (passing_setSweep _ _ _)
    · exact .refl

theorem passing_isolationNext (x : Station) (w : Sweep) (r : List Entry × List Entry) (s : State) : Passing z x s (isolationNext x w r s) := by
  have recorded : Passing z x s (recordAll x w true (r.2.map w.leakGroup)
      (s.setBench x { s.bench x with sweep := some w, locator := r.1 })).1 :=
    (passing_recordAll _ _ _ _ _).after (passing_setBench _ _)
  unfold isolationNext
  dsimp only
  split
  · exact recorded
  · split
    · exact (passing_startDriver _ _ _).after recorded
    · exact (passing_handLocator _ _).after recorded

theorem passing_onGroup (x : Station) (w : Sweep) (r : MeasResult) (s : State) : Passing z x s (onGroup x w r s) := by
  unfold onGroup
  split <;> exact passing_isolationNext _ _ _ _

theorem passing_onConfirm (x : Station) (w : Sweep) (e : Entry) (r : MeasResult) (s : State) : Passing z x s (onConfirm x w e r s) := by
  have recorded (ds : List Defect) : Passing z x s (recordAll x w true ds (setSweep x w s)).1 :=
    (passing_recordAll _ _ _ _ _).after (passing_setSweep _ _ _)
  unfold onConfirm
  dsimp only
  split
  · exact recorded _
  · exact (passing_isolationNext _ _ _ _).after (recorded _)

theorem passing_connectionEnd (x : Station) (s : State) : Passing z x s (connectionEnd x s) := by
  unfold connectionEnd
  split
  · split
    · exact passing_endSweep _ _ _
    · exact (passing_isolationStart _ _).after (passing_setBench _ _)
  · exact .refl

theorem passing_handPair (x : Station) (s : State) : Passing z x s (handPair x s) := by
  unfold handPair
  dsimp only
  split
  · exact passing_holdRead _ _ _
  · split
    · exact (passing_handConfig _ _ _).after (passing_setSweep _ _ _)
    · exact .refl

theorem passing_beginNet (x : Station) (i : Nat) (s : State) : Passing z x s (beginNet x i s) := by
  unfold beginNet
  split
  · split
    · exact passing_connectionEnd _ _
    · split
      · exact (passing_holdRead _ _ _).after (passing_setSweep _ _ _)
      · split
        · exact (passing_handPair _ _).after (passing_setSweep _ _ _)
        · exact (passing_connectionEnd _ _).after (passing_setSweep _ _ _)
  · exact .refl

theorem passing_beginSweep (x : Station) (s : State) : Passing z x s (beginSweep x s) := by
  unfold beginSweep
  dsimp only
  split
  · exact passing_holdRead _ _ _
  · split
    · exact (passing_beginNet _ _ _).after (passing_setSweep _ _ _)
    · exact .refl

theorem passing_walkOn (x : Station) (w : Sweep) (k : Nat) (s : State) : Passing z x s (walkOn x w k s) := by
  unfold walkOn
  split
  · exact (passing_handPair _ _).after (passing_setSweep _ _ _)
  · exact (passing_beginNet _ _ _).after (passing_setSweep _ _ _)

theorem passing_recordThen (x : Station) (w : Sweep) (ds : List Defect) (k : Nat) (s : State) : Passing z x s (recordThen x w ds k s) := by
  have recorded : Passing z x s (recordAll x w false ds (setSweep x w s)).1 := (passing_recordAll _ _ _ _ _).after (passing_setSweep _ _ _)
  unfold recordThen
  dsimp only
  split
  · exact recorded
  · exact (passing_walkOn _ _ _ _).after recorded

theorem passing_onRetest (x : Station) (w : Sweep) (o : PairOutcome) (s : State) : Passing z x s (onRetest x w o s) := by
  unfold onRetest
  split <;> exact passing_recordThen _ _ _ _ _

theorem passing_onWalkPair (x : Station) (w : Sweep) (o : PairOutcome) (s : State) : Passing z x s (onWalkPair x w o s) := by
  unfold onWalkPair
  split
  · exact (passing_handPair _ _).after (passing_setSweep _ _ _)
  · split
    · exact (passing_handPair _ _).after (passing_setSweep _ _ _)
    · exact passing_recordThen _ _ _ _ _

theorem passing_onPair (x : Station) (w : Sweep) (r : MeasResult) (s : State) : Passing z x s (onPair x w r s) := by
  unfold onPair
  dsimp only
  split
  · exact passing_onRetest _ _ _ _
  · exact passing_onWalkPair _ _ _ _

theorem passing_repeatPair (x : Station) (s : State) : Passing z x s (repeatPair x s) := passing_handConfig _ _ _

theorem passing_clearTrunk (x : Station) (s : State) : Passing z x s (clearTrunk x s) := passing_arrive _ _ _

theorem passing_settleMeasured (x : Station) (w : Sweep) (r : MeasResult) (s : State) : Passing z x s (settleMeasured x w r s) := by
  unfold settleMeasured
  split
  · exact passing_onPair _ _ _ _
  · split
    · exact passing_onConfirm _ _ _ _ _
    · exact passing_onGroup _ _ _ _
  · exact .refl

theorem passing_onMeasured (x : Station) (r : MeasResult) (s : State) : Passing z x s (onMeasured x r s) := by
  unfold onMeasured
  dsimp only
  split
  · split
    · split
      · split
        · exact passing_endSweep _ _ _
        · exact passing_repeatPair _ _
      all_goals
        split
        · exact (passing_endSweep _ _ _).after (passing_setSweep _ _ _)
        · exact passing_settleMeasured _ _ _ _
    · exact .refl
  · split
    · exact (passing_clearTrunk _ _).after (passing_setBench _ _)
    · exact .refl

end

end Sys2Proof.Machine

/-! The requests that wait for a check (R33, R138, R163). -/

namespace Sys2Proof.Machine

section
variable {x y z : Station} {s t u : State} {p q : Port}

/-- The code of READ IMAGE is its own. -/
theorem readImage_of_code {r : Request} (h : r.code = 0x25) : ∃ start count, r = .readImage start count := by
  cases r with
  | readImage start count => exact ⟨start, count, rfl⟩
  | _ => simp [Request.code] at h

/-- The code of START INSULATION is its own. -/
theorem startInsulation_of_code {r : Request} (h : r.code = 0x35) : ∃ k w v d n l, r = .startInsulation k w v d n l := by
  cases r with
  | startInsulation k w v d n l => exact ⟨k, w, v, d, n, l, rfl⟩
  | _ => simp [Request.code] at h

/-! ## READ IMAGE (R33) -/

/-- What the end of a check makes of a port: a READ IMAGE in work is answered, and in range with its words; else the port stands. -/
structure ReadAnswered (words : List ImageCell) (a b : PortState) : Prop where
  stands : (∀ start count, a.work ≠ some (.readImage start count)) → b = a
  served : ∀ start count, a.work = some (.readImage start count) → b.work = none
  words : ∀ start count, a.work = some (.readImage start count) → 1 ≤ count.toNat → count.toNat ≤ 120 →
    start.toNat + count.toNat ≤ 8208 →
    b.response = some { status := .ok, echo := 0x25, clamped := false, more := false,
                        payload := .words ((List.range count.toNat).map (fun i => imageRead words (start.toNat + i))) }

theorem setPort_self (s : State) (p : Port) : s.setPort p (s.port p) = s := by
  cases p <;> rfl

theorem answerRead_still (h : ∀ start count, (s.port p).work ≠ some (.readImage start count)) : answerRead p s = s := by
  unfold answerRead
  split
  next start count work => exact absurd work (h start count)
  next => rfl

/-- With the check over a READ IMAGE is answered: with its words where they are in range. -/
theorem serveReadImage_judged (start : Word16) (count : Byte) (h : s.store.state = .valid ∨ s.store.state = .faulted) :
    ∃ a, serve p (.readImage start count) s = (s, some a) ∧
      (1 ≤ count.toNat → count.toNat ≤ 120 → start.toNat + count.toNat ≤ 8208 →
        a = .data (.words (imageReadAll s.store.words start.toNat count.toNat))) := by
  by_cases out : count = 0 ∨ 120 < count.toNat ∨ Config.imageWords < start.toNat + count.toNat
  · exact ⟨.plain .badArgument, if_pos out, fun h1 h2 h3 => absurd out (readImage_inRange h1 h2 h3)⟩
  · refine ⟨.data (.words (imageReadAll s.store.words start.toNat count.toNat)), ?_, fun _ _ _ => rfl⟩
    rcases h with h | h <;> simp only [serve, serveReadImage, if_neg out, h] <;> rfl

theorem answerRead_answers {start : Word16} {count : Byte} (h : s.store.state = .valid ∨ s.store.state = .faulted)
    (work : (s.port p).work = some (.readImage start count)) :
    ∃ a, answerRead p s = respond p 0x25 a s ∧
      (1 ≤ count.toNat → count.toNat ≤ 120 → start.toNat + count.toNat ≤ 8208 →
        a = .data (.words (imageReadAll s.store.words start.toNat count.toNat))) := by
  obtain ⟨a, served, inRange⟩ := serveReadImage_judged (p := p) start count h
  refine ⟨a, ?_, inRange⟩
  unfold answerRead answerWaiting
  simp only [work, handOn, served]
  rfl

theorem answerRead_reads (h : s.store.state = .valid ∨ s.store.state = .faulted) :
    (∃ v, answerRead p s = s.setPort p v) ∧ ReadAnswered s.store.words (s.port p) ((answerRead p s).port p) := by
  by_cases reads : ∃ start count, (s.port p).work = some (.readImage start count)
  · obtain ⟨start, count, work⟩ := reads
    obtain ⟨a, answers, inRange⟩ := answerRead_answers h work
    rw [answers]
    refine ⟨⟨_, rfl⟩, fun none => absurd work (none start count), fun _ _ _ => ?_, fun start' count' same h1 h2 h3 => ?_⟩
    · rw [respond, State.setPort_port_same]
    · cases work.symm.trans same
      rw [respond_response, inRange h1 h2 h3]
      rfl
  · have none (start : Word16) (count : Byte) : (s.port p).work ≠ some (.readImage start count) := fun e => reads ⟨start, count, e⟩
    rw [answerRead_still none]
    exact ⟨⟨s.port p, (setPort_self s p).symm⟩, fun _ => rfl, fun start count e => absurd e (none start count),
      fun start count e => absurd e (none start count)⟩

/-- The READ IMAGE requests of all ports are answered, and nothing but the ports is written. -/
theorem answerReads_reads (h : s.store.state = .valid ∨ s.store.state = .faulted) :
    (∃ ports, answerReads s = { s with ports := ports }) ∧
    ∀ p, ReadAnswered s.store.words (s.port p) ((answerReads s).port p) := by
  obtain ⟨⟨va, ea⟩, ra⟩ := answerRead_reads (p := .pa) h
  obtain ⟨⟨vb, eb⟩, rb⟩ := answerRead_reads (s := answerRead .pa s) (p := .pb) (by rw [ea]; exact h)
  obtain ⟨⟨vs, es⟩, rs⟩ := answerRead_reads (s := answerRead .pb (answerRead .pa s)) (p := .ps) (by rw [eb, ea]; exact h)
  unfold answerReads
  refine ⟨⟨_, by rw [es, eb, ea]; rfl⟩, fun p => ?_⟩
  cases p with
  | pa =>
    have port : (answerRead .ps (answerRead .pb (answerRead .pa s))).port .pa = (answerRead .pa s).port .pa := by rw [es, eb]; rfl
    rw [port]
    exact ra
  | pb =>
    have port : (answerRead .ps (answerRead .pb (answerRead .pa s))).port .pb = (answerRead .pb (answerRead .pa s)).port .pb := by
      rw [es]; rfl
    have before : (answerRead .pa s).port .pb = s.port .pb := by rw [ea]; rfl
    rw [port, ← before]
    rw [show s.store = (answerRead .pa s).store by rw [ea]; rfl]
    exact rb
  | ps =>
    have before : (answerRead .pb (answerRead .pa s)).port .ps = s.port .ps := by rw [eb, ea]; rfl
    rw [← before]
    rw [show s.store = (answerRead .pb (answerRead .pa s)).store by rw [eb, ea]; rfl]
    exact rs

/-! ## START INSULATION (R138) -/

/-- No request but a START INSULATION waits at the station's port. -/
def WaitsToStart (s : State) (x : Station) : Prop := ∀ r, (s.port x.port).work = some r → r.code = 0x35

theorem answerWaiting_none (work : (s.port p).work = none) : answerWaiting p s = s := by
  simp only [answerWaiting, work]

theorem worked_acceptStep (x : Station) (st : StepRecord) (s : State) : Worked s (acceptStep x st s) := by
  unfold acceptStep
  dsimp only
  split
  · exact (worked_stepWaits x _).after (worked_setBench rfl)
  · exact worked_setBench rfl

theorem passing_acceptStep (x : Station) (st : StepRecord) (s : State) : Passing z x s (acceptStep x st s) := by
  unfold acceptStep
  dsimp only
  split
  · exact (passing_stepWaits x _).after (passing_setBench _ _)
  · exact passing_setBench _ _

/-- With the check over a START INSULATION is refused, or its step accepted. -/
theorem serveStart_answers (x : Station) (k l : Byte) (w v d n : Word16) (open_ : s.store.state ≠ .checking) :
    ∃ a u, serveStartInsulation x k w v d n l s = (u, some a) ∧ (u = s ∨ ∃ st, u = acceptStep x st s) := by
  have refused (v : Status) : ∃ a u, same v s = (u, some a) ∧ (u = s ∨ ∃ st, u = acceptStep x st s) := ⟨_, s, rfl, .inl rfl⟩
  have free : ¬ checking s = true := by rw [checking_iff]; exact open_
  unfold serveStartInsulation
  split
  next => exact refused _
  next =>
    split
    next => exact refused _
    next =>
      rw [if_neg free]
      dsimp only
      split
      · exact refused _
      · split
        · exact refused _
        · exact ⟨_, _, rfl, .inr ⟨_, rfl⟩⟩

/-- The request that waited at a station's port is answered; it may have its step accepted. -/
theorem answerWaiting_starts (waits : WaitsToStart s x) (open_ : s.store.state ≠ .checking) :
    answerWaiting x.port s = s ∨
      ∃ a u, answerWaiting x.port s = respond x.port 0x35 a u ∧ (u = s ∨ ∃ st, u = acceptStep x st s) := by
  cases work : (s.port x.port).work with
  | none => exact .inl (answerWaiting_none work)
  | some r =>
    obtain ⟨k, w, v, d, n, l, rfl⟩ := startInsulation_of_code (waits r work)
    obtain ⟨a, u, served, hu⟩ := serveStart_answers x k l w v d n open_
    have answered : serve x.port (.startInsulation k w v d n l) s = (u, some a) := (ofStation_port x s _).trans served
    refine .inr ⟨a, u, ?_, hu⟩
    simp only [answerWaiting, work, handOn, answered]
    rfl

/-- What an answer to the request that waited leaves of the part: the ports apart, it is the work of an accepted step. -/
theorem answerWaiting_worked (waits : WaitsToStart s x) (open_ : s.store.state ≠ .checking) :
    ∃ u, Worked s u ∧ (∀ z, Passing z x s u) ∧ ∃ v, answerWaiting x.port s = u.setPort x.port v := by
  rcases answerWaiting_starts waits open_ with e | ⟨a, u, e, rfl | ⟨st, rfl⟩⟩ <;> rw [e]
  · exact ⟨s, .refl s, fun _ => .refl, _, (setPort_self s x.port).symm⟩
  · exact ⟨u, .refl u, fun _ => .refl, _, rfl⟩
  · exact ⟨_, worked_acceptStep x st s, fun _ => passing_acceptStep x st s, _, rfl⟩

/-- Where no step can start the request that waited can do no more than queue one. -/
theorem answerWaiting_unready (waits : WaitsToStart s x) (open_ : s.store.state ≠ .checking) (run : (s.bench x).run ≠ .ready) :
    ∃ q v, answerWaiting x.port s = (s.setBench x { s.bench x with queued := q }).setPort x.port v := by
  have self : s.setBench x { s.bench x with queued := (s.bench x).queued } = s := by cases x <;> rfl
  rcases answerWaiting_starts waits open_ with e | ⟨a, u, e, rfl | ⟨st, rfl⟩⟩ <;> rw [e]
  · exact ⟨(s.bench x).queued, s.port x.port, by rw [self, setPort_self]⟩
  · exact ⟨(u.bench x).queued, _, by rw [self]; rfl⟩
  · exact ⟨some st, _, by rw [acceptStep, if_neg run]; rfl⟩

end

end Sys2Proof.Machine

/-! What a passed check lets go on at a station (R38, R41, R51, R67, R138). -/

namespace Sys2Proof.Machine

section
variable {x y z : Station} {s t u : State} {p : Port} {r : RunRecord} {w : Sweep}

/-! ## The other station -/

theorem passing_setChannel (h : z ≠ x) (s : State) (c : Channel) : Passing z x s (s.setChannel x c) :=
  ⟨rfl, id, fun _ _ => State.setChannel_channel_ne _ _ _ h, fun _ ask => ⟨rfl, rfl, ask⟩, fun _ => ⟨rfl, rfl⟩, fun _ _ wait => wait⟩

/-- A waiting compensation ends, or nothing happens at the channel. -/
theorem compensate_cases (x : Station) (s : State) :
    compensate x s = (s, none) ∨ ∃ v, compensate x s = (s.setChannel x ((s.channel x).finish v), some v) := by
  unfold compensate
  dsimp only
  split
  · exact .inl rfl
  · split
    · exact .inr ⟨_, rfl⟩
    · exact .inl rfl

theorem passing_compensated (h : z ≠ x) (s : State) : Passing z x s (tellChannel x (compensate x s)) := by
  rcases compensate_cases x s with e | ⟨v, e⟩ <;> rw [e]
  · exact .refl
  · exact (passing_onMeasured x v _).after (passing_setChannel h s _)

theorem passing_resumeRead (x : Station) (s : State) : Passing z x s (resumeRead x s) := by
  unfold resumeRead
  split
  · split
    · exact passing_endSweep _ _ _
    · split
      · exact passing_beginSweep _ _
      · exact passing_beginNet _ _ _
      · exact passing_handPair _ _
      · exact passing_isolationStart _ _
      · exact passing_handLocator _ _
      · exact passing_handStep _ _
      · exact passing_handLocate _ _
  all_goals exact .refl

/-- What goes on before the request that waited at the port is answered: the compensation and the engine. -/
def goingOn (x : Station) (s : State) : State := resumeRead x (tellChannel x (compensate x s))

theorem resumeStation_eq (x : Station) (s : State) : resumeStation x s = answerWaiting x.port (goingOn x s) := rfl

theorem worked_goingOn (x : Station) (s : State) : Worked s (goingOn x s) :=
  (worked_resumeRead x _).after (worked_tellChannel x (worked_compensate x s))

theorem WaitsToStart.worked (h : WaitsToStart s x) (w : Worked s t) : WaitsToStart t x := by
  rw [WaitsToStart, State.port, w.ports]
  exact h

/-! ## The compensation (R51) -/

theorem resume_compensates {p q k raw : Nat} (waits : WaitsToStart s x) (open_ : s.store.state ≠ .checking)
    (hand : (s.channel x).inHand = some (.pair p q k)) (last : (s.channel x).lastRaw = some raw)
    (compensating : (s.channel x).state = .compensating) (away : Away s x) :
    (resumeStation x s).channel x =
        (s.channel x).finish (.pairValue (raw - offsetOf s.store.words p - offsetOf s.store.words q) (s.channel x).range) ∧
      Away (resumeStation x s) x := by
  have ends := compensate_ends (x := x) (by rw [compensating]; nofun) open_ hand last
  generalize MeasResult.pairValue (raw - offsetOf s.store.words p - offsetOf s.store.words q) (s.channel x).range = result at ends ⊢
  have went : goingOn x s = resumeRead x (onMeasured x result (s.setChannel x ((s.channel x).finish result))) := by
    rw [goingOn, ends]
    rfl
  have passed : Passing x x (s.setChannel x ((s.channel x).finish result)) (goingOn x s) := by
    rw [went]
    exact (passing_resumeRead x _).after (passing_onMeasured x result _)
  have before := worked_goingOn x s
  obtain ⟨u, worked, passing, port, e⟩ := answerWaiting_worked (s := goingOn x s) (waits.worked before) (by rw [before.store]; exact open_)
  have idle : ((s.channel x).finish result).state ≠ .measuring := by
    unfold Channel.finish
    rw [compensating]
    nofun
  have all := passed.trans (passing x)
  have still := all.channel away (by rw [State.setChannel_channel_same]; exact idle)
  rw [resumeStation_eq, e]
  exact ⟨still.trans (State.setChannel_channel_same _ _ _), all.away away⟩

/-! ## The engine at its table read (R41, R73) -/

theorem setChannel_self (s : State) (x : Station) : s.setChannel x (s.channel x) = s := by
  cases x <;> rfl

/-- An engine that does not wait for its channel makes nothing of a compensation that ends. -/
theorem compensated_idle (wait : (s.bench x).wait ≠ .channel) : ∃ c, tellChannel x (compensate x s) = s.setChannel x c := by
  rcases compensate_cases x s with e | ⟨v, e⟩ <;> rw [e]
  · exact ⟨s.channel x, (setChannel_self s x).symm⟩
  · exact ⟨_, onMeasured_idle (s := s.setChannel x _) v wait⟩

section
variable (waits : WaitsToStart s x) (open_ : s.store.state ≠ .checking)
include waits open_

/-- A configuration that the engine hands stands when the request that waited is answered. -/
theorem resume_handed {c : Configuration} (goes : goingOn x s = handConfig x c u) (run : (u.bench x).run ≠ .ready)
    (ask : u.hv.stepAsk.get x = false) :
    Handed (resumeStation x s) x c ∧ (resumeStation x s).hv.stepAsk.get x = false := by
  have before := worked_goingOn x s
  have bench : (goingOn x s).bench x = (u.bench x).handing c := by rw [goes, handConfig_bench_same]
  obtain ⟨q, v, e⟩ := answerWaiting_unready (s := goingOn x s) (waits.worked before) (by rw [before.store]; exact open_)
    (by rw [bench]; exact run)
  have handed : Handed (goingOn x s) x c := by rw [goes]; exact handConfig_handed x c u
  obtain ⟨wait, config, has⟩ := handed
  have lending := (handing_handConfig x c u).lending
  simp only [Hv.lending, Prod.mk.injEq] at lending
  obtain ⟨⟨-, -, -, -, asks, -⟩, -⟩ := lending
  rw [resumeStation_eq, e]
  refine ⟨⟨?_, ?_, has⟩, ?_⟩
  · rw [State.setPort_bench, State.setBench_bench_same]
    exact wait
  · rw [State.setPort_bench, State.setBench_bench_same]
    exact config
  · show (goingOn x s).hv.stepAsk.get x = false
    rw [goes, asks]
    exact ask

theorem resume_hands_pair (record : (s.bench x).record = some r) (going : r.abortPending = false)
    (sweep : (s.bench x).sweep = some w) (wait : (s.bench x).wait = .read .pair) (run : (s.bench x).run = .continuity)
    (ask : s.hv.stepAsk.get x = false) :
    Handed (resumeStation x s) x (w.pairConfig s.store.words) ∧ (resumeStation x s).hv.stepAsk.get x = false := by
  obtain ⟨c, told⟩ := compensated_idle (x := x) (s := s) (by rw [wait]; nofun)
  have open' : ¬ aborting (s.setChannel x c) x = true := by
    rw [aborting_eq (s := s.setChannel x c) record, going]
    nofun
  have goes : goingOn x s = handPair x (s.setChannel x c) := by
    rw [goingOn, told]
    unfold resumeRead
    rw [State.setChannel_bench, wait]
    exact if_neg open'
  rw [handPair_hands (s := s.setChannel x c) open_ sweep] at goes
  refine resume_handed waits open_ goes ?_ ask
  rw [setSweep_bench]
  show (s.bench x).run ≠ _
  rw [run]
  nofun

theorem resume_hands_step {st : StepRecord} (record : (s.bench x).record = some r) (going : r.abortPending = false)
    (step : (s.bench x).step = some st) (wait : (s.bench x).wait = .read .step) (run : (s.bench x).run = .insulation)
    (ask : s.hv.stepAsk.get x = false) :
    Handed (resumeStation x s) x (stepConfig s.store.words st) ∧ (resumeStation x s).hv.stepAsk.get x = false := by
  obtain ⟨c, told⟩ := compensated_idle (x := x) (s := s) (by rw [wait]; nofun)
  have open' : ¬ aborting (s.setChannel x c) x = true := by
    rw [aborting_eq (s := s.setChannel x c) record, going]
    nofun
  have goes : goingOn x s = handStep x (s.setChannel x c) := by
    rw [goingOn, told]
    unfold resumeRead
    rw [State.setChannel_bench, wait]
    exact if_neg open'
  rw [handStep_handed (s := s.setChannel x c) open_ step] at goes
  refine resume_handed waits open_ goes ?_ ask
  show (s.bench x).run ≠ _
  rw [run]
  nofun

/-- A pending abort is taken at the read (R73). -/
theorem resume_aborts (record : (s.bench x).record = some r) (aborts : r.abortPending = true)
    (sweep : (s.bench x).sweep.isSome = true) (wait : (s.bench x).wait = .read .pair) (run : (s.bench x).run = .continuity)
    (closed : Closed s x) (ask : s.hv.stepAsk.get x = false) :
    (SweepEnded ((resumeStation x s).bench x) r .cutShort ∧ ((resumeStation x s).bench x).banks = (s.bench x).banks) ∧
      (resumeStation x s).hv.stepAsk.get x = false := by
  obtain ⟨c, told⟩ := compensated_idle (x := x) (s := s) (by rw [wait]; nofun)
  have aborting' : aborting (s.setChannel x c) x = true := by
    rw [aborting_eq (s := s.setChannel x c) record, aborts]
  have goes : goingOn x s = endSweep x .cutShort (s.setChannel x c) := by
    rw [goingOn, told]
    unfold resumeRead
    rw [State.setChannel_bench, wait]
    exact if_pos aborting'
  have before := worked_goingOn x s
  have bench : (goingOn x s).bench x = ((s.bench x).swept .cutShort).clearing := by
    rw [goes]
    exact endSweep_bench (s := s.setChannel x c) .cutShort closed
  obtain ⟨q, v, e⟩ := answerWaiting_unready (s := goingOn x s) (waits.worked before) (by rw [before.store]; exact open_)
    (by rw [bench]; show (s.bench x).run ≠ _; rw [run]; nofun)
  have ended := sweepEnded_swept .cutShort run record sweep
  rw [resumeStation_eq, e]
  refine ⟨?_, ?_⟩
  · rw [State.setPort_bench, State.setBench_bench_same, bench]
    exact ⟨ended, rfl⟩
  · have pending := arrive_empty_pending (s := ((s.setChannel x c).setBench x ((s.bench x).swept .cutShort)).setBench x
      (((s.setChannel x c).setBench x ((s.bench x).swept .cutShort)).bench x).clearing) (x := x) (.inl closed)
    have lending := (apart_handEmpty pending).lending
    simp only [Hv.lending, Prod.mk.injEq] at lending
    obtain ⟨⟨-, -, -, -, asks, -⟩, -⟩ := lending
    show (goingOn x s).hv.stepAsk.get x = false
    rw [goes, endSweep_eq]
    exact (congrArg (fun v : Both Bool => v.get x) asks).trans ask

end

end

end Sys2Proof.Machine

/-! A passed check (R33, R37, R38, R41, R51, R67, R73, R138). -/

namespace Sys2Proof.Machine

section
variable {x y z : Station} {s t u : State} {p : Port} {r : RunRecord} {w : Sweep}

/-! ## A START INSULATION that waited (R138) -/

/-- A step's asking for the source keeps the run, and the nets that the step selects. -/
theorem stepWaits_course (x : Station) (s : State) :
    ((stepWaits x s).bench x).run = (s.bench x).run ∧
      ((stepWaits x s).bench x).step.map (·.selected) = (s.bench x).step.map (·.selected) := by
  unfold stepWaits
  split
  · exact ⟨stepMayGo_run x (s.setHv { s.hv with holderStep := true, holdTimer := none }),
      stepMayGo_selected x (s.setHv { s.hv with holderStep := true, holdTimer := none })⟩
  · exact (passing_lookForGrant (z := x) (y := x.other) (s.setHv (s.hv.setStepAsk x true))).course (Station.other_ne x).symm

theorem acceptStep_course (st : StepRecord) (run : (s.bench x).run = .ready) :
    ((acceptStep x st s).bench x).run = .insulation ∧ ((acceptStep x st s).bench x).step.map (·.selected) = some st.selected := by
  obtain ⟨kept, selected⟩ := stepWaits_course x (s.setBench x ((s.bench x).stepping st))
  rw [State.setBench_bench_same] at kept selected
  rw [acceptStep_ready st run]
  exact ⟨kept, selected⟩

section
variable {kind locate : Byte} {selection voltage dwell threshold : Word16} {sel : Selection}
variable (open_ : s.store.state ≠ .checking)
  (work : (s.port x.port).work = some (.startInsulation kind selection voltage dwell threshold locate))
  (named : selectionOf kind selection = some sel) (record : (s.bench x).record = some r) (done : r.continuity = .done)
  (shorts : r.shorts = 0) (run : (s.bench x).run = .ready) (wait : (s.bench x).wait = .nothing)
include open_ work named record done shorts run wait

/-- A run in READY that waits for nothing has its START INSULATION judged by its selection, and accepted (R138). -/
theorem resume_judges :
    (selectedNets s.store.words sel = [] ∨ returnedSet s.store.words sel = [] →
      ((resumeStation x s).port x.port).response.map (·.status) = some .emptySelection ∧ ((resumeStation x s).bench x).run = .ready) ∧
    (selectedNets s.store.words sel ≠ [] → returnedSet s.store.words sel ≠ [] →
      ((resumeStation x s).port x.port).response.map (·.status) = some .accepted ∧
      ((resumeStation x s).bench x).run = .insulation ∧
      ((resumeStation x s).bench x).step.map (·.selected) = some (selectedNets s.store.words sel)) := by
  obtain ⟨c, told⟩ := compensated_idle (x := x) (s := s) (by rw [wait]; nofun)
  have goes : goingOn x s = s.setChannel x c := by
    rw [goingOn, told]
    unfold resumeRead
    rw [State.setChannel_bench, wait]
  have judged := serveStart_judged (s := s.setChannel x c) (voltage := voltage) (dwell := dwell) (threshold := threshold)
    (locate := locate) named record done shorts
  rw [State.setChannel_store, if_neg open_] at judged
  have answers {v : State} {a : Reply} (h : serveStartInsulation x kind selection voltage dwell threshold locate (s.setChannel x c) = (v, some a)) :
      resumeStation x s = respond x.port 0x35 a v := by
    have served : serve x.port (.startInsulation kind selection voltage dwell threshold locate) (s.setChannel x c) = (v, some a) :=
      (ofStation_port x _ _).trans h
    rw [resumeStation_eq, goes]
    unfold answerWaiting
    rw [show ((s.setChannel x c).port x.port).work = _ from work]
    simp only [handOn, served]
    rfl
  refine ⟨fun empty => ?_, fun selected returned => ?_⟩
  · rw [answers (judged.trans (if_pos empty))]
    exact ⟨respond_status _ _ _ _, run⟩
  · have some_ : ¬ (selectedNets s.store.words sel = [] ∨ returnedSet s.store.words sel = []) := fun h => h.elim selected returned
    have free : ¬ (((s.setChannel x c).bench x).run = .checking ∨ ((s.setChannel x c).bench x).run = .continuity ∨
        (((s.setChannel x c).bench x).run = .insulation ∧ ((s.setChannel x c).bench x).queued.isSome = true)) := by
      rw [State.setChannel_bench, run]
      simp
    rw [answers (judged.trans ((if_neg some_).trans (if_neg free)))]
    have course := acceptStep_course (s := s.setChannel x c) (x := x)
      (StepRecord.create s.store.words sel voltage.toNat dwell.toNat threshold.toNat (decide (locate ≠ 0))) run
    exact ⟨respond_status _ _ _ _, course⟩

end

/-! ## The joined runs (R67) -/

/-- Every joined run is READY, and RUN-READY has been raised; nothing else is written. -/
theorem runsReady (l : List Station) (s : State) :
    (∃ benches attention, l.foldl runReady s = { s with benches := benches, attention := attention }) ∧
    (∀ x, x ∉ l → (l.foldl runReady s).bench x = s.bench x) ∧
    (∀ x, x ∈ l → (l.foldl runReady s).bench x = { s.bench x with run := .ready }) ∧
    (∀ x, x ∈ l → Notified s (l.foldl runReady s) x.port srcRunReady) ∧
    ∀ p, RaisedFrom (s.unit p) ((l.foldl runReady s).unit p) := by
  induction l generalizing s with
  | nil => exact ⟨⟨_, _, rfl⟩, fun _ _ => rfl, nofun, nofun, fun _ => .refl _⟩
  | cons y l ih =>
    obtain ⟨⟨benches, attention, rest⟩, others, joined, notified, raised⟩ := ih (runReady s y)
    have first : (runReady s y).bench y = { s.bench y with run := .ready } := State.setBench_bench_same s y _
    have apart (x : Station) (h : x ≠ y) : (runReady s y).bench x = s.bench x := State.setBench_bench_ne s _ _ h
    have units (p : Port) : RaisedFrom (s.unit p) ((runReady s y).unit p) :=
      (worked_raise y.port srcRunReady (s.setBench y { s.bench y with run := .ready })).units p
    rw [List.foldl_cons]
    refine ⟨⟨benches, attention, rest⟩, fun x h => ?_, fun x h => ?_, fun x h => ?_, fun p => (units p).trans (raised p)⟩
    · rw [List.mem_cons, not_or] at h
      rw [others x h.2, apart x h.1]
    · by_cases again : x ∈ l
      · rw [joined x again]
        by_cases own : x = y
        · subst own
          rw [first]
        · rw [apart x own]
      · have own : x = y := (List.mem_cons.mp h).resolve_right again
        subst own
        rw [others x again, first]
    · by_cases again : x ∈ l
      · exact Notified.of_raised (units x.port) (notified x again)
      · have own : x = y := (List.mem_cons.mp h).resolve_right again
        subst own
        exact Notified.raised (notified_raise x.port srcRunReady (s.setBench x { s.bench x with run := .ready }) (by decide)) (raised x.port)

end

end Sys2Proof.Machine

/-! The end of a passed check, station by station (R37, R38). -/

namespace Sys2Proof.Machine

section
variable {x y z : Station} {s t u : State} {p : Port} {r : RunRecord} {w : Sweep} {k : Check}

/-- What a station's going on leaves of the part: the store, the levels, the other ports and the other station. -/
structure Resumed (x : Station) (s t : State) : Prop where
  store : t.store = s.store
  units : ∀ p, RaisedFrom (s.unit p) (t.unit p)
  ports : ∀ p, p ≠ x.port ∨ (s.port p).work = none → t.port p = s.port p
  ground : t.matrix.ground = s.matrix.ground
  passes : ∀ z, z ≠ x → Passing z x s t

theorem passing_setPort (p : Port) (v : PortState) (s : State) : Passing z x s (s.setPort p v) := passing_of_bench rfl rfl rfl rfl fun _ => rfl

theorem resumed_resumeStation (waits : WaitsToStart s x) (open_ : s.store.state ≠ .checking) : Resumed x s (resumeStation x s) := by
  have went := worked_goingOn x s
  have passed (z : Station) (h : z ≠ x) : Passing z x s (goingOn x s) := (passing_resumeRead x _).after (passing_compensated h s)
  obtain ⟨u, worked, passing, v, e⟩ := answerWaiting_worked (s := goingOn x s) (waits.worked went) (by rw [went.store]; exact open_)
  have all := went.trans worked
  refine ⟨?_, fun p => ?_, fun p h => ?_, ?_, fun z h => ?_⟩
  · rw [resumeStation_eq, e]
    exact all.store
  · rw [resumeStation_eq, e]
    exact all.units p
  · by_cases own : p = x.port
    · subst own
      have none : (s.port x.port).work = none := h.resolve_left (fun n => n rfl)
      have same : (goingOn x s).port x.port = s.port x.port := by rw [State.port, went.ports]; rfl
      rw [resumeStation_eq, answerWaiting_none (by rw [same]; exact none), same]
    · rw [resumeStation_eq, e, State.setPort_port_ne _ _ _ own, State.port, all.ports]
      rfl
  · rw [resumeStation_eq, e]
    exact all.ground
  · rw [resumeStation_eq, e]
    exact (passing_setPort x.port v u).after ((passed z h).trans (passing z))

/-- A station that waits for nothing of the check, its port too, stands. -/
theorem resume_rests (wait : (s.bench x).wait = .nothing ∨ (s.bench x).wait = .trunk) (work : (s.port x.port).work = none) :
    (resumeStation x s).bench x = s.bench x := by
  obtain ⟨c, told⟩ := compensated_idle (x := x) (s := s) (by rcases wait with wait | wait <;> rw [wait] <;> nofun)
  have goes : goingOn x s = s.setChannel x c := by
    rw [goingOn, told]
    unfold resumeRead
    rcases wait with wait | wait <;> rw [State.setChannel_bench, wait]
  rw [resumeStation_eq, goes, answerWaiting_none (s := s.setChannel x c) work]
  rfl

/-! ## Up to the stations -/

/-- The part with its check ended, the waiting READ IMAGE requests answered, the joined runs READY and LOAD-CHECKED raised. -/
def passedCheck (k : Check) (s : State) : State :=
  let u := s.store.joined.foldl runReady (answerReads (s.setStore (s.store.judged k)))
  if k.kind = .full then raise .ps srcLoadChecked u else u

/-- The store after a check that passes (R38). -/
theorem judged_passed (fault : k.fault = none) (rem : k.rem = imageRead s.store.words 15) :
    s.store.judged k = { s.store with
      state := .valid, check := none, crc := some k.rem, passed := true, joined := [],
      lastResult := some { kind := k.kind, fault := none, stored := imageRead s.store.words 15, computed := some k.rem } } := by
  simp [Store.judged, Check.result, Check.verdict, fault, rem]

theorem exec_checkEnd_passes (running : s.inReset = false) (checking : s.store.state = .checking) (check : s.store.check = some k)
    (complete : k.complete s.store.words = true) (valid : (s.store.judged k).state = .valid) :
    ∃ both, exec .checkEnd s = .next (eachStation both resumeStation (passedCheck k s)) := by
  refine ⟨awaitsCheck (passedCheck k s) .a && awaitsCheck (passedCheck k s) .b, (next_running checkEnds running).trans (congrArg _ ?_)⟩
  unfold checkEnds
  split
  next j hj =>
    cases check.symm.trans hj
    rw [if_pos ⟨checking, complete⟩]
    exact if_pos valid
  next none => cases check.symm.trans none

/-- The part as the stations find it after a passed check. -/
structure Found (k : Check) (s v : State) : Prop where
  store : v.store = s.store.judged k
  hv : v.hv = s.hv
  channels : v.channels = s.channels
  matrix : v.matrix = s.matrix
  ports : ∀ p, ReadAnswered s.store.words (s.port p) (v.port p)
  others : ∀ x, x ∉ s.store.joined → v.bench x = s.bench x
  joined : ∀ x, x ∈ s.store.joined → v.bench x = { s.bench x with run := .ready }
  notified : ∀ x, x ∈ s.store.joined → Notified s v x.port srcRunReady
  loaded : k.kind = .full → Notified s v .ps srcLoadChecked

theorem found_passedCheck (valid : (s.store.judged k).state = .valid) : Found k s (passedCheck k s) := by
  obtain ⟨⟨ports, answered⟩, reads⟩ := answerReads_reads (s := s.setStore (s.store.judged k)) (.inl valid)
  obtain ⟨⟨benches, attention, ready⟩, others, joined, notified, raised⟩ :=
    runsReady s.store.joined (answerReads (s.setStore (s.store.judged k)))
  have bench (x : Station) : (answerReads (s.setStore (s.store.judged k))).bench x = s.bench x := by rw [answered]; rfl
  have unit (p : Port) : (answerReads (s.setStore (s.store.judged k))).unit p = s.unit p := by rw [answered]; rfl
  have levels {t : State} {p : Port} {n : Nat} (h : Notified (answerReads (s.setStore (s.store.judged k))) t p n) : Notified s t p n := by
    rwa [Notified, unit] at h
  unfold passedCheck
  dsimp only
  generalize s.store.joined.foldl runReady (answerReads (s.setStore (s.store.judged k))) = v at *
  have port (p : Port) : ReadAnswered s.store.words (s.port p) (v.port p) := by
    have same : v.port p = (answerReads (s.setStore (s.store.judged k))).port p := by rw [ready]; rfl
    rw [same]
    exact reads p
  have store : v.store = s.store.judged k := by rw [ready, answered]; rfl
  have hv : v.hv = s.hv := by rw [ready, answered]; rfl
  have channels : v.channels = s.channels := by rw [ready, answered]; rfl
  have matrix : v.matrix = s.matrix := by rw [ready, answered]; rfl
  have apart (x : Station) (h : x ∉ s.store.joined) : v.bench x = s.bench x := (others x h).trans (bench x)
  have among (x : Station) (h : x ∈ s.store.joined) : v.bench x = { s.bench x with run := .ready } := by rw [joined x h, bench x]
  split
  next full =>
    have rises (p : Port) := (worked_raise .ps srcLoadChecked v).units p
    exact ⟨store, hv, channels, matrix, port, apart, among, fun x h => levels (Notified.raised (notified x h) (rises _)),
      fun _ => levels (Notified.of_raised (raised .ps) (notified_raise .ps srcLoadChecked v (by decide)))⟩
  next cyclic =>
    exact ⟨store, hv, channels, matrix, port, apart, among, fun x h => levels (notified x h), fun full => absurd full cyclic⟩

theorem Found.advance {v : State} (h : Found k s v) : Found k s v.advanceFree :=
  ⟨h.store, h.hv, h.channels, h.matrix, h.ports, h.others, h.joined, h.notified, h.loaded⟩

theorem Found.waits {v : State} (h : Found k s v) (works : WorkWaits s) (x : Station) : WaitsToStart v x := fun r work => by
  have port := h.ports x.port
  have unread : ∀ start count, (s.port x.port).work ≠ some (.readImage start count) := fun start count read => by
    have none := port.served start count read
    cases none.symm.trans work
  rw [port.stands unread] at work
  rcases works x.port r work with code | code
  · obtain ⟨start, count, rfl⟩ := readImage_of_code code
    exact absurd work (unread start count)
  · exact code

/-! ## Both stations -/

theorem port_apart {x y : Station} (h : x ≠ y) : x.port ≠ y.port := fun e => by
  have back : x.port.station? = y.port.station? := congrArg Port.station? e
  rw [station_port, station_port] at back
  exact h (Option.some.inj back)

theorem Station.eq_other {x y : Station} (h : y ≠ x) : y = x.other := by
  cases x with
  | a => cases y with
    | a => exact absurd rfl h
    | b => rfl
  | b => cases y with
    | a => rfl
    | b => exact absurd rfl h

theorem WaitsToStart.resumed (h : WaitsToStart s x) (k : Resumed y s t) (hy : x ≠ y) : WaitsToStart t x := by
  rw [WaitsToStart, k.ports x.port (.inl (port_apart hy))]
  exact h

/-- Both stations have gone on: what that leaves of the part, and each of them before or after the other one. -/
structure BothResumed (v t : State) : Prop where
  store : t.store = v.store
  units : ∀ p, RaisedFrom (v.unit p) (t.unit p)
  ports : ∀ p, (v.port p).work = none → t.port p = v.port p
  each : ∀ x, (∃ u, Resumed x.other v u ∧ WaitsToStart u x ∧ t = resumeStation x u) ∨ Resumed x.other (resumeStation x v) t

theorem eachStation_resumes (both : Bool) {v : State} (waits : ∀ x, WaitsToStart v x) (open_ : v.store.state ≠ .checking) :
    ∃ u, (u = v ∨ u = v.advanceFree) ∧ BothResumed u (eachStation both resumeStation v) := by
  obtain ⟨u, hu, either⟩ := eachStation_either both resumeStation v
  have waits (x : Station) : WaitsToStart u x := by rcases hu with rfl | rfl <;> exact waits x
  have open_ : u.store.state ≠ .checking := by rcases hu with rfl | rfl <;> exact open_
  have one (x : Station) : Resumed x u (resumeStation x u) ∧ Resumed x.other (resumeStation x u) (resumeStation x.other (resumeStation x u)) := by
    have first := resumed_resumeStation (waits x) open_
    exact ⟨first, resumed_resumeStation ((waits x.other).resumed first (Station.other_ne x)) (by rw [first.store]; exact open_)⟩
  have whole (x : Station) : BothResumed u (resumeStation x.other (resumeStation x u)) := by
    obtain ⟨first, second⟩ := one x
    refine ⟨second.store.trans first.store, fun p => (first.units p).trans (second.units p), fun p none => ?_, fun y => ?_⟩
    · have stands := first.ports p (.inr none)
      exact (second.ports p (.inr (by rw [stands]; exact none))).trans stands
    · by_cases own : y = x
      · subst own
        exact .inr second
      · have turned : y = x.other := Station.eq_other own
        subst turned
        exact .inl ⟨_, by rw [Station.other_other]; exact first, (waits x.other).resumed first (Station.other_ne x), rfl⟩
  refine ⟨u, hu, ?_⟩
  rcases either .a with e | e <;> rw [e]
  · exact whole .a
  · exact whole .b

end

end Sys2Proof.Machine

/-! CHECK END of a passed check (R33, R37, R38, R41, R51, R67, R73, R138). -/

namespace Sys2Proof.Machine

section
variable {x y z : Station} {s t u v : State} {p : Port} {r : RunRecord} {w : Sweep} {k : Check}

theorem Resumed.relays (h : Resumed y s t) (x : Station) : trunkRelays t x = trunkRelays s x := by
  have ground := h.ground
  simp only [Matrix.ground, Prod.mk.injEq] at ground
  obtain ⟨-, image, -, -, windows, -, -⟩ := ground
  simp only [trunkRelays, Matrix.known, State.window, image, windows]

/-- A station and its trunk with a configuration handed: `Handed`, by its two blocks. -/
def HandedOver (c : Configuration) (b : Bench) (t : Trunk) : Prop :=
  b.wait = .trunk ∧ b.handed = c ∧ (c = .empty ∨ t.config = some c ∨ t.waiting = some c)

theorem handedOver_iff (t : State) (x : Station) (c : Configuration) : HandedOver c (t.bench x) (t.trunk x) ↔ Handed t x c := Iff.rfl

theorem pairConfig_eq (w : Sweep) (m : List ImageCell) :
    w.pairConfig m =
      if w.retest then { drive := pointSet (memberAt m (w.netFirst + 1)), ret := pointSet (memberAt m (w.netFirst + 2)) }
      else { drive := pointSet w.anchor, ret := pointSet (memberAt m (w.netFirst + w.pos)) } := by
  unfold Sweep.pairConfig Sweep.pair
  split <;> rfl

theorem both_ready (both : BothResumed v t) (open_ : v.store.state ≠ .checking) (run : (v.bench x).run = .ready) (wait : (v.bench x).wait = .nothing)
    (work : (v.port x.port).work = none) :
    (t.bench x).run = .ready := by
  rcases both.each x with ⟨u, before, -, rfl⟩ | after
  · have passes := before.passes x (Station.other_ne x).symm
    have port := before.ports x.port (.inr work)
    rw [resume_rests (passes.idle (Station.other_ne x).symm open_ (.inl wait)) (by rw [port]; exact work)]
    exact (passes.course (Station.other_ne x).symm).1.trans run
  · have passes := after.passes x (Station.other_ne x).symm
    rw [(passes.course (Station.other_ne x).symm).1, resume_rests (.inl wait) work]
    exact run

theorem both_compensates {a b c raw : Nat} (both : BothResumed v t) (open_ : v.store.state ≠ .checking)
    (waits : ∀ x, WaitsToStart v x) (hand : (v.channel x).inHand = some (.pair a b c))
    (last : (v.channel x).lastRaw = some raw) (compensating : (v.channel x).state = .compensating) (away : Away v x) :
    t.channel x =
      (v.channel x).finish (.pairValue (raw - offsetOf v.store.words a - offsetOf v.store.words b) (v.channel x).range) := by
  rcases both.each x with ⟨u, before, starts, rfl⟩ | after
  · have passes := before.passes x (Station.other_ne x).symm
    have still := passes.channel away (by rw [compensating]; nofun)
    obtain ⟨ends, -⟩ := resume_compensates (s := u) (x := x) starts (by rw [before.store]; exact open_) (by rw [still]; exact hand)
      (by rw [still]; exact last) (by rw [still]; exact compensating) (passes.away away)
    rw [ends, still, before.store]
  · obtain ⟨ends, apart⟩ := resume_compensates (waits x) open_ hand last compensating away
    have passes := after.passes x (Station.other_ne x).symm
    rw [passes.channel apart (by rw [ends]; unfold Channel.finish; rw [compensating]; nofun), ends]

/-- What a station's engine reaches with its step unasked, by itself or behind the other station, it has at the end. -/
theorem both_reach {P : Bench → Trunk → Prop} (both : BothResumed v t) (waits : ∀ x, WaitsToStart v x)
    (ask : v.hv.stepAsk.get x = false)
    (reach : ∀ u, WaitsToStart u x → u.store = v.store → u.bench x = v.bench x → u.port x.port = v.port x.port →
      trunkRelays u x = trunkRelays v x → u.hv.stepAsk.get x = false →
      P ((resumeStation x u).bench x) ((resumeStation x u).trunk x) ∧ (resumeStation x u).hv.stepAsk.get x = false) :
    P (t.bench x) (t.trunk x) := by
  have apart := (Station.other_ne x).symm
  rcases both.each x with ⟨u, before, starts, rfl⟩ | after
  · obtain ⟨bench, -, unasked⟩ := (before.passes x apart).aloof apart ask
    exact (reach u starts before.store bench (before.ports x.port (.inl (port_apart apart))) (before.relays x) unasked).1
  · obtain ⟨reached, unasked⟩ := reach v (waits x) rfl rfl rfl rfl ask
    obtain ⟨bench, trunk, -⟩ := (after.passes x apart).aloof apart unasked
    rw [bench, trunk]
    exact reached

/-- A START INSULATION that waited is judged, whichever station goes on first. -/
theorem both_judges {kind locate : Byte} {selection voltage dwell threshold : Word16} {sel : Selection} (both : BothResumed v t)
    (open_ : v.store.state ≠ .checking) (ask : v.hv.stepAsk.get x = false)
    (work : (v.port x.port).work = some (.startInsulation kind selection voltage dwell threshold locate))
    (named : selectionOf kind selection = some sel) (record : (v.bench x).record = some r) (done : r.continuity = .done)
    (shorts : r.shorts = 0) (run : (v.bench x).run = .ready) (wait : (v.bench x).wait = .nothing) :
    (selectedNets v.store.words sel = [] ∨ returnedSet v.store.words sel = [] →
      (t.port x.port).response.map (·.status) = some .emptySelection ∧ (t.bench x).run = .ready) ∧
    (selectedNets v.store.words sel ≠ [] → returnedSet v.store.words sel ≠ [] →
      (t.port x.port).response.map (·.status) = some .accepted ∧ (t.bench x).run = .insulation ∧
      (t.bench x).step.map (·.selected) = some (selectedNets v.store.words sel)) := by
  have apart := (Station.other_ne x).symm
  rcases both.each x with ⟨u, before, -, rfl⟩ | after
  · obtain ⟨bench, -, -⟩ := (before.passes x apart).aloof apart ask
    have port := before.ports x.port (.inl (port_apart apart))
    have judges := resume_judges (s := u) (x := x) (by rw [before.store]; exact open_) (by rw [port]; exact work) named
      (by rw [bench]; exact record) done shorts (by rw [bench]; exact run) (by rw [bench]; exact wait)
    rwa [before.store] at judges
  · obtain ⟨empty, accepts⟩ := resume_judges open_ work named record done shorts run wait
    obtain ⟨kept, selected⟩ := (after.passes x apart).course apart
    have port := after.ports x.port (.inl (port_apart apart))
    rw [kept, selected, port]
    exact ⟨empty, accepts⟩

/-- Settles O29: the store and the answers at once, and each station by the order in which the two go on. -/
theorem checkPassTakesEffect : Obligations.CheckPassTakesEffect := by
  intro s k running works checking check complete fault rem
  have judged := judged_passed fault rem
  have valid : (s.store.judged k).state = .valid := by rw [judged]
  obtain ⟨both, exec⟩ := exec_checkEnd_passes running checking check complete valid
  have found := found_passedCheck (k := k) (s := s) valid
  have open0 : (passedCheck k s).store.state ≠ .checking := by rw [found.store, valid]; nofun
  obtain ⟨v, hv, resumed⟩ := eachStation_resumes both (fun x => found.waits works x) open0
  have found : Found k s v := by
    rcases hv with rfl | rfl
    · exact found
    · exact found.advance
  have open_ : v.store.state ≠ .checking := by rw [found.store, valid]; nofun
  have waits (x : Station) := found.waits works x
  have words : v.store.words = s.store.words := by rw [found.store, judged]
  refine ⟨_, exec, by rw [resumed.store, found.store, judged], fun full => (found.loaded full).raised (resumed.units _),
    fun x joined wait work => ?_, fun p start count read h1 h2 h3 => ?_, fun x apart ask => ?_⟩
  · refine ⟨?_, (found.notified x joined).raised (resumed.units _)⟩
    have bench := found.joined x joined
    have port := (found.ports x.port).stands (by rw [work]; nofun)
    exact both_ready resumed open_ (by rw [bench]) (by rw [bench]; exact wait) (by rw [port]; exact work)
  · have port := found.ports p
    have none := port.served start count read
    rw [resumed.ports p none]
    exact ⟨none, port.words start count read h1 h2 h3⟩
  · have bench := found.others x apart
    have channel : v.channel x = s.channel x := congrArg (fun c : Both Channel => c.get x) found.channels
    have unasked : v.hv.stepAsk.get x = false := by rw [found.hv]; exact ask
    refine ⟨fun p q k hand raw last compensating away => ?_, fun r record going => ⟨fun w sweep wait run => ?_, fun st step wait run => ?_⟩,
      fun r record aborts wait run sweep closed => ?_,
      fun r record done shorts run wait kind sel volts d th l work c named => ?_⟩
    · have ends := both_compensates resumed open_ waits (by rw [channel]; exact hand) (by rw [channel]; exact last)
        (by rw [channel]; exact compensating) (Away.of_hv (s := s) away found.hv)
      rw [ends, channel, words, Channel.finish, compensating]
      rfl
    · rw [← pairConfig_eq]
      rw [← handedOver_iff]
      refine both_reach (P := HandedOver _) resumed waits unasked fun u starts store same port relays ask => ?_
      have hands := resume_hands_pair (s := u) (w := w) (r := r) starts (by rw [store]; exact open_) (by rw [same, bench]; exact record)
        going (by rw [same, bench]; exact sweep) (by rw [same, bench]; exact wait) (by rw [same, bench]; exact run) ask
      rwa [store, words, ← handedOver_iff] at hands
    · rw [← handedOver_iff]
      refine both_reach (P := HandedOver _) resumed waits unasked fun u starts store same port relays ask => ?_
      have hands := resume_hands_step (s := u) (st := st) (r := r) starts (by rw [store]; exact open_) (by rw [same, bench]; exact record)
        going (by rw [same, bench]; exact step) (by rw [same, bench]; exact wait) (by rw [same, bench]; exact run) ask
      rwa [store, words, ← handedOver_iff] at hands
    · refine both_reach (P := fun b _ => SweepEnded b r .cutShort ∧ b.banks = (s.bench x).banks)
        resumed waits unasked fun u starts store same port relays ask => ?_
      have shut : Closed u x := by
        have still : trunkRelays u x = trunkRelays s x := by
          rw [relays]
          simp only [trunkRelays, State.window, found.matrix]
        rw [Closed, still]
        exact closed
      have ends := resume_aborts (s := u) (r := r) starts (by rw [store]; exact open_) (by rw [same, bench]; exact record) aborts
        (by rw [same, bench]; exact sweep) (by rw [same, bench]; exact wait) (by rw [same, bench]; exact run) shut ask
      rwa [same, bench] at ends
    · have port := (found.ports x.port).stands (by rw [work]; nofun)
      have judges := both_judges resumed open_ unasked (by rw [port]; exact work) named (by rw [bench]; exact record) done shorts
        (by rw [bench]; exact run) (by rw [bench]; exact wait)
      rwa [words] at judges

end

end Sys2Proof.Machine

/-! The end of a run by a failed check, as the other station sees it (R72, R121). -/

namespace Sys2Proof.Machine

section
variable {x y z : Station} {s t u : State} {p : Port} {r : RunRecord}

/-- Between s and t, as station Z sees it: a channel at rest stands, run and record stand, and out of line the station stands with its
trunk, and without an ask. -/
structure Unmoved (z : Station) (s t : State) : Prop where
  rests : Rests z s t
  course : (t.bench z).run = (s.bench z).run ∧ (t.bench z).record = (s.bench z).record
  aloof : z ∉ s.hv.line → Untouched z s t ∧ z ∉ t.hv.line ∧ (s.hv.asks z = false → t.hv.asks z = false)

theorem Unmoved.refl : Unmoved z s s := ⟨.refl z s, ⟨rfl, rfl⟩, fun out => ⟨.refl z s, out, id⟩⟩

theorem Unmoved.trans (h : Unmoved z s t) (k : Unmoved z t u) : Unmoved z s u := by
  refine ⟨h.rests.trans k.rests, ⟨k.course.1.trans h.course.1, k.course.2.trans h.course.2⟩, fun out => ?_⟩
  obtain ⟨untouched, line, asks⟩ := h.aloof out
  obtain ⟨untouched', line', asks'⟩ := k.aloof line
  exact ⟨untouched.trans untouched', line', fun a => asks' (asks a)⟩

/-- The last operation first: it fixes the state in between. -/
theorem Unmoved.after (k : Unmoved z t u) (h : Unmoved z s t) : Unmoved z s u := h.trans k

/-- What leaves station, trunk and channel Z, and neither lines the station up nor has it ask. -/
theorem unmoved_of_same (same : Untouched z s t) (line : z ∈ t.hv.line → z ∈ s.hv.line) (asks : s.hv.asks z = false → t.hv.asks z = false) :
    Unmoved z s t :=
  ⟨fun _ => same.channel, by rw [same.bench]; exact ⟨rfl, rfl⟩, fun out => ⟨same, fun mem => out (line mem), asks⟩⟩

theorem unmoved_of_lending (same : Untouched z s t) (lending : t.hv.lending = s.hv.lending) : Unmoved z s t := by
  have line : t.hv.line = s.hv.line := congrArg (fun v => v.2.1) lending
  exact unmoved_of_same same (by rw [line]; exact id) (fun a => (Hv.asks_of_lending lending z).trans a)

theorem stepMayGo_record (x : Station) (s : State) : ((stepMayGo x s).bench x).record = (s.bench x).record := by
  unfold stepMayGo handStep holdRead
  split
  next v hv =>
    split
    · rw [State.setBench_bench_same]
      dsimp only
      split
      · simp
      · simp [handConfig_bench_same, Bench.handing]
    · rfl
  · rfl

theorem rests_handStep (x : Station) (s : State) : Rests x s (handStep x s) := by
  unfold handStep
  split
  · exact (onward_holdRead _ s).rests
  · split
    · exact (onward_handConfig _ s).rests
    · exact .refl x s

theorem rests_stepMayGo (x : Station) (s : State) : Rests x s (stepMayGo x s) := by
  unfold stepMayGo
  split
  next st hst =>
    split
    · have stood : Onward x s (s.setBench x { s.bench x with step := some { st with state := .configure } }) := onward_setBench rfl rfl
      exact stood.rests.trans (rests_handStep x _)
    · exact .refl x s
  · exact .refl x s

theorem Hv.asks_granted_ne (h : Hv) {w z : Station} (other : z ≠ w) : (h.granted w).asks z = h.asks z := by
  have step : (h.granted w).stepAsk.get z = h.stepAsk.get z := Both.get_set_ne _ _ other
  have reserve : (h.granted w).reserveAsk.get z = h.reserveAsk.get z := Both.get_set_ne _ _ other
  simp only [Hv.asks, step, reserve]

theorem unmoved_grant (w : Station) (s : State) (mem : w ∈ s.hv.line) : Unmoved z s (grant w s) := by
  have raised : Rests z s (raise w.port srcHvGranted (s.setHv (s.hv.granted w))) := fun _ => rfl
  by_cases own : z = w
  · subst own
    refine ⟨?_, ?_, fun out => absurd mem out⟩
    · unfold grant
      dsimp only
      split
      · exact raised.trans (rests_stepMayGo z _)
      · exact raised
    · refine ⟨grant_run z s, ?_⟩
      unfold grant
      dsimp only
      split
      · exact stepMayGo_record z _
      · rfl
  · have first : Unmoved z s (raise w.port srcHvGranted (s.setHv (s.hv.granted w))) :=
      unmoved_of_same ⟨rfl, rfl, rfl⟩ (granted_line s.hv z w) (fun a => (Hv.asks_granted_ne s.hv own).trans a)
    unfold grant
    dsimp only
    split
    · have apart := apart_stepMayGo w (raise w.port srcHvGranted (s.setHv (s.hv.granted w)))
      exact first.trans (unmoved_of_lending (apart.beside.untouched own) apart.lending)
    · exact first

theorem unmoved_lookForGrant (s : State) : Unmoved z s (lookForGrant s) := by
  rcases lookForGrant_cases s with ⟨-, e⟩ | ⟨w, mem, -, e⟩ <;> rw [e]
  · exact .refl
  · exact unmoved_grant w s mem

theorem unmoved_releaseHolder (s : State) : Unmoved z s (releaseHolder s) := by
  rcases releaseHolder_cases s with ⟨-, e⟩ | ⟨-, -, e⟩ | ⟨y, held, off, -⟩
  · rw [e]
    exact .refl
  · rw [e]
    exact unmoved_of_same ⟨rfl, rfl, rfl⟩ id id
  · rw [releaseHolder_off held off]
    have line : (released y s).hv.line = s.hv.line := by rw [released_hv]; rfl
    have asks : (released y s).hv.asks z = s.hv.asks z := by rw [released_hv]; rfl
    exact (unmoved_lookForGrant _).after (unmoved_of_same (untouched_released z y s) (by rw [line]; exact id) (by rw [asks]; exact id))

/-! ## The end of a run -/

/-- Between s and t the run of station Y has ended by a failed check, or station Y had none: what that leaves of the part. -/
structure Failed (y : Station) (s t : State) : Prop where
  store : t.store = s.store
  units : ∀ p, RaisedFrom (s.unit p) (t.unit p)
  ports : ∀ p, p ≠ y.port ∨ (s.port p).work = none → t.port p = s.port p
  ground : t.matrix.ground = s.matrix.ground
  unmoved : ∀ z, z ≠ y → Unmoved z s t
  away : ∀ z, z ≠ y → Away s z → Away t z
  line : y ∉ s.hv.line → y ∉ t.hv.line
  holding : s.hv.holder ≠ some y → Away s y →
    t.hv.supply = s.hv.supply ∧ t.hv.holder = s.hv.holder ∧ t.hv.reserved = s.hv.reserved ∧
      t.hv.releasePending = s.hv.releasePending ∧ t.hv.quiet = s.hv.quiet

theorem Failed.trans (h : Failed y s t) (k : Failed y t u) : Failed y s u := by
  refine ⟨k.store.trans h.store, fun p => (h.units p).trans (k.units p), fun p c => ?_, k.ground.trans h.ground,
    fun z hz => (h.unmoved z hz).trans (k.unmoved z hz), fun z hz away => k.away z hz (h.away z hz away), fun out => k.line (h.line out), fun free away => ?_⟩
  · have same := h.ports p c
    exact (k.ports p (by rwa [same])).trans same
  · obtain ⟨supply, holder, reserved, pending, quiet⟩ := h.holding free away
    have energ : t.hv.energ = s.hv.energ := congrArg (fun v => v.2.1) supply
    obtain ⟨supply', holder', reserved', pending', quiet'⟩ := k.holding (by rwa [holder]) (by rw [Away, energ]; exact away)
    exact ⟨supply'.trans supply, holder'.trans holder, reserved'.trans reserved, pending'.trans pending, quiet'.trans quiet⟩

/-- The last operation first: it fixes the state in between. -/
theorem Failed.after (k : Failed y t u) (h : Failed y s t) : Failed y s u := h.trans k

/-- What leaves the HV unit and the matrix, writes station and channel Y alone, and raises notices. -/
theorem failed_of_station (store : t.store = s.store) (units : ∀ p, RaisedFrom (s.unit p) (t.unit p)) (ports : t.ports = s.ports)
    (matrix : t.matrix = s.matrix) (hv : t.hv = s.hv) (bench : ∀ z, z ≠ y → t.bench z = s.bench z)
    (channel : ∀ z, z ≠ y → t.channel z = s.channel z) : Failed y s t :=
  ⟨store, units, fun p _ => by rw [State.port, ports]; rfl, by rw [matrix],
    fun z hz => unmoved_of_lending ⟨bench z hz, by rw [State.trunk, matrix]; rfl, channel z hz⟩ (by rw [hv]), fun _ _ away => away.of_hv hv, by rw [hv]; exact id,
    fun _ _ => by rw [hv]; exact ⟨rfl, rfl, rfl, rfl, rfl⟩⟩

theorem failed_refl (y : Station) (s : State) : Failed y s s :=
  failed_of_station rfl (fun _ => .refl _) rfl rfl rfl (fun _ _ => rfl) fun _ _ => rfl

theorem failed_setChannel (y : Station) (c : Channel) (s : State) : Failed y s (s.setChannel y c) :=
  failed_of_station rfl (fun _ => .refl _) rfl rfl rfl (fun _ _ => rfl) fun _ hz => State.setChannel_channel_ne _ _ _ hz

theorem failed_setBench (y : Station) (b : Bench) (s : State) : Failed y s (s.setBench y b) :=
  failed_of_station rfl (fun _ => .refl _) rfl rfl rfl (fun _ hz => State.setBench_bench_ne _ _ _ hz) fun _ _ => rfl

theorem failed_endRun (y : Station) (r : RunRecord) (c : RunEndCause) (v : Verdict) (s : State) : Failed y s (endRun y r c v s) := by
  have over_ := runOver_endRun y r c v s
  exact failed_of_station over_.store over_.units over_.ports over_.matrix over_.hv over_.other
    fun z _ => by rw [State.channel, over_.channels]; rfl

theorem failed_setPort (y : Station) (v : PortState) (s : State) (idle : (s.port y.port).work = none → v = s.port y.port) :
    Failed y s (s.setPort y.port v) := by
  refine ⟨rfl, fun _ => .refl _, fun p h => ?_, rfl, fun z _ => unmoved_of_lending ⟨rfl, rfl, rfl⟩ rfl, fun _ _ away => away,
    id, fun _ _ => ⟨rfl, rfl, rfl, rfl, rfl⟩⟩
  by_cases own : p = y.port
  · subst own
    rw [State.setPort_port_same]
    exact idle (h.resolve_left fun n => n rfl)
  · exact State.setPort_port_ne _ _ _ own

theorem failed_clearTrunk (y : Station) (s : State) : Failed y s (clearTrunk y s) := by
  have handed := handing_arrive y .empty s
  have worked := worked_clearTrunk y s
  refine ⟨worked.store, worked.units, fun p _ => by rw [State.port, worked.ports]; rfl, worked.ground,
    fun z hz => unmoved_of_lending ⟨handed.bench z, handed.trunk z hz, handed.channel z hz⟩ handed.lending,
    fun z _ away => away.arrive .empty, fun out => ?_, fun _ away => ?_⟩
  · rwa [show (clearTrunk y s).hv.line = s.hv.line from congrArg (fun v => v.2.1) handed.lending]
  · rw [show (clearTrunk y s).hv = s.hv from handed.hv away.uncut]
    exact ⟨rfl, rfl, rfl, rfl, rfl⟩

/-- The HV unit of a holder that gives up, before its release. -/
def Hv.yielding (h : Hv) (quiet : Bool) : Hv := { h with reserved := false, holderStep := false, holdTimer := none, quiet := h.quiet || quiet }

/-- The way of a run end through the HV unit: the cut, a release that is due, and the holder's own release (R121). -/
theorem endHolding_path (quiet : Bool) (wait : (s.bench y).wait ≠ .energisation) :
    ∃ w, (w = (cutEnergisation y .runEnd (clearAsks y s)).1 ∨ w = releaseHolder (cutEnergisation y .runEnd (clearAsks y s)).1) ∧
      (endHolding y quiet s = w ∨ endHolding y quiet s = releaseHolder (w.setHv (w.hv.yielding quiet))) := by
  obtain ⟨told, kept⟩ := cutEnergisation_told y .runEnd (clearAsks y s)
  have idle : ((cutEnergisation y .runEnd (clearAsks y s)).1.bench y).wait ≠ .energisation := by rwa [kept]
  refine ⟨tellEngine (cutEnergisation y .runEnd (clearAsks y s)), ?_, ?_⟩
  · unfold tellEngine
    rcases told with e | ⟨v, e⟩ <;> rw [e]
    · exact .inl rfl
    · dsimp only
      rw [stepResult_idle idle]
      unfold releaseIfDue
      split
      · exact .inr rfl
      · exact .inl rfl
  · unfold endHolding
    dsimp only
    split
    · exact .inr rfl
    · exact .inl rfl

/-- The station whose run ends is out of line. -/
theorem endHolding_line (quiet : Bool) (wait : (s.bench y).wait ≠ .energisation) : y ∉ (endHolding y quiet s).hv.line := by
  have cut : (cutEnergisation y .runEnd (clearAsks y s)).1.hv.line = (s.hv.clearAsks y).line :=
    congrArg (fun v => v.2.1) (supplying_cutEnergisation y .runEnd (clearAsks y s)).lending
  have out : y ∉ (cutEnergisation y .runEnd (clearAsks y s)).1.hv.line := by
    rw [cut]
    exact clearAsks_line s.hv y
  obtain ⟨w, hw, e⟩ := endHolding_path quiet wait
  have gone : y ∉ w.hv.line := by
    rcases hw with rfl | rfl
    · exact out
    · exact releaseHolder_line out
  rcases e with e | e <;> rw [e]
  · exact gone
  · exact releaseHolder_line (s := w.setHv (w.hv.yielding quiet)) gone

theorem unmoved_clearAsks (hz : z ≠ y) (s : State) : Unmoved z s (clearAsks y s) := by
  refine unmoved_of_same ⟨rfl, rfl, rfl⟩ (fun mem => (line_clearAsks s.hv y z mem).2) (fun a => ?_)
  have step : (s.hv.clearAsks y).stepAsk.get z = s.hv.stepAsk.get z := Both.get_set_ne _ _ hz
  have reserve : (s.hv.clearAsks y).reserveAsk.get z = s.hv.reserveAsk.get z := Both.get_set_ne _ _ hz
  show (s.hv.clearAsks y).asks z = false
  rwa [Hv.asks, step, reserve]

theorem away_releaseHolder (away : Away s z) : Away (releaseHolder s) z := by
  rcases releaseHolder_cases s with ⟨-, e⟩ | ⟨-, -, e⟩ | ⟨y, held, off, -⟩
  · rwa [e]
  · rw [e]
    exact away
  · rw [releaseHolder_off held off]
    refine (passing_lookForGrant (z := z) (y := y) (released y s)).away ?_
    rw [Away, released_hv]
    exact away

theorem away_endHolding (quiet : Bool) (wait : (s.bench y).wait ≠ .energisation) (away : Away s z) : Away (endHolding y quiet s) z := by
  have cut : Away (cutEnergisation y .runEnd (clearAsks y s)).1 z := Away.cutEnergisation (s := clearAsks y s) away .runEnd
  obtain ⟨w, hw, e⟩ := endHolding_path quiet wait
  have reached : Away w z := by
    rcases hw with rfl | rfl
    · exact cut
    · exact away_releaseHolder cut
  rcases e with e | e <;> rw [e]
  · exact reached
  · exact away_releaseHolder (s := w.setHv (w.hv.yielding quiet)) reached

theorem failed_endHolding (quiet : Bool) (wait : (s.bench y).wait ≠ .energisation) : Failed y s (endHolding y quiet s) := by
  have worked := worked_endHolding y quiet s
  have supplied := supplying_cutEnergisation y .runEnd (clearAsks y s)
  refine ⟨worked.store, worked.units, fun p _ => by rw [State.port, worked.ports]; rfl, worked.ground, fun z hz => ?_,
    fun z _ away => away_endHolding quiet wait away, fun _ => endHolding_line quiet wait, fun free away => ?_⟩
  · have cut : Unmoved z s (cutEnergisation y .runEnd (clearAsks y s)).1 :=
      (unmoved_clearAsks hz s).trans (unmoved_of_lending
        ⟨by rw [State.bench, supplied.benches]; rfl, by rw [State.trunk, supplied.matrix]; rfl, supplied.channel z hz⟩ supplied.lending)
    obtain ⟨w, hw, e⟩ := endHolding_path quiet wait
    have reached : Unmoved z s w := by
      rcases hw with rfl | rfl
      · exact cut
      · exact cut.trans (unmoved_releaseHolder _)
    rcases e with e | e <;> rw [e]
    · exact reached
    · exact (reached.trans (unmoved_of_same (t := w.setHv (w.hv.yielding quiet)) ⟨rfl, rfl, rfl⟩ id id)).trans (unmoved_releaseHolder _)
  · rw [endHolding_else quiet away.uncut free]
    exact ⟨rfl, rfl, rfl, rfl, rfl⟩

end

end Sys2Proof.Machine

/-! What a failed check ends at a station: its compensation, its run, its source, its trunk, and the request that waits (R58, R72, R121,
R138). -/

namespace Sys2Proof.Machine

section
variable {x y z : Station} {s t u : State} {p : Port} {r : RunRecord}

/-! ## The ground of the matrix -/

theorem ready_of_ground (ground : t.matrix.ground = s.matrix.ground) (ready : s.matrix.state = .ready) : t.matrix.state = .ready :=
  (congrArg (fun g => g.1) ground).trans ready

theorem hot_of_ground (ground : t.matrix.ground = s.matrix.ground) (x : Station) : t.hot x = s.hot x := by
  simp only [Matrix.ground, Prod.mk.injEq] at ground
  obtain ⟨-, -, -, -, -, hot, -⟩ := ground
  rw [State.hot, hot]
  rfl

theorem closed_of_ground (ground : t.matrix.ground = s.matrix.ground) (closed : Closed s x) : Closed t x := by
  simp only [Matrix.ground, Prod.mk.injEq] at ground
  obtain ⟨-, image, -, -, windows, -, -⟩ := ground
  have same : trunkRelays t x = trunkRelays s x := by simp only [trunkRelays, Matrix.known, State.window, image, windows]
  rw [Closed, same]
  exact closed

/-! ## The source of the station -/

/-- A run end at the HV unit leaves the station and its trunk, a channel at rest, and nothing that could be cut. -/
structure GaveUp (x : Station) (s t : State) : Prop where
  bench : t.bench x = s.bench x
  trunk : t.trunk x = s.trunk x
  ground : t.matrix.ground = s.matrix.ground
  rests : Rests x s t
  channel : Uncut s x → t.channel x = s.channel x
  uncut : Uncut t x
  asks : t.hv.asks x = false

theorem gaveUp_endHolding (quiet : Bool) (wait : (s.bench x).wait ≠ .energisation) : GaveUp x s (endHolding x quiet s) := by
  obtain ⟨aside, asks⟩ := bystands_endHolding quiet wait
  have cut := supplying_cutEnergisation x .runEnd (clearAsks x s)
  obtain ⟨-, kept⟩ := cutEnergisation_told x .runEnd (clearAsks x s)
  refine ⟨aside.untouched.bench.trans (kept x), ?_, (worked_endHolding x quiet s).ground, fun rests => ?_, fun uncut => ?_,
    aside.uncut (cutEnergisation_done x .runEnd _), asks⟩
  · rw [aside.untouched.trunk, State.trunk, cut.matrix]
    rfl
  · rw [aside.untouched.channel]
    exact cutEnergisation_rests (s := clearAsks x s) .runEnd rests
  · rw [aside.untouched.channel, cutEnergisation_uncut (s := clearAsks x s) uncut]
    rfl

/-! ## The run (R72) -/

/-- The record of a run that a failed check ends. -/
def RunRecord.failed (r : RunRecord) : RunRecord := { r with refFault := true, abortPending := false }

/-- The run of station X with this record is ended by a failed check. -/
def runFailed (x : Station) (r : RunRecord) (s : State) : State := endRun x r.failed .referenceCheck .invalidReference s

theorem runOver_runFailed (x : Station) (r : RunRecord) (s : State) : RunOver x r.failed .referenceCheck .invalidReference s (runFailed x r s) :=
  runOver_endRun x r.failed .referenceCheck .invalidReference s

theorem runFailed_wait (x : Station) (r : RunRecord) (s : State) : ((runFailed x r s).bench x).wait = .nothing := by
  rw [(runOver_runFailed x r s).bench]
  rfl

/-- The source of a run that a failed check has ended is given up. -/
def sourceFailed (x : Station) (r : RunRecord) (s : State) : State := endHolding x false (runFailed x r s)

theorem forcedEnd_none (record : (s.bench x).record = none) : forcedEnd x s = s := by
  unfold forcedEnd
  simp only [record]

/-- The work in hand ends with a sweep or an insulation step (R72). -/
theorem forcedEnd_working (record : (s.bench x).record = some r) (run : (s.bench x).run = .continuity ∨ (s.bench x).run = .insulation) :
    forcedEnd x s = endWork x (groupRuns s x) (sourceFailed x r s) := by
  unfold forcedEnd
  simp only [record, run, if_true]
  rfl

theorem forcedEnd_idle (record : (s.bench x).record = some r) (run : ¬ ((s.bench x).run = .continuity ∨ (s.bench x).run = .insulation)) :
    forcedEnd x s = sourceFailed x r s := by
  unfold forcedEnd
  simp only [record, run, if_false]
  rfl

theorem gaveUp_sourceFailed (x : Station) (r : RunRecord) (s : State) : GaveUp x (runFailed x r s) (sourceFailed x r s) :=
  gaveUp_endHolding false (by rw [runFailed_wait]; nofun)

theorem sourceFailed_bench (x : Station) (r : RunRecord) (s : State) :
    ∃ k, (sourceFailed x r s).bench x = ((s.bench x).ended r.failed .referenceCheck .invalidReference).banked r.bank k :=
  ⟨_, (gaveUp_sourceFailed x r s).bench.trans (runOver_runFailed x r s).bench⟩

theorem sourceFailed_trunk (x : Station) (r : RunRecord) (s : State) : (sourceFailed x r s).trunk x = s.trunk x := by
  rw [(gaveUp_sourceFailed x r s).trunk, State.trunk, (runOver_runFailed x r s).matrix]
  rfl

theorem sourceFailed_ground (x : Station) (r : RunRecord) (s : State) : (sourceFailed x r s).matrix.ground = s.matrix.ground := by
  rw [(gaveUp_sourceFailed x r s).ground, (runOver_runFailed x r s).matrix]

theorem runFailed_channel (x : Station) (r : RunRecord) (s : State) : (runFailed x r s).channel x = s.channel x := by
  rw [State.channel, (runOver_runFailed x r s).channels]
  rfl

theorem rests_sourceFailed (x : Station) (r : RunRecord) (s : State) : Rests x s (sourceFailed x r s) := by
  have ended : Rests x s (runFailed x r s) := fun _ => runFailed_channel x r s
  exact ended.trans (gaveUp_sourceFailed x r s).rests

theorem sourceFailed_channel (away : Away s x) : (sourceFailed x r s).channel x = s.channel x := by
  have away' : Away (runFailed x r s) x := Away.of_hv (s := s) away (runOver_runFailed x r s).hv
  exact ((gaveUp_sourceFailed x r s).channel away'.uncut).trans (runFailed_channel x r s)

theorem sourceFailed_line (x : Station) (r : RunRecord) (s : State) : x ∉ (sourceFailed x r s).hv.line :=
  endHolding_line false (by rw [runFailed_wait]; nofun)

theorem failed_sourceFailed (x : Station) (r : RunRecord) (s : State) : Failed x s (sourceFailed x r s) :=
  (failed_endHolding false (by rw [runFailed_wait]; nofun)).after (failed_endRun x r.failed .referenceCheck .invalidReference s)

theorem failed_endWork (x : Station) (group : Bool) (s : State) : Failed x s (endWork x group s) := by
  cases group
  · exact failed_clearTrunk x s
  · exact failed_setBench x _ s

theorem failed_forcedEnd (x : Station) (s : State) : Failed x s (forcedEnd x s) := by
  cases record : (s.bench x).record with
  | none =>
    rw [forcedEnd_none record]
    exact failed_refl x s
  | some r =>
    by_cases run : (s.bench x).run = .continuity ∨ (s.bench x).run = .insulation
    · rw [forcedEnd_working record run]
      exact (failed_endWork x _ _).after (failed_sourceFailed x r s)
    · rw [forcedEnd_idle record run]
      exact failed_sourceFailed x r s

theorem forcedEnd_ports (x : Station) (s : State) : (forcedEnd x s).ports = s.ports := by
  have source (r : RunRecord) : (sourceFailed x r s).ports = s.ports :=
    (worked_endHolding x false (runFailed x r s)).ports.trans (runOver_runFailed x r s).ports
  cases record : (s.bench x).record with
  | none => rw [forcedEnd_none record]
  | some r =>
    by_cases run : (s.bench x).run = .continuity ∨ (s.bench x).run = .insulation
    · rw [forcedEnd_working record run, ← source r]
      cases groupRuns s x
      · exact (worked_clearTrunk x _).ports
      · rfl
    · rw [forcedEnd_idle record run]
      exact source r

/-- The end of the work leaves the station with its trunk, but for what it waits for. -/
theorem endWork_bench (x : Station) (group : Bool) (s : State) : ∃ w, (endWork x group s).bench x = { s.bench x with wait := w } := by
  cases group
  · exact ⟨(s.bench x).wait, (handing_arrive x .empty s).bench x⟩
  · exact ⟨.channel, State.setBench_bench_same _ _ _⟩

theorem rests_endWork (x : Station) (group : Bool) (s : State) : Rests x s (endWork x group s) := by
  cases group
  · exact fun rests => arrive_rests .empty rests
  · exact fun _ => rfl

theorem rests_forcedEnd (x : Station) (s : State) : Rests x s (forcedEnd x s) := by
  cases record : (s.bench x).record with
  | none =>
    rw [forcedEnd_none record]
    exact .refl x s
  | some r =>
    by_cases run : (s.bench x).run = .continuity ∨ (s.bench x).run = .insulation
    · rw [forcedEnd_working record run]
      exact (rests_sourceFailed x r s).trans (rests_endWork x _ _)
    · rw [forcedEnd_idle record run]
      exact rests_sourceFailed x r s

/-- The open run of a station is over, whatever its engine did. -/
theorem forcedEnd_bench (record : (s.bench x).record = some r) :
    ∃ k w, (forcedEnd x s).bench x =
      { ((s.bench x).ended r.failed .referenceCheck .invalidReference).banked r.bank k with wait := w } := by
  obtain ⟨k, bench⟩ := sourceFailed_bench x r s
  by_cases run : (s.bench x).run = .continuity ∨ (s.bench x).run = .insulation
  · rw [forcedEnd_working record run]
    obtain ⟨w, works⟩ := endWork_bench x (groupRuns s x) (sourceFailed x r s)
    exact ⟨k, w, works.trans (by rw [bench])⟩
  · rw [forcedEnd_idle record run]
    exact ⟨k, .nothing, bench⟩

theorem forcedEnd_line (record : (s.bench x).record = some r) : x ∉ (forcedEnd x s).hv.line ∧ (forcedEnd x s).hv.asks x = false := by
  have line := sourceFailed_line x r s
  have asks := (gaveUp_sourceFailed x r s).asks
  by_cases run : (s.bench x).run = .continuity ∨ (s.bench x).run = .insulation
  · rw [forcedEnd_working record run]
    cases groupRuns s x
    · have lending := (handing_arrive x .empty (sourceFailed x r s)).lending
      have same : (clearTrunk x (sourceFailed x r s)).hv.line = (sourceFailed x r s).hv.line := congrArg (fun v => v.2.1) lending
      exact ⟨by rw [← same] at line; exact line, (Hv.asks_of_lending lending x).trans asks⟩
    · exact ⟨line, asks⟩
  · rw [forcedEnd_idle record run]
    exact ⟨line, asks⟩

theorem forcedEnd_record (x : Station) (s : State) : ((forcedEnd x s).bench x).record = none := by
  cases record : (s.bench x).record with
  | none => rw [forcedEnd_none record, record]
  | some r =>
    obtain ⟨k, w, bench⟩ := forcedEnd_bench record
    rw [bench]
    rfl

theorem forcedEnd_run (h : (s.bench x).run ≠ .noRun → (s.bench x).record.isSome = true) : ((forcedEnd x s).bench x).run = .noRun := by
  cases record : (s.bench x).record with
  | none =>
    rw [forcedEnd_none record]
    by_contra run
    have some := h run
    rw [record] at some
    cases some
  | some r =>
    obtain ⟨k, w, bench⟩ := forcedEnd_bench record
    rw [bench]
    rfl

/-! ## The work in hand (R49, R58, R72, R112) -/

theorem groupRuns_group {th : Nat} (measuring : (s.channel x).state = .measuring) (hand : (s.channel x).inHand = some (.group th)) :
    groupRuns s x = true := by
  simp only [groupRuns, measuring, hand]

theorem groupRuns_pair {a b c : Nat} (hand : (s.channel x).inHand = some (.pair a b c)) : groupRuns s x = false := by
  unfold groupRuns
  rw [hand]
  cases (s.channel x).state <;> rfl

theorem groupRuns_quiet (quiet : (s.channel x).state ≠ .measuring) : groupRuns s x = false := by
  unfold groupRuns
  split
  next measuring _ => exact absurd measuring quiet
  next => rfl

/-- The group measurement of a run that is over runs on, its trunk as it stands. -/
theorem forcedEnd_group {th : Nat} (record : (s.bench x).record = some r) (run : (s.bench x).run = .continuity)
    (measuring : (s.channel x).state = .measuring) (away : Away s x) (hand : (s.channel x).inHand = some (.group th)) :
    (forcedEnd x s).channel x = s.channel x ∧ (forcedEnd x s).trunk x = s.trunk x ∧ ((forcedEnd x s).bench x).wait = .channel := by
  rw [forcedEnd_working record (.inl run), groupRuns_group measuring hand]
  refine ⟨sourceFailed_channel away, sourceFailed_trunk x r s, ?_⟩
  show (((sourceFailed x r s).setBench x _).bench x).wait = .channel
  rw [State.setBench_bench_same]

/-- A trunk that leaves SETTLED with its source at rest cuts the aperture that runs. -/
theorem leaveSettled_cuts (uncut : Uncut s x) (measuring : (s.channel x).state = .measuring) (alone : (s.channel x).isoPending = false) :
    leaveSettled x s = s.setChannel x { s.channel x with state := .idle, inHand := none, lastResult := some (.notTaken .cut) } := by
  rw [leaveSettled, cutEnergisation_uncut uncut, cutAperture]
  simp only [measuring, alone, if_true]
  rfl

/-- The aperture of a pair is cut as its trunk opens for the empty configuration. -/
theorem forcedEnd_pair {a b c : Nat} (record : (s.bench x).record = some r) (run : (s.bench x).run = .continuity)
    (measuring : (s.channel x).state = .measuring) (away : Away s x) (hand : (s.channel x).inHand = some (.pair a b c))
    (alone : (s.channel x).isoPending = false) (settled : (s.trunk x).state = .settled) (ready : s.matrix.state = .ready)
    (cold : s.hot x = false) (closed : Closed s x) :
    (forcedEnd x s).channel x = { s.channel x with state := .idle, inHand := none, lastResult := some (.notTaken .cut) } ∧
    ((forcedEnd x s).trunk x).state = .opening ∧ ((forcedEnd x s).trunk x).config = some .empty ∧
    ((forcedEnd x s).bench x).wait = .nothing := by
  rw [forcedEnd_working record (.inl run), groupRuns_pair hand]
  have channel := sourceFailed_channel (r := r) away
  have trunk := sourceFailed_trunk x r s
  have ground := sourceFailed_ground x r s
  obtain ⟨k, bench⟩ := sourceFailed_bench x r s
  have uncut := (gaveUp_sourceFailed x r s).uncut
  generalize sourceFailed x r s = u at *
  have stands : (u.trunk x).state = .settled := by rw [trunk, settled]
  have opens : (trunkRelays u x).opensSome (targetOf (u.window x) .empty) = true := by
    rw [targetOf_empty]
    exact closed_of_ground ground closed
  have opening := takeUp_opens (s := u) (c := .empty) (by rw [hot_of_ground ground, cold]) opens
  have took : arrive x .empty u = takeUp x .empty u := arrive_takes .empty (ready_of_ground ground ready) (.inr stands)
  have leaves : left x u = u.setChannel x { u.channel x with state := .idle, inHand := none, lastResult := some (.notTaken .cut) } := by
    rw [left, if_pos stands]
    exact leaveSettled_cuts uncut (by rw [channel, measuring]) (by rw [channel, alone])
  show (arrive x .empty u).1.channel x = _ ∧ ((arrive x .empty u).1.trunk x).state = _ ∧ ((arrive x .empty u).1.trunk x).config = _ ∧
    ((arrive x .empty u).1.bench x).wait = _
  rw [(handing_arrive x .empty u).bench, took, opening, leaves, channel, bench]
  refine ⟨State.setChannel_channel_same _ _ _, ?_, ?_, rfl⟩
  · rw [requestLoad_trunk, State.setTrunk_trunk_same]
  · rw [requestLoad_trunk, State.setTrunk_trunk_same]
    rfl

/-- The hot trunk of a step holds the empty configuration, with the source as the run end left it. -/
theorem forcedEnd_step (record : (s.bench x).record = some r) (run : (s.bench x).run = .insulation)
    (quiet : (s.channel x).state ≠ .measuring) (settled : (s.trunk x).state = .settled) (ready : s.matrix.state = .ready)
    (hot : s.hot x = true) :
    ((forcedEnd x s).trunk x).state = .guarded ∧ ((forcedEnd x s).trunk x).config = some .empty ∧
    (forcedEnd x s).hv = (sourceFailed x r s).hv := by
  rw [forcedEnd_working record (.inr run), groupRuns_quiet quiet]
  have trunk := sourceFailed_trunk x r s
  have ground := sourceFailed_ground x r s
  have uncut := (gaveUp_sourceFailed x r s).uncut
  generalize sourceFailed x r s = u at *
  have stands : (u.trunk x).state = .settled := by rw [trunk, settled]
  have took : arrive x .empty u = takeUp x .empty u := arrive_takes .empty (ready_of_ground ground ready) (.inr stands)
  have guards := takeUp_hot (s := u) .empty (by rw [hot_of_ground ground, hot])
  have same : (clearTrunk x u).hv = u.hv := (handing_arrive x .empty u).hv uncut
  refine ⟨?_, ?_, same⟩
  · show ((arrive x .empty u).1.trunk x).state = _
    rw [took, guards, State.setTrunk_trunk_same]
  · show ((arrive x .empty u).1.trunk x).config = _
    rw [took, guards, State.setTrunk_trunk_same]
    rfl

end

end Sys2Proof.Machine

/-! CHECK END of a failed check (R33, R39, R41, R42, R49, R58, R72, R112, R121, R128, R138). -/

namespace Sys2Proof.Machine

section
variable {x y z : Station} {s t u v : State} {p : Port} {r : RunRecord} {k : Check}

/-! ## The station as a whole -/

theorem discardCompensation_measuring (measuring : (s.channel x).state = .measuring) : discardCompensation x s = s := by
  unfold discardCompensation
  dsimp only
  rw [if_neg fun h => h.2 measuring]

theorem discardCompensation_waits {a b c : Nat} (hand : (s.channel x).inHand = some (.pair a b c)) (waits : (s.channel x).state = .compensating) :
    discardCompensation x s = s.setChannel x { s.channel x with state := .idle, inHand := none, lastResult := some .discarded } := by
  unfold discardCompensation
  simp [hand, waits, Channel.finish]

/-- The station's channel with a waiting compensation discarded. -/
theorem discardCompensation_eq (x : Station) (s : State) :
    ∃ c, discardCompensation x s = s.setChannel x c ∧ ((s.channel x).state ≠ .measuring → c.state ≠ .measuring) := by
  unfold discardCompensation
  dsimp only
  split
  · refine ⟨_, rfl, fun _ => ?_⟩
    unfold Channel.finish
    dsimp only
    split <;> nofun
  · exact ⟨s.channel x, (setChannel_self s x).symm, id⟩

/-- With the record gone the request that waited is refused. -/
theorem answerWaiting_refuses (waits : WaitsToStart s x) (record : (s.bench x).record = none) :
    ∃ w, answerWaiting x.port s = s.setPort x.port w ∧ ((s.port x.port).work = none → w = s.port x.port) ∧
      ∀ kind sel v d th l, (s.port x.port).work = some (.startInsulation kind sel v d th l) → (selectionOf kind sel).isSome = true →
        w.work = none ∧ w.response = some { status := .noRun, echo := 0x35, clamped := false, more := false, payload := .empty } := by
  cases work : (s.port x.port).work with
  | none => exact ⟨s.port x.port, by rw [answerWaiting_none work, setPort_self], fun _ => rfl, nofun⟩
  | some r =>
    obtain ⟨kind, sel, v, d, n, l, rfl⟩ := startInsulation_of_code (waits r work)
    cases named : selectionOf kind sel with
    | none =>
      have refused : serve x.port (.startInsulation kind sel v d n l) s = same .badArgument s :=
        (ofStation_port x s _).trans (serveStart_unselected named)
      refine ⟨_, by simp only [answerWaiting, work, handOn, refused]; rfl, nofun, fun kind' sel' v' d' n' l' same some => ?_⟩
      cases same
      rw [named] at some
      cases some
    | some c =>
      have refused : serve x.port (.startInsulation kind sel v d n l) s = same .noRun s :=
        (ofStation_port x s _).trans (serveStart_noRun named record)
      exact ⟨_, by simp only [answerWaiting, work, handOn, refused]; rfl, nofun, fun _ _ _ _ _ _ _ _ => ⟨rfl, rfl⟩⟩

/-- A failed check at a station: the forced end behind the discarded compensation, and its port answered. -/
theorem failStation_ends (waits : WaitsToStart s x) :
    ∃ w, failStation x s = (forcedEnd x (discardCompensation x s)).setPort x.port w ∧ ((s.port x.port).work = none → w = s.port x.port) ∧
      ∀ kind sel v d th l, (s.port x.port).work = some (.startInsulation kind sel v d th l) → (selectionOf kind sel).isSome = true →
        w.work = none ∧ w.response = some { status := .noRun, echo := 0x35, clamped := false, more := false, payload := .empty } := by
  have same : (forcedEnd x (discardCompensation x s)).port x.port = s.port x.port := by
    obtain ⟨c, discards, -⟩ := discardCompensation_eq x s
    rw [State.port, forcedEnd_ports, discards]
    rfl
  have waits' : WaitsToStart (forcedEnd x (discardCompensation x s)) x := by rwa [WaitsToStart, same]
  obtain ⟨w, answers, idle, starts⟩ := answerWaiting_refuses waits' (forcedEnd_record x _)
  rw [same] at idle starts
  exact ⟨w, answers, idle, starts⟩

theorem failed_failStation (waits : WaitsToStart s x) : Failed x s (failStation x s) := by
  obtain ⟨w, ends, idle, -⟩ := failStation_ends waits
  obtain ⟨c, discards, -⟩ := discardCompensation_eq x s
  have forced : Failed x s (forcedEnd x (discardCompensation x s)) := by
    rw [discards]
    exact (failed_forcedEnd x _).after (failed_setChannel x c s)
  have port : (forcedEnd x (discardCompensation x s)).port x.port = s.port x.port := by
    rw [State.port, forcedEnd_ports, discards]
    rfl
  rw [ends]
  refine (failed_setPort x w _ fun none => ?_).after forced
  rw [port] at none ⊢
  exact idle none

/-! ## Both stations -/

/-- Both stations have met the failed check: what that leaves of the part, and each of them before or after the other one. -/
structure BothFailed (v t : State) : Prop where
  store : t.store = v.store
  units : ∀ p, RaisedFrom (v.unit p) (t.unit p)
  ports : ∀ p, (v.port p).work = none → t.port p = v.port p
  each : ∀ x, (∃ u, Failed x.other v u ∧ WaitsToStart u x ∧ t = failStation x u) ∨ Failed x.other (failStation x v) t

theorem WaitsToStart.failed (h : WaitsToStart s x) (k : Failed y s t) (hy : x ≠ y) : WaitsToStart t x := by
  rw [WaitsToStart, k.ports x.port (.inl (port_apart hy))]
  exact h

theorem eachStation_fails (both : Bool) {v : State} (waits : ∀ x, WaitsToStart v x) :
    ∃ u, (u = v ∨ u = v.advanceFree) ∧ BothFailed u (eachStation both failStation v) := by
  obtain ⟨u, hu, either⟩ := eachStation_either both failStation v
  have waits (x : Station) : WaitsToStart u x := by rcases hu with rfl | rfl <;> exact waits x
  have whole (x : Station) : BothFailed u (failStation x.other (failStation x u)) := by
    have first := failed_failStation (waits x)
    have second := failed_failStation ((waits x.other).failed first (Station.other_ne x))
    refine ⟨second.store.trans first.store, fun p => (first.units p).trans (second.units p), fun p none => ?_, fun y => ?_⟩
    · have stands := first.ports p (.inr none)
      exact (second.ports p (.inr (by rw [stands]; exact none))).trans stands
    · by_cases own : y = x
      · subst own
        exact .inr second
      · have turned : y = x.other := Station.eq_other own
        subst turned
        exact .inl ⟨_, by rw [Station.other_other]; exact first, (waits x.other).failed first (Station.other_ne x), rfl⟩
  refine ⟨u, hu, ?_⟩
  rcases either .a with e | e <;> rw [e]
  · exact whole .a
  · exact whole .b

end

end Sys2Proof.Machine

/-! CHECK END of a failed check, up to the stations (R33, R39, R42, R121). -/

namespace Sys2Proof.Machine

section
variable {x y z : Station} {s t u v : State} {p : Port} {r : RunRecord} {k : Check}

theorem worked_raiseAll (n : Port → Nat) (s : State) : Worked s (raiseAll n s) :=
  (worked_raise _ _ _).after ((worked_raise _ _ _).after (worked_raise _ _ s))

/-- The store after a check that fails (R39, R42). -/
theorem judged_failed (fails : k.fault.isSome = true ∨ k.rem ≠ imageRead s.store.words 15) :
    s.store.judged k = { s.store with
      state := .faulted, check := none, crc := if k.fault.isSome then s.store.crc else some k.rem, passed := false, joined := [],
      active := s.store.active || s.store.armed,
      lastResult := some { kind := k.kind, fault := some ((k.fault.map (fun f => (f.reason, f.location))).getD (.checksum, .none)),
                           stored := imageRead s.store.words 15,
                           computed := if k.fault.isSome then none else some k.rem } } := by
  cases fault : k.fault with
  | none =>
    have differs : k.rem ≠ imageRead s.store.words 15 := fails.resolve_left (by rw [fault]; nofun)
    simp [Store.judged, Check.result, Check.verdict, fault, differs]
  | some f => simp [Store.judged, Check.result, Check.verdict, fault]

/-- The part with its check failed, the waiting READ IMAGE requests answered, and the alarm where it is active. -/
def warnedCheck (k : Check) (s : State) : State :=
  let u := raise .ps srcReferenceFault (answerReads (s.setStore (s.store.judged k)))
  if u.store.active then raiseAll (fun _ => srcAlarm) u else u

/-- The part with the asks of the open runs withdrawn too: what the stations meet. -/
def failedCheck (k : Check) (s : State) : State := withdrawAsks .b (withdrawAsks .a (warnedCheck k s))

theorem exec_checkEnd_fails (running : s.inReset = false) (checking : s.store.state = .checking) (check : s.store.check = some k)
    (complete : k.complete s.store.words = true) (faulted : (s.store.judged k).state = .faulted) :
    ∃ both, exec .checkEnd s = .next (eachStation both failStation (failedCheck k s)) := by
  refine ⟨runOpen (warnedCheck k s) .a && runOpen (warnedCheck k s) .b, (next_running checkEnds running).trans (congrArg _ ?_)⟩
  unfold checkEnds
  split
  next j hj =>
    cases check.symm.trans hj
    rw [if_pos ⟨checking, complete⟩]
    exact if_neg (by rw [show (s.setStore (s.store.judged k)).store.state = _ from faulted]; nofun)
  next none => cases check.symm.trans none

/-- The asks of a station with an open run are withdrawn, and the HV unit stands but for them (R121). -/
theorem withdrawAsks_eq (x : Station) (s : State) :
    ∃ h, withdrawAsks x s = s.setHv h ∧ h.supply = s.hv.supply ∧ h.holder = s.hv.holder ∧ h.quiet = s.hv.quiet ∧
      ∀ y, y ∈ h.line → y ∈ s.hv.line ∧ (y = x → (s.bench x).run = .noRun) := by
  unfold withdrawAsks
  split
  · exact ⟨s.hv.clearAsks x, rfl, rfl, rfl, rfl, fun y mem => ⟨(line_clearAsks s.hv x y mem).2, fun own =>
      absurd own (line_clearAsks s.hv x y mem).1⟩⟩
  next shut =>
    refine ⟨s.hv, rfl, rfl, rfl, rfl, fun y mem => ⟨mem, fun _ => ?_⟩⟩
    by_contra open_
    exact shut (decide_eq_true open_)

/-- The part as the stations find it after a failed check. -/
structure Doomed (k : Check) (s v : State) : Prop where
  store : v.store = s.store.judged k
  benches : v.benches = s.benches
  channels : v.channels = s.channels
  matrix : v.matrix = s.matrix
  supply : v.hv.supply = s.hv.supply
  holder : v.hv.holder = s.hv.holder
  quiet : v.hv.quiet = s.hv.quiet
  line : ∀ x, x ∈ v.hv.line → x ∈ s.hv.line ∧ (s.bench x).run = .noRun
  ports : ∀ p, ReadAnswered s.store.words (s.port p) (v.port p)
  units : ∀ p, RaisedFrom (s.unit p) (v.unit p)
  raised : Notified s v .ps srcReferenceFault
  alarmed : s.store.armed = true → ∀ p, (v.unit p).pending.getLsbD 15 = true

/-- The notices of a failed check, and nothing else behind its answers. -/
theorem warnedCheck_eq (faulted : (s.store.judged k).state = .faulted) (armed : s.store.armed = true → (s.store.judged k).active = true) :
    (∃ ports attention, warnedCheck k s = { s with store := s.store.judged k, ports := ports, attention := attention }) ∧
    (∀ p, ReadAnswered s.store.words (s.port p) ((warnedCheck k s).port p)) ∧
    (∀ p, RaisedFrom (s.unit p) ((warnedCheck k s).unit p)) ∧ Notified s (warnedCheck k s) .ps srcReferenceFault ∧
    (s.store.armed = true → ∀ p, ((warnedCheck k s).unit p).pending.getLsbD 15 = true) := by
  obtain ⟨⟨ports, answered⟩, reads⟩ := answerReads_reads (s := s.setStore (s.store.judged k)) (.inr faulted)
  have unit (p : Port) : (answerReads (s.setStore (s.store.judged k))).unit p = s.unit p := by rw [answered]; rfl
  have rise : Notified s (raise .ps srcReferenceFault (answerReads (s.setStore (s.store.judged k)))) .ps srcReferenceFault := by
    have raised := notified_raise .ps srcReferenceFault (answerReads (s.setStore (s.store.judged k))) (by decide)
    rwa [Notified, unit] at raised
  have units (p : Port) : RaisedFrom (s.unit p) ((raise .ps srcReferenceFault (answerReads (s.setStore (s.store.judged k)))).unit p) := by
    have one := (worked_raise .ps srcReferenceFault (answerReads (s.setStore (s.store.judged k)))).units p
    rwa [unit] at one
  have store : (raise .ps srcReferenceFault (answerReads (s.setStore (s.store.judged k)))).store = s.store.judged k := by rw [answered]; rfl
  unfold warnedCheck
  dsimp only
  split
  next active =>
    have all := worked_raiseAll (fun _ => srcAlarm) (raise .ps srcReferenceFault (answerReads (s.setStore (s.store.judged k))))
    refine ⟨⟨ports, (raiseAll (fun _ => srcAlarm) (raise .ps srcReferenceFault (answerReads (s.setStore (s.store.judged k))))).attention, ?_⟩,
      reads, fun p => (units p).trans (all.units p), rise.worked all, fun _ p => raiseAll_alarm _ ?_ p⟩
    · rw [answered]
      rfl
    · rw [all.store]
      exact active
  next calm =>
    refine ⟨⟨ports, (raise .ps srcReferenceFault (answerReads (s.setStore (s.store.judged k)))).attention, ?_⟩, reads, units, rise,
      fun on => absurd ?_ calm⟩
    · rw [answered]
      rfl
    · rw [store]
      exact armed on

theorem doomed_failedCheck (faulted : (s.store.judged k).state = .faulted) (armed : s.store.armed = true → (s.store.judged k).active = true) :
    Doomed k s (failedCheck k s) := by
  obtain ⟨⟨ports, attention, warned⟩, reads, units, raised, alarmed⟩ := warnedCheck_eq faulted armed
  obtain ⟨h, ha, supply, holder, quiet, line⟩ := withdrawAsks_eq .a (warnedCheck k s)
  obtain ⟨h', hb, supply', holder', quiet', line'⟩ := withdrawAsks_eq .b ((warnedCheck k s).setHv h)
  have eq : failedCheck k s = (warnedCheck k s).setHv h' := by
    rw [failedCheck, ha, hb]
    rfl
  have hv : (warnedCheck k s).hv = s.hv := by rw [warned]
  have bench (x : Station) : (warnedCheck k s).bench x = s.bench x := by rw [warned]; rfl
  rw [eq]
  refine ⟨by rw [State.setHv_store, warned], by rw [warned]; rfl,
    by rw [warned]; rfl, by rw [warned]; rfl,
    ?_, ?_, ?_, fun x mem => ?_, reads, units, raised, alarmed⟩
  · rw [← hv]; exact supply'.trans supply
  · rw [← hv]; exact holder'.trans holder
  · rw [← hv]; exact quiet'.trans quiet
  · obtain ⟨before, shutB⟩ := line' x mem
    obtain ⟨first, shutA⟩ := line x before
    rw [hv] at first
    refine ⟨first, ?_⟩
    cases x with
    | a =>
      rw [← bench]
      exact shutA rfl
    | b =>
      rw [← bench]
      exact shutB rfl

theorem Doomed.advance (h : Doomed k s v) : Doomed k s v.advanceFree :=
  ⟨h.store, h.benches, h.channels, h.matrix, h.supply, h.holder, h.quiet, h.line, h.ports, h.units, h.raised, h.alarmed⟩

theorem Doomed.waits (h : Doomed k s v) (works : WorkWaits s) (x : Station) : WaitsToStart v x := fun r work => by
  have port := h.ports x.port
  have unread : ∀ start count, (s.port x.port).work ≠ some (.readImage start count) := fun start count read => by
    have none := port.served start count read
    cases none.symm.trans work
  rw [port.stands unread] at work
  rcases works x.port r work with code | code
  · obtain ⟨start, count, rfl⟩ := readImage_of_code code
    exact absurd work (unread start count)
  · exact code

end

end Sys2Proof.Machine

/-! CHECK END of a failed check, station by station (R33, R39, R49, R58, R72, R112, R121, R128, R138). -/

namespace Sys2Proof.Machine

section
variable {x y z : Station} {s t u v : State} {p : Port} {r : RunRecord} {k : Check} {e : Energisation}

/-! ## One station -/

section
variable (waits : WaitsToStart s x)
include waits

theorem failStation_line (record : (s.bench x).record = some r) : x ∉ (failStation x s).hv.line ∧ (failStation x s).hv.asks x = false := by
  obtain ⟨w, ends, -, -⟩ := failStation_ends waits
  obtain ⟨c, discards, -⟩ := discardCompensation_eq x s
  rw [ends, discards]
  exact forcedEnd_line (s := s.setChannel x c) record

theorem failStation_run (h : (s.bench x).run ≠ .noRun → (s.bench x).record.isSome = true) : ((failStation x s).bench x).run = .noRun := by
  obtain ⟨w, ends, -, -⟩ := failStation_ends waits
  obtain ⟨c, discards, -⟩ := discardCompensation_eq x s
  rw [ends, discards]
  exact forcedEnd_run (s := s.setChannel x c) h

theorem failStation_bench (record : (s.bench x).record = some r) :
    ∃ k w, (failStation x s).bench x =
      { ((s.bench x).ended r.failed .referenceCheck .invalidReference).banked r.bank k with wait := w } := by
  obtain ⟨w, ends, -, -⟩ := failStation_ends waits
  obtain ⟨c, discards, -⟩ := discardCompensation_eq x s
  rw [ends, discards]
  exact forcedEnd_bench (s := s.setChannel x c) record

theorem failStation_port {kind locate : Byte} {sel volts dwell threshold : Word16}
    (work : (s.port x.port).work = some (.startInsulation kind sel volts dwell threshold locate))
    (named : (selectionOf kind sel).isSome = true) :
    ((failStation x s).port x.port).work = none ∧
    ((failStation x s).port x.port).response =
      some { status := .noRun, echo := 0x35, clamped := false, more := false, payload := .empty } := by
  obtain ⟨w, ends, -, starts⟩ := failStation_ends waits
  rw [ends, State.setPort_port_same]
  exact starts _ _ _ _ _ _ work named

/-- A compensation that waited ends with DISCARDED, and keeps code and raw value (R58). -/
theorem failStation_discards {a b c : Nat} (hand : (s.channel x).inHand = some (.pair a b c)) (compensating : (s.channel x).state = .compensating)
    (alone : (s.channel x).isoPending = false) :
    (failStation x s).channel x = { s.channel x with state := .idle, inHand := none, lastResult := some .discarded } := by
  obtain ⟨w, ends, -, -⟩ := failStation_ends waits
  rw [ends, discardCompensation_waits hand compensating, State.setPort_channel]
  refine (rests_forcedEnd x _ ?_).trans (State.setChannel_channel_same _ _ _)
  rw [AtRest, State.setChannel_channel_same]
  exact ⟨⟨nofun, nofun⟩, alone⟩

theorem failStation_group {th : Nat} (record : (s.bench x).record = some r) (run : (s.bench x).run = .continuity)
    (measuring : (s.channel x).state = .measuring) (away : Away s x) (hand : (s.channel x).inHand = some (.group th)) :
    (failStation x s).channel x = s.channel x ∧ (failStation x s).trunk x = s.trunk x ∧ ((failStation x s).bench x).wait = .channel := by
  obtain ⟨w, ends, -, -⟩ := failStation_ends waits
  rw [ends, discardCompensation_measuring measuring]
  exact forcedEnd_group record run measuring away hand

theorem failStation_pair {a b c : Nat} (record : (s.bench x).record = some r) (run : (s.bench x).run = .continuity)
    (measuring : (s.channel x).state = .measuring) (away : Away s x) (hand : (s.channel x).inHand = some (.pair a b c))
    (alone : (s.channel x).isoPending = false) (settled : (s.trunk x).state = .settled) (ready : s.matrix.state = .ready)
    (cold : s.hot x = false) (closed : Closed s x) :
    (failStation x s).channel x = { s.channel x with state := .idle, inHand := none, lastResult := some (.notTaken .cut) } ∧
    ((failStation x s).trunk x).state = .opening ∧ ((failStation x s).trunk x).config = some .empty ∧
    ((failStation x s).bench x).wait = .nothing := by
  obtain ⟨w, ends, -, -⟩ := failStation_ends waits
  rw [ends, discardCompensation_measuring measuring]
  exact forcedEnd_pair record run measuring away hand alone settled ready cold closed

theorem failStation_step (record : (s.bench x).record = some r) (run : (s.bench x).run = .insulation)
    (quiet : (s.channel x).state ≠ .measuring) (settled : (s.trunk x).state = .settled) (ready : s.matrix.state = .ready)
    (hot : s.hot x = true) :
    ((failStation x s).trunk x).state = .guarded ∧ ((failStation x s).trunk x).config = some .empty ∧
    ∃ c, (failStation x s).hv = (sourceFailed x r (s.setChannel x c)).hv := by
  obtain ⟨w, ends, -, -⟩ := failStation_ends waits
  obtain ⟨c, discards, rests⟩ := discardCompensation_eq x s
  rw [ends, discards]
  obtain ⟨state, config, hv⟩ := forcedEnd_step (s := s.setChannel x c) record run
    (by rw [State.setChannel_channel_same]; exact rests quiet) settled ready hot
  exact ⟨state, config, c, hv⟩

/-- The energisation of a step is cut with cause RUN-END and discharges, the release pending (R121, R128). -/
theorem failStation_energised (he : s.hv.energ = some e) (own : e.trunk = x) (held : s.hv.holder = some x) (sw : s.hv.sw = .to x)
    (stage : e.stage ≠ .isolating) (record : (s.bench x).record = some r) (run : (s.bench x).run = .insulation)
    (quiet : (s.channel x).state ≠ .measuring) (settled : (s.trunk x).state = .settled) (ready : s.matrix.state = .ready)
    (hot : s.hot x = true) :
    (failStation x s).hv.source = (if e.stage = .discharging then s.hv.source else .discharging) ∧
    (failStation x s).hv.path = (if e.stage = .discharging then s.hv.path else true) ∧
    (failStation x s).hv.energ = some { e with
      stage := .discharging, outcome := if e.stage = .discharging then e.outcome else some (e.outcome.getD (.cut .runEnd)) } ∧
    (failStation x s).hv.holder = some x ∧ (failStation x s).hv.reserved = false ∧ (failStation x s).hv.releasePending = true := by
  subst own
  obtain ⟨-, -, c, same⟩ := failStation_step waits record run quiet settled ready hot
  have over_ := runOver_runFailed e.trunk r (s.setChannel e.trunk c)
  rw [same]
  have unit : (runFailed e.trunk r (s.setChannel e.trunk c)).hv = s.hv := over_.hv
  have warm : (runFailed e.trunk r (s.setChannel e.trunk c)).hot e.trunk = true := by rw [State.hot, over_.matrix]; exact hot
  obtain ⟨source, path, energ, holder, reserved, pending, -⟩ := endHolding_discharges
    (s := runFailed e.trunk r (s.setChannel e.trunk c)) false (by rw [unit]; exact he) (by rw [unit]; exact held) (by rw [unit]; exact sw)
    warm stage
  rw [unit] at source path
  exact ⟨source, path, energ, holder, reserved, pending⟩

/-- A holder's run end with the switch OFF and nobody in line: the source is free (R121). -/
theorem failStation_releases (record : (s.bench x).record = some r) (held : s.hv.holder = some x) (off : s.hv.sw = .off)
    (idle : s.hv.energ = none) (line : x.other ∉ s.hv.line) :
    (failStation x s).hv.holder = none ∧ (failStation x s).hv.reserved = false ∧ (failStation x s).hv.releasePending = false ∧
    (failStation x s).hv.energ = none ∧ (s.hv.quiet = false → Notified s (failStation x s) x.port srcHvReleased) := by
  obtain ⟨w, ends, -, -⟩ := failStation_ends waits
  obtain ⟨c, discards, -⟩ := discardCompensation_eq x s
  rw [ends, discards]
  have over_ := runOver_runFailed x r (s.setChannel x c)
  have unit : (runFailed x r (s.setChannel x c)).hv = s.hv := over_.hv
  have away : Uncut (runFailed x r (s.setChannel x c)) x := Uncut.of_none (by rw [unit]; exact idle)
  obtain ⟨loud, -, free⟩ := endHolding_releases away (by rw [unit]; exact held) (by rw [unit]; exact off)
  have released := (free (.inr (by rw [unit]; simpa using line))).1
  rw [unit] at released
  have hv : (forcedEnd x (s.setChannel x c)).hv = (s.hv.givenUp x false).released ∧
      Worked (sourceFailed x r (s.setChannel x c)) (forcedEnd x (s.setChannel x c)) := by
    by_cases run : (s.bench x).run = .continuity ∨ (s.bench x).run = .insulation
    · rw [forcedEnd_working (s := s.setChannel x c) record run]
      have source : Uncut (sourceFailed x r (s.setChannel x c)) x := (gaveUp_sourceFailed x r _).uncut
      cases groupRuns (s.setChannel x c) x
      · exact ⟨((handing_arrive x .empty _).hv source).trans released, worked_clearTrunk x _⟩
      · exact ⟨released, worked_setBench rfl⟩
    · rw [forcedEnd_idle (s := s.setChannel x c) record run]
      exact ⟨released, .refl _⟩
  obtain ⟨hv, worked⟩ := hv
  rw [State.setPort_hv, hv]
  refine ⟨rfl, rfl, rfl, idle, fun quiet => ?_⟩
  have told : Notified s (sourceFailed x r (s.setChannel x c)) x.port srcHvReleased :=
    Notified.of_raised (over_.units x.port) (loud (by rw [unit]; exact quiet))
  have raised := told.worked worked
  exact raised

end

/-! ## One station among both -/

/-- Where a station's run is open, it ends as it does by itself: the other one leaves it alone. -/
theorem BothFailed.reach {P : Bench → Trunk → Channel → Prop} (both : BothFailed v t) (waits : WaitsToStart v x)
    (out : x ∉ v.hv.line) (record : (v.bench x).record = some r)
    (reach : ∀ u, WaitsToStart u x → u.bench x = v.bench x → u.trunk x = v.trunk x → u.channel x = v.channel x →
      u.matrix.ground = v.matrix.ground → (Away v x → Away u x) →
      P ((failStation x u).bench x) ((failStation x u).trunk x) ((failStation x u).channel x)) :
    P (t.bench x) (t.trunk x) (t.channel x) := by
  have apart := (Station.other_ne x).symm
  rcases both.each x with ⟨u, before, starts, rfl⟩ | after
  · obtain ⟨⟨bench, trunk, channel⟩, -, -⟩ := (before.unmoved x apart).aloof out
    exact reach u starts bench trunk channel before.ground (before.away x apart)
  · obtain ⟨⟨bench, trunk, channel⟩, -, -⟩ := (after.unmoved x apart).aloof (failStation_line waits record).1
    rw [bench, trunk, channel]
    exact reach v waits rfl rfl rfl rfl id

theorem BothFailed.asks (both : BothFailed v t) (waits : WaitsToStart v x) (out : x ∉ v.hv.line) (record : (v.bench x).record = some r) :
    t.hv.asks x = false := by
  have apart := (Station.other_ne x).symm
  rcases both.each x with ⟨u, before, starts, rfl⟩ | after
  · obtain ⟨⟨bench, -, -⟩, -, -⟩ := (before.unmoved x apart).aloof out
    exact (failStation_line starts (by rw [bench]; exact record)).2
  · obtain ⟨line, asks⟩ := failStation_line waits record
    exact ((after.unmoved x apart).aloof line).2.2 asks

theorem BothFailed.run (both : BothFailed v t) (waits : WaitsToStart v x)
    (h : (v.bench x).run ≠ .noRun → (v.bench x).record.isSome = true) : (t.bench x).run = .noRun := by
  have apart := (Station.other_ne x).symm
  rcases both.each x with ⟨u, before, starts, rfl⟩ | after
  · obtain ⟨run, record⟩ := (before.unmoved x apart).course
    exact failStation_run starts (by rw [run, record]; exact h)
  · exact (after.unmoved x apart).course.1.trans (failStation_run waits h)

theorem BothFailed.port {kind locate : Byte} {sel volts dwell threshold : Word16} (both : BothFailed v t) (waits : WaitsToStart v x)
    (work : (v.port x.port).work = some (.startInsulation kind sel volts dwell threshold locate))
    (named : (selectionOf kind sel).isSome = true) :
    (t.port x.port).work = none ∧
    (t.port x.port).response = some { status := .noRun, echo := 0x35, clamped := false, more := false, payload := .empty } := by
  have apart := port_apart (Station.other_ne x).symm
  rcases both.each x with ⟨u, before, starts, rfl⟩ | after
  · exact failStation_port starts (by rw [before.ports x.port (.inl apart)]; exact work) named
  · rw [after.ports x.port (.inl apart)]
    exact failStation_port waits work named

theorem BothFailed.discards {a b c : Nat} (both : BothFailed v t) (waits : WaitsToStart v x) (hand : (v.channel x).inHand = some (.pair a b c))
    (compensating : (v.channel x).state = .compensating) (alone : (v.channel x).isoPending = false) :
    t.channel x = { v.channel x with state := .idle, inHand := none, lastResult := some .discarded } := by
  have apart := (Station.other_ne x).symm
  rcases both.each x with ⟨u, before, starts, rfl⟩ | after
  · have still := (before.unmoved x apart).rests (by rw [AtRest, compensating]; exact ⟨⟨nofun, nofun⟩, alone⟩)
    rw [failStation_discards starts (by rw [still]; exact hand) (by rw [still]; exact compensating) (by rw [still]; exact alone), still]
  · have ends := failStation_discards waits hand compensating alone
    rw [(after.unmoved x apart).rests (by rw [AtRest, ends]; exact ⟨⟨nofun, nofun⟩, alone⟩), ends]

/-- The HV unit as a station that holds, or has held, leaves it, whichever station meets the failed check first. -/
theorem BothFailed.source {P : Hv → Prop} (both : BothFailed v t) (waits : WaitsToStart v x) (out : x ∉ v.hv.line)
    (held : v.hv.holder = some x) (away : Away v x.other)
    (same : ∀ h k : Hv, h.supply = k.supply → h.holder = k.holder → h.reserved = k.reserved → h.releasePending = k.releasePending → P k → P h)
    (reach : ∀ u, WaitsToStart u x → u.bench x = v.bench x → u.trunk x = v.trunk x → u.channel x = v.channel x →
      u.matrix.ground = v.matrix.ground → u.hv.supply = v.hv.supply → u.hv.holder = v.hv.holder → u.hv.quiet = v.hv.quiet →
      (x.other ∉ v.hv.line → x.other ∉ u.hv.line) →
      P (failStation x u).hv ∧ (failStation x u).hv.holder ≠ some x.other ∧ Away (failStation x u) x.other) :
    P t.hv := by
  have apart := (Station.other_ne x).symm
  have free : v.hv.holder ≠ some x.other := by
    rw [held]
    exact fun e => apart (Option.some.inj e)
  rcases both.each x with ⟨u, before, starts, rfl⟩ | after
  · obtain ⟨⟨bench, trunk, channel⟩, -, -⟩ := (before.unmoved x apart).aloof out
    obtain ⟨supply, holder, -, -, quiet⟩ := before.holding free away
    exact (reach u starts bench trunk channel before.ground supply holder quiet before.line).1
  · obtain ⟨reached, free', away'⟩ := reach v waits rfl rfl rfl rfl rfl rfl rfl id
    obtain ⟨supply, holder, reserved, pending, -⟩ := after.holding free' away'
    exact same _ _ supply holder reserved pending reached

end

end Sys2Proof.Machine

/-! CHECK END of a failed check as a whole (R33, R39, R41, R42, R72). -/

namespace Sys2Proof.Machine

section
variable {x y z : Station} {s t u v : State} {p : Port} {r : RunRecord} {k : Check} {e : Energisation}

theorem Doomed.bench (h : Doomed k s v) (x : Station) : v.bench x = s.bench x := congrArg (fun b : Both Bench => b.get x) h.benches

theorem Doomed.channel (h : Doomed k s v) (x : Station) : v.channel x = s.channel x := congrArg (fun c : Both Channel => c.get x) h.channels

theorem Doomed.trunk (h : Doomed k s v) (x : Station) : v.trunk x = s.trunk x := congrArg (fun m : Matrix => m.trunks.get x) h.matrix

theorem Doomed.hot (h : Doomed k s v) (x : Station) : v.hot x = s.hot x := by rw [State.hot, h.matrix]; rfl

theorem Doomed.closed (h : Doomed k s v) (closed : Closed s x) : Closed v x := closed_of_ground (by rw [h.matrix]) closed

theorem Doomed.energ (h : Doomed k s v) : v.hv.energ = s.hv.energ := Hv.energ_of_supply h.supply

theorem Doomed.sw (h : Doomed k s v) : v.hv.sw = s.hv.sw := congrArg (fun c => c.2.2.1) h.supply

theorem Doomed.out (h : Doomed k s v) (run : (s.bench x).run ≠ .noRun) : x ∉ v.hv.line := fun mem => run (h.line x mem).2

/-! ## The clauses of R49, R58, R72 and R121 -/

section
variable (found : Doomed k s v) (both : BothFailed v t) (waits : ∀ x, WaitsToStart v x) (record : (s.bench x).record = some r)
include found both waits record

theorem doomed_counted (run : (s.bench x).run ≠ .noRun) :
    (t.bench x).counters = { (s.bench x).counters with
      closed := (s.bench x).counters.closed + 1, invalid := (s.bench x).counters.invalid + 1 } ∧
    (t.bench x).summary = some { serial := r.serial, bank := r.bank, verdict := .invalidReference, cause := .referenceCheck } ∧
    (t.bench x).step = none ∧ (t.bench x).queued = none ∧ (t.bench x).locator = [] := by
  rw [← found.bench] at record ⊢
  refine both.reach (P := fun b _ _ => b.counters = _ ∧ b.summary = _ ∧ b.step = none ∧ b.queued = none ∧ b.locator = [])
    (waits x) (found.out run) record fun u starts bench _ _ _ _ => ?_
  obtain ⟨k, w, ended⟩ := failStation_bench starts (by rw [bench]; exact record)
  rw [ended, bench]
  exact ⟨rfl, rfl, rfl, rfl, rfl⟩

theorem doomed_group {th : Nat} (run : (s.bench x).run = .continuity) (measuring : (s.channel x).state = .measuring)
    (away : Away s x) (hand : (s.channel x).inHand = some (.group th)) :
    t.channel x = s.channel x ∧ t.trunk x = s.trunk x ∧ (t.bench x).wait = .channel := by
  refine both.reach (P := fun b t c => c = _ ∧ t = _ ∧ b.wait = .channel) (waits x) (found.out (by rw [run]; nofun))
    (by rw [found.bench]; exact record) fun u starts bench trunk channel _ apart => ?_
  have away' : Away v x := by rw [Away, found.energ]; exact away
  rw [found.bench] at bench
  rw [found.channel] at channel
  have runs := failStation_group (s := u) starts (by rw [bench]; exact record) (by rw [bench]; exact run) (by rw [channel]; exact measuring)
    (apart away') (by rw [channel]; exact hand)
  rwa [channel, trunk, found.trunk] at runs

theorem doomed_pair {a b c : Nat} (run : (s.bench x).run = .continuity) (measuring : (s.channel x).state = .measuring)
    (away : Away s x) (hand : (s.channel x).inHand = some (.pair a b c)) (alone : (s.channel x).isoPending = false)
    (settled : (s.trunk x).state = .settled) (ready : s.matrix.state = .ready) (cold : s.hot x = false) (closed : Closed s x) :
    t.channel x = { s.channel x with state := .idle, inHand := none, lastResult := some (.notTaken .cut) } ∧
    (t.trunk x).state = .opening ∧ (t.trunk x).config = some .empty ∧ (t.bench x).wait = .nothing := by
  refine both.reach (P := fun b t c => c = _ ∧ t.state = .opening ∧ t.config = some .empty ∧ b.wait = .nothing) (waits x)
    (found.out (by rw [run]; nofun)) (by rw [found.bench]; exact record) fun u starts bench trunk channel ground apart => ?_
  have away' : Away v x := by rw [Away, found.energ]; exact away
  rw [found.matrix] at ground
  rw [found.bench] at bench
  rw [found.channel] at channel
  rw [found.trunk] at trunk
  have cuts := failStation_pair (s := u) starts (by rw [bench]; exact record) (by rw [bench]; exact run) (by rw [channel]; exact measuring)
    (apart away') (by rw [channel]; exact hand) (by rw [channel]; exact alone) (by rw [trunk]; exact settled)
    (ready_of_ground ground ready) (by rw [hot_of_ground ground]; exact cold) (closed_of_ground ground closed)
  rwa [channel] at cuts

section
variable (run : (s.bench x).run = .insulation) (quiet : (s.channel x).state ≠ .measuring) (settled : (s.trunk x).state = .settled)
  (ready : s.matrix.state = .ready) (hot : s.hot x = true)
include run quiet settled ready hot

theorem doomed_guarded : (t.trunk x).state = .guarded ∧ (t.trunk x).config = some .empty := by
  refine both.reach (P := fun _ t _ => t.state = .guarded ∧ t.config = some .empty) (waits x) (found.out (by rw [run]; nofun))
    (by rw [found.bench]; exact record) fun u starts bench trunk channel ground _ => ?_
  rw [found.matrix] at ground
  rw [found.bench] at bench
  rw [found.channel] at channel
  rw [found.trunk] at trunk
  obtain ⟨state, config, -⟩ := failStation_step (s := u) starts (by rw [bench]; exact record) (by rw [bench]; exact run)
    (by rw [channel]; exact quiet) (by rw [trunk]; exact settled) (ready_of_ground ground ready) (by rw [hot_of_ground ground]; exact hot)
  exact ⟨state, config⟩

theorem doomed_discharges (he : s.hv.energ = some e) (own : e.trunk = x) (held : s.hv.holder = some x) (sw : s.hv.sw = .to x)
    (stage : e.stage ≠ .isolating) :
    t.hv.source = (if e.stage = .discharging then s.hv.source else .discharging) ∧
    t.hv.path = (if e.stage = .discharging then s.hv.path else true) ∧
    t.hv.energ = some { e with
      stage := .discharging, outcome := if e.stage = .discharging then e.outcome else some (e.outcome.getD (.cut .runEnd)) } ∧
    t.hv.holder = some x ∧ t.hv.reserved = false ∧ t.hv.releasePending = true := by
  have apart := (Station.other_ne x).symm
  have away : Away v x.other := fun f hf => by
    rw [found.energ, he] at hf
    cases hf
    rw [own]
    exact apart
  refine both.source (P := fun h => h.source = _ ∧ h.path = _ ∧ h.energ = _ ∧ h.holder = _ ∧ h.reserved = _ ∧ h.releasePending = _)
    (waits x) (found.out (by rw [run]; nofun)) (found.holder.trans held) away ?_
    fun u starts bench trunk channel ground supply holder _ _ => ?_
  · rintro h k supply holder reserved pending ⟨source, path, energ, held, kept, due⟩
    simp only [Hv.supply, Prod.mk.injEq] at supply
    obtain ⟨source', energ', -, -, path'⟩ := supply
    exact ⟨source'.trans source, path'.trans path, energ'.trans energ, holder.trans held, reserved.trans kept, pending.trans due⟩
  · rw [found.matrix] at ground
    rw [found.bench] at bench
    rw [found.channel] at channel
    rw [found.trunk] at trunk
    have supplied := supply.trans found.supply
    simp only [Hv.supply, Prod.mk.injEq] at supplied
    obtain ⟨source', energ', sw', -, path'⟩ := supplied
    have cut := failStation_energised (s := u) (e := e) starts (by rw [energ']; exact he) own (by rw [holder, found.holder]; exact held)
      (by rw [sw']; exact sw) stage (by rw [bench]; exact record) (by rw [bench]; exact run) (by rw [channel]; exact quiet)
      (by rw [trunk]; exact settled) (ready_of_ground ground ready) (by rw [hot_of_ground ground]; exact hot)
    rw [source', path'] at cut
    obtain ⟨source, path, energ, held', reserved, due⟩ := cut
    refine ⟨⟨source, path, energ, held', reserved, due⟩, ?_, fun f hf => ?_⟩
    · rw [held']
      exact fun e => apart (Option.some.inj e)
    · rw [energ] at hf
      cases hf
      show e.trunk ≠ x.other
      rw [own]
      exact apart

end

theorem doomed_releases (run : (s.bench x).run ≠ .noRun) (held : s.hv.holder = some x) (off : s.hv.sw = .off) (idle : s.hv.energ = none)
    (line : x.other ∉ s.hv.line) :
    t.hv.holder = none ∧ t.hv.reserved = false ∧ t.hv.releasePending = false ∧
    (s.hv.quiet = false → Notified s t x.port srcHvReleased) := by
  have apart := (Station.other_ne x).symm
  have away : Away v x.other := Away.of_none (found.energ.trans idle)
  have free : x.other ∉ v.hv.line := fun mem => line (found.line _ mem).1
  have releases (u : State) (starts : WaitsToStart u x) (bench : u.bench x = v.bench x) (supply : u.hv.supply = v.hv.supply)
      (holder : u.hv.holder = v.hv.holder) (out : x.other ∉ u.hv.line) :=
    failStation_releases (s := u) (r := r) starts (by rw [bench, found.bench]; exact record) (by rw [holder, found.holder]; exact held)
      ((congrArg (fun c => c.2.2.1) supply).trans (found.sw.trans off)) (by rw [Hv.energ_of_supply supply, found.energ]; exact idle) out
  obtain ⟨gone, kept, due⟩ : t.hv.holder = none ∧ t.hv.reserved = false ∧ t.hv.releasePending = false := by
    refine both.source (P := fun h => h.holder = none ∧ h.reserved = false ∧ h.releasePending = false)
      (waits x) (found.out run) (found.holder.trans held) away ?_ fun u starts bench _ _ _ supply holder _ out => ?_
    · rintro h k - holder reserved pending ⟨gone, kept, due⟩
      exact ⟨holder.trans gone, reserved.trans kept, pending.trans due⟩
    · obtain ⟨gone, kept, due, energ, -⟩ := releases u starts bench supply holder (out free)
      exact ⟨⟨gone, kept, due⟩, by rw [gone]; nofun, Away.of_none energ⟩
  refine ⟨gone, kept, due, fun loud => Notified.of_raised (found.units x.port) ?_⟩
  rcases both.each x with ⟨u, before, starts, rfl⟩ | after
  · obtain ⟨⟨bench, -, -⟩, -, -⟩ := (before.unmoved x apart).aloof (found.out run)
    obtain ⟨supply, holder, -, -, quiet⟩ := before.holding (by rw [found.holder, held]; exact fun e => apart (Option.some.inj e)) away
    obtain ⟨-, -, -, -, told⟩ := releases u starts bench supply holder (before.line free)
    exact Notified.of_raised (before.units x.port) (told (by rw [quiet, found.quiet]; exact loud))
  · obtain ⟨-, -, -, -, told⟩ := releases v (waits x) rfl rfl rfl free
    exact (told (by rw [found.quiet]; exact loud)).raised (after.units x.port)

end

/-- Settles O30: the store and the notices at once, and each station by the order in which the two are ended. -/
theorem checkFailEndsRuns : Obligations.CheckFailEndsRuns := by
  intro s k running works checking check complete fails records
  have judged := judged_failed fails
  have faulted : (s.store.judged k).state = .faulted := by rw [judged]
  obtain ⟨both, exec⟩ := exec_checkEnd_fails running checking check complete faulted
  have found := doomed_failedCheck (k := k) (s := s) faulted fun armed => by rw [judged]; simp [armed]
  obtain ⟨v, hv, ended⟩ := eachStation_fails both fun x => found.waits works x
  have found : Doomed k s v := by
    rcases hv with rfl | rfl
    · exact found
    · exact found.advance
  have waits (x : Station) := found.waits works x
  have open_ (x : Station) (run : (s.bench x).run ≠ .noRun) : ∃ r, (s.bench x).record = some r := Option.isSome_iff_exists.mp (records x run)
  refine ⟨_, exec, by rw [ended.store, found.store, judged], found.raised.raised (ended.units _),
    fun armed p => (ended.units p).pending (found.alarmed armed p), fun p start count read h1 h2 h3 => ?_,
    fun x p q k hand waiting alone => ?_, fun x run measuring away => ?_, fun x run => ?_, fun x run held off idle line => ?_,
    fun x kind sel volts d th l work named => ?_, fun x => ⟨?_, fun run => ?_⟩⟩
  · have port := found.ports p
    have none := port.served start count read
    rw [ended.ports p none]
    exact ⟨none, port.words start count read h1 h2 h3⟩
  · have discards := ended.discards (waits x) (by rw [found.channel]; exact hand) (by rw [found.channel]; exact waiting)
      (by rw [found.channel]; exact alone)
    rwa [found.channel] at discards
  · obtain ⟨r, record⟩ := open_ x (by rw [run]; nofun)
    exact ⟨fun th hand => doomed_group found ended waits record run measuring away hand,
      fun p q k hand alone settled ready cold closed => doomed_pair found ended waits record run measuring away hand alone settled ready cold closed⟩
  · have works : (s.bench x).run ≠ .noRun := by rw [run]; nofun
    obtain ⟨r, record⟩ := open_ x works
    obtain ⟨-, -, step, queued, locator⟩ := doomed_counted found ended waits record works
    refine ⟨step, queued, locator, ended.asks (waits x) (found.out works) (by rw [found.bench]; exact record),
      fun ready settled quiet hot => ?_⟩
    obtain ⟨state, config⟩ := doomed_guarded found ended waits record run quiet settled ready hot
    exact ⟨state, config, fun e he own held sw stage _ =>
      doomed_discharges found ended waits record run quiet settled ready hot he own held sw stage⟩
  · obtain ⟨r, record⟩ := open_ x run
    exact doomed_releases found ended waits record run held off idle line
  · have port := (found.ports x.port).stands (by rw [work]; nofun)
    exact ended.port (waits x) (by rw [port]; exact work) named
  · exact ended.run (waits x) (by rw [found.bench]; exact records x)
  · obtain ⟨r, record⟩ := open_ x run
    obtain ⟨counters, summary, -⟩ := doomed_counted found ended waits record run
    exact ⟨counters, r, record, summary⟩

end

end Sys2Proof.Machine

/-! The fall of a monitor with no source on its trunk (R5, R6, R10, R13, R16). -/

namespace Sys2Proof.Machine

section
variable {x y z : Station} {s t u w : State} {p : Port} {c : Configuration}

/-! ## The chain behind a fall -/

/-- Between s and t nothing has moved but the chain, and the state of the matrix. -/
structure Chained (s t : State) : Prop where
  blocks : t = s.setMatrix t.matrix
  trunks : t.matrix.trunks = s.matrix.trunks
  image : t.matrix.image = s.matrix.image
  hot : t.matrix.hot = s.matrix.hot

namespace Chained

theorem refl (s : State) : Chained s s := ⟨rfl, rfl, rfl, rfl⟩

theorem trans (h : Chained s t) (k : Chained t u) : Chained s u :=
  ⟨by rw [k.blocks, h.blocks]; rfl, k.trunks.trans h.trunks, k.image.trans h.image, k.hot.trans h.hot⟩

/-- The last operation first: it fixes the state in between. -/
theorem after (k : Chained t u) (h : Chained s t) : Chained s u := h.trans k

section
variable (h : Chained s t)
include h

theorem hv : t.hv = s.hv := by rw [h.blocks]; rfl
theorem bench (x : Station) : t.bench x = s.bench x := by rw [h.blocks]; rfl
theorem channel (x : Station) : t.channel x = s.channel x := by rw [h.blocks]; rfl
theorem unit (p : Port) : t.unit p = s.unit p := by rw [h.blocks]; rfl
theorem store : t.store = s.store := by rw [h.blocks]; rfl
theorem trunk (x : Station) : t.trunk x = s.trunk x := congrArg (fun v : Both Trunk => v.get x) h.trunks
theorem hotAt (x : Station) : t.hot x = s.hot x := congrArg (fun v : Both Bool => v.get x) h.hot

end

end Chained

theorem chained_chainStart (s : State) : Chained s (chainStart s) := by
  obtain ⟨ground, -, trunks⟩ := arbitrate_frame s.matrix
  simp only [Matrix.ground, Prod.mk.injEq] at ground
  obtain ⟨-, image, -, -, -, hot, -⟩ := ground
  exact ⟨rfl, trunks, image, hot⟩

theorem chained_requestHousekeeping (k : Housekeeping) (s : State) : Chained s (requestHousekeeping k s) := by
  unfold requestHousekeeping
  split
  · exact .refl s
  · exact (chained_chainStart _).after ⟨rfl, rfl, rfl, rfl⟩

theorem chained_clearingPass (s : State) : Chained s (clearingPass s) := by
  unfold clearingPass
  split
  · exact (chained_requestHousekeeping .clearing _).after ⟨rfl, rfl, rfl, rfl⟩
  · exact .refl s

/-- What the clearing pass and the arbiter leave behind a fall. -/
theorem chained_fall (s : State) : Chained s (chainStart (clearingPass s)) := (chained_chainStart _).after (chained_clearingPass s)

/-- A chain that is busy goes on with its load, and with what waits for it. -/
theorem clearingPass_busy {l : ChainLoad} (h : s.matrix.load = some l) :
    (clearingPass s).matrix.load = some l ∧ (clearingPass s).matrix.slots = s.matrix.slots ∧
    (clearingPass s).matrix.lastServed = s.matrix.lastServed := by
  unfold clearingPass
  split
  · unfold requestHousekeeping
    split
    · exact ⟨h, rfl, rfl⟩
    · rw [chainStart_busy (l := l)]
      · exact ⟨h, rfl, rfl⟩
      · exact h
  · exact ⟨h, rfl, rfl⟩

theorem LoadRequested.clearingPass {r : Relays} (h : LoadRequested s t x r) : LoadRequested s (clearingPass t) x r := by
  obtain ⟨starts, waits⟩ := h
  refine ⟨fun free none alone => ?_, fun l busy => ?_⟩
  · obtain ⟨load, slot, served⟩ := starts free none alone
    obtain ⟨load', slots', served'⟩ := clearingPass_busy load
    rw [load', slots', served']
    exact ⟨rfl, slot, served⟩
  · obtain ⟨load, slot, served⟩ := waits l busy
    obtain ⟨load', slots', served'⟩ := clearingPass_busy load
    rw [load', slots', served']
    exact ⟨rfl, slot, served⟩

theorem TakesUp.clearingPass {b : Option Configuration} (h : TakesUp s t x c b) : TakesUp s (clearingPass t) x c b := by
  have trunk := (chained_clearingPass t).trunk x
  rintro g hg now hnow k hk
  obtain ⟨hot, cold⟩ := h g hg now hnow k hk
  refine ⟨fun e => trunk.trans (hot e), fun e => ?_⟩
  obtain ⟨opens, closes, settles⟩ := cold e
  exact ⟨fun o => ⟨trunk.trans (opens o).1, LoadRequested.clearingPass (opens o).2⟩,
    fun o k => ⟨trunk.trans (closes o k).1, LoadRequested.clearingPass (closes o k).2⟩,
    fun o k n => trunk.trans (settles o k n)⟩

/-! ## Without a source -/

/-- No energisation stands, and no FAULTED source. -/
def Sourceless (h : Hv) : Prop := h.energ = none ∧ h.source ≠ .faulted

theorem sourceCold_sourceless (none_ : Sourceless s.hv) : sourceCold x s = s := by
  obtain ⟨energ, source⟩ := none_
  unfold sourceCold
  split
  next e he => cases energ.symm.trans he
  next => exact if_neg fun h => source h.1

/-- With no source on its trunk a fall is the trunk's alone, in either order (log 6). -/
theorem bothCold_sourceless (none_ : Sourceless u.hv) (kept : (trunkCold x u.advanceFree).hv = u.hv) :
    ∃ w, (w = u ∨ w = u.advanceFree) ∧ bothCold x u = trunkCold x w := by
  unfold bothCold
  split
  · refine ⟨u.advanceFree, .inr rfl, ?_⟩
    split
    · rw [sourceCold_sourceless (s := u.advanceFree) none_]
    · rw [sourceCold_sourceless (by rw [kept]; exact none_)]
  · exact ⟨u, .inl rfl, by rw [sourceCold_sourceless none_]⟩

theorem exec_monitorFall (running : s.inReset = false) (hot : s.hot x = true) :
    exec (.monitorFall x) s = .next (chainStart (clearingPass (bothCold x (setHot x false s)))) := by
  rw [show exec (.monitorFall x) s = .next (monitorFalls x s) from next_running (monitorFalls x) running, monitorFalls, if_pos hot]

theorem worked_sourceCold (x : Station) (s : State) : Worked s (sourceCold x s) := by
  unfold sourceCold
  split
  · split
    · split
      · exact worked_tellEngine (worked_endDischarge _ _ _)
      · exact .refl s
    all_goals exact .refl s
  · split
    · exact (worked_releaseHolder _).after ((worked_leaveIsolation _ _).after (worked_setHv rfl))
    · exact .refl s

theorem worked_trunkCold (x : Station) (s : State) : Worked s (trunkCold x s) := worked_tellTrunk x (worked_unguardTrunk x s)

theorem bothCold_ground (x : Station) (s : State) : (bothCold x s).matrix.ground = s.matrix.ground := by
  unfold bothCold
  split
  · split
    · exact ((worked_trunkCold _ _).after (worked_sourceCold x s.advanceFree)).ground
    · exact ((worked_sourceCold _ _).after (worked_trunkCold x s.advanceFree)).ground
  · exact ((worked_trunkCold _ _).after (worked_sourceCold x s)).ground

/-- A fall leaves the relay image, and the monitor cold. -/
theorem fall_image (x : Station) (s : State) :
    (chainStart (clearingPass (bothCold x (setHot x false s)))).hot x = false ∧
    (chainStart (clearingPass (bothCold x (setHot x false s)))).matrix.image = s.matrix.image := by
  have chain := chained_fall (bothCold x (setHot x false s))
  have ground := bothCold_ground x (setHot x false s)
  have cold := hot_of_ground ground x
  simp only [Matrix.ground, Prod.mk.injEq] at ground
  obtain ⟨-, image, -⟩ := ground
  exact ⟨(chain.hotAt x).trans (cold.trans (setHot_hot x false s)), chain.image.trans image⟩

/-! ## The GUARDED trunk (R13, R16) -/

section
variable (guarded : (s.trunk x).state = .guarded)
include guarded

theorem trunkCold_allOpen (part : (s.trunk x).part = .deviceAllOpen) :
    trunkCold x s = s.setTrunk x { s.trunk x with state := .opening } := by
  simp only [trunkCold, unguardTrunk, guarded, part, if_true]
  rfl

section
variable (part : (s.trunk x).part ≠ .deviceAllOpen)
include part

theorem trunkCold_loads (own : ownLoadRuns s x = true) :
    trunkCold x s = s.setTrunk x { s.trunk x with state := .opening, part := .earlierLoad } := by
  simp only [trunkCold, unguardTrunk, guarded, part, own, if_true, if_false]
  rfl

variable (own : ownLoadRuns s x = false) (config : (s.trunk x).config = some c)
include own config

theorem unguardTrunk_takes :
    unguardTrunk x s = if (takeUp x c s).2 then completeConfig x false (takeUp x c s).1 else ((takeUp x c s).1, none) := by
  simp only [unguardTrunk, guarded, part, own, config, if_true, if_false, Bool.false_eq_true]
  rfl

theorem trunkCold_takes (later : ¬ DoneAtOnce s x c) : trunkCold x s = (takeUp x c s).1 := by
  have going : ¬ (takeUp x c s).2 = true := fun done => later ((takeUp_done_iff x c s).mp done)
  rw [trunkCold, unguardTrunk_takes guarded part own config, if_neg going]
  rfl

/-- The empty configuration complete at once, with nothing behind it and no engine that waits. -/
theorem trunkCold_rests (done : DoneAtOnce s x c) (alone : (s.trunk x).waiting = none) (idle : (s.bench x).wait = .nothing) :
    trunkCold x s = s.setTrunk x (takingUp x c s).rest := by
  have took := takeUp_done c done
  rw [left_unsettled (by rw [guarded]; nofun)] at took
  have ends := completeConfig_rests (s := s.setTrunk x (takingUp x c s).rest) (x := x) (by rw [State.setTrunk_trunk_same]; exact alone)
  rw [State.setTrunk_trunk_same] at ends
  have twice : (s.setTrunk x (takingUp x c s).rest).setTrunk x (takingUp x c s).rest.rest = s.setTrunk x (takingUp x c s).rest := by
    cases x <;> rfl
  rw [trunkCold, unguardTrunk_takes guarded part own config, took, if_pos rfl, ends, twice]
  unfold tellTrunk onTrunkDone
  simp only [State.setTrunk_bench, idle]

end

/-- A GUARDED trunk takes a configuration up with the HV unit as it stands. -/
theorem takeUp_guarded : (takeUp x c s).1.hv = s.hv := ((handing_takeUp x c s).settled (by rw [guarded]; nofun)).1

end

/-! ## The fall (R10, R13, R16) -/

section
variable (running : s.inReset = false) (hot : s.hot x = true) (none_ : Sourceless s.hv) (guarded : (s.trunk x).state = .guarded)
include running hot none_ guarded

theorem fall_allOpen (part : (s.trunk x).part = .deviceAllOpen) :
    ∃ t, exec (.monitorFall x) s = .next t ∧ t.hot x = false ∧ t.trunk x = { s.trunk x with state := .opening } ∧
      t.matrix.image = s.matrix.image := by
  obtain ⟨cold, image⟩ := fall_image x s
  refine ⟨_, exec_monitorFall running hot, cold, ?_, image⟩
  obtain ⟨w, hw, both⟩ := bothCold_sourceless (x := x) (u := setHot x false s) none_
    (by rw [trunkCold_allOpen (s := (setHot x false s).advanceFree) guarded part]; rfl)
  have opens : trunkCold x w = w.setTrunk x { w.trunk x with state := .opening } := by
    rcases hw with rfl | rfl <;> exact trunkCold_allOpen guarded part
  rw [(chained_fall _).trunk, both, opens, State.setTrunk_trunk_same]
  rcases hw with rfl | rfl <;> rfl

theorem fall_loads (part : (s.trunk x).part ≠ .deviceAllOpen) (own : ownLoadRuns s x = true) :
    ∃ t, exec (.monitorFall x) s = .next t ∧ t.hot x = false ∧
      t.trunk x = { s.trunk x with state := .opening, part := .earlierLoad } ∧ t.matrix.image = s.matrix.image ∧
      t.matrix.load = s.matrix.load ∧ t.benches = s.benches := by
  obtain ⟨cold, image⟩ := fall_image x s
  refine ⟨_, exec_monitorFall running hot, cold, ?_⟩
  obtain ⟨w, hw, both⟩ := bothCold_sourceless (x := x) (u := setHot x false s) none_
    (by rw [trunkCold_loads (s := (setHot x false s).advanceFree) guarded part own]; rfl)
  have opens : trunkCold x w = w.setTrunk x { w.trunk x with state := .opening, part := .earlierLoad } := by
    rcases hw with rfl | rfl <;> exact trunkCold_loads guarded part own
  have same : w.matrix.load = s.matrix.load ∧ w.benches = s.benches ∧ w.trunk x = s.trunk x := by
    rcases hw with rfl | rfl <;> exact ⟨rfl, rfl, rfl⟩
  obtain ⟨load, benches, trunk⟩ := same
  have chain := chained_fall (bothCold x (setHot x false s))
  have busy : ∃ l, s.matrix.load = some l := by
    cases h : s.matrix.load with
    | none => simp [ownLoadRuns, h] at own
    | some l => exact ⟨l, rfl⟩
  obtain ⟨l, hl⟩ := busy
  have loading : (bothCold x (setHot x false s)).matrix.load = some l := by rw [both, opens]; exact load.trans hl
  obtain ⟨still, -, -⟩ := clearingPass_busy loading
  refine ⟨?_, image, ?_, ?_⟩
  · rw [chain.trunk, both, opens, State.setTrunk_trunk_same, trunk]
  · rw [chainStart_busy still, still, hl]
  · rw [chain.blocks, both, opens]
    exact benches

section
variable (part : (s.trunk x).part ≠ .deviceAllOpen) (own : ownLoadRuns s x = false) (config : (s.trunk x).config = some c)
include part own config

theorem fall_takes (later : ¬ DoneAtOnce (setHot x false s) x c) :
    ∃ t, exec (.monitorFall x) s = .next t ∧ TakesUp (setHot x false s) t x c (s.trunk x).waiting ∧ t.hot x = false ∧
      t.matrix.image = s.matrix.image := by
  obtain ⟨cold, image⟩ := fall_image x s
  refine ⟨_, exec_monitorFall running hot, ?_, cold, image⟩
  obtain ⟨w, hw, both⟩ := bothCold_sourceless (x := x) (u := setHot x false s) none_ (by
    rw [trunkCold_takes (s := (setHot x false s).advanceFree) guarded part own config later]
    exact takeUp_guarded (s := (setHot x false s).advanceFree) guarded)
  have takes : trunkCold x w = (takeUp x c w).1 := by
    rcases hw with rfl | rfl <;> exact trunkCold_takes guarded part own config later
  have took : TakesUp (setHot x false s) (takeUp x c w).1 x c (s.trunk x).waiting := by
    rcases hw with rfl | rfl
    · exact takesUp_takeUp x c (setHot x false s)
    · exact takesUp_takeUp x c (setHot x false s).advanceFree
  rw [both, takes]
  exact TakesUp.chainStart (TakesUp.clearingPass took)

theorem fall_rests (done : DoneAtOnce (setHot x false s) x c) (alone : (s.trunk x).waiting = none) (idle : (s.bench x).wait = .nothing) :
    ∃ t, exec (.monitorFall x) s = .next t ∧ t.hot x = false ∧ t.matrix.image = s.matrix.image ∧
      t.trunk x = { s.trunk x with state := .idle, config := none, target := .allOpen, part := .load, settleTimer := none } := by
  obtain ⟨cold, image⟩ := fall_image x s
  refine ⟨_, exec_monitorFall running hot, cold, image, ?_⟩
  obtain ⟨w, hw, both⟩ := bothCold_sourceless (x := x) (u := setHot x false s) none_ (by
    rw [trunkCold_rests (s := (setHot x false s).advanceFree) guarded part own config done alone idle]
    rfl)
  have rests : trunkCold x w = w.setTrunk x (takingUp x c w).rest := by
    rcases hw with rfl | rfl <;> exact trunkCold_rests guarded part own config done alone idle
  rw [(chained_fall _).trunk, both, rests, State.setTrunk_trunk_same]
  rcases hw with rfl | rfl <;> rfl

end

end

end

end Sys2Proof.Machine

/-! With no energisation the engines work in the dark: the supply of the source stands, no channel is isolated, and a source that is
latched, held by nobody but under a pending release, is neither lent nor released (R116, R119, R122, R126). -/

namespace Sys2Proof.Machine

section
variable {x y z : Station} {s t u : State} {p : Port} {r : RunRecord}

/-- FAULT is latched, and no station holds the source but under a pending release that waits for the switch. -/
def Shelved (h : Hv) : Prop := h.latch.isSome = true ∧ ∀ y, h.holder = some y → h.releasePending = true ∧ h.sw ≠ .off

/-- Channel MX is not ISOLATED, and no isolation of it is pending. -/
def Unisolated (s : State) (x : Station) : Prop := (s.channel x).state ≠ .isolated ∧ (s.channel x).isoPending = false

/-- Between s and t no energisation was asked for: without one the supply stands and channel MX is not isolated, and a shelved source stays
with its holder. The monitor of trunk X stands, and cold it does not guard the trunk. -/
structure Dark (x : Station) (s t : State) : Prop where
  supply : s.hv.energ = none → t.hv.supply = s.hv.supply
  latch : t.hv.latch = s.hv.latch
  lending : s.hv.energ = none → Shelved s.hv →
    t.hv.holder = s.hv.holder ∧ t.hv.releasePending = s.hv.releasePending ∧ t.hv.quiet = s.hv.quiet
  aside : s.hv.energ = none → Unisolated s x → Unisolated t x
  hot : t.hot x = s.hot x
  unguarded : s.hot x = false → (s.trunk x).state ≠ .guarded → (t.trunk x).state ≠ .guarded

namespace Dark

theorem refl (x : Station) (s : State) : Dark x s s := ⟨fun _ => rfl, rfl, fun _ _ => ⟨rfl, rfl, rfl⟩, fun _ => id, rfl, fun _ => id⟩

theorem energ (h : Dark x s t) (idle : s.hv.energ = none) : t.hv.energ = none := (Hv.energ_of_supply (h.supply idle)).trans idle

theorem shelved (h : Dark x s t) (idle : s.hv.energ = none) (k : Shelved s.hv) : Shelved t.hv := by
  obtain ⟨holder, pending, -⟩ := h.lending idle k
  obtain ⟨latched, held⟩ := k
  have sw : t.hv.sw = s.hv.sw := congrArg (fun c => c.2.2.1) (h.supply idle)
  rw [Shelved, h.latch, holder, pending, sw]
  exact ⟨latched, held⟩

theorem trans (h : Dark x s t) (k : Dark x t u) : Dark x s u := by
  refine ⟨fun none => (k.supply (h.energ none)).trans (h.supply none), k.latch.trans h.latch, fun none shelf => ?_,
    fun none out => k.aside (h.energ none) (h.aside none out), k.hot.trans h.hot,
    fun cold out => k.unguarded (h.hot.trans cold) (h.unguarded cold out)⟩
  obtain ⟨holder, pending, quiet⟩ := h.lending none shelf
  obtain ⟨holder', pending', quiet'⟩ := k.lending (h.energ none) (h.shelved none shelf)
  exact ⟨holder'.trans holder, pending'.trans pending, quiet'.trans quiet⟩

/-- The last operation first: it fixes the state in between. -/
theorem after (k : Dark x t u) (h : Dark x s t) : Dark x s u := h.trans k

/-- What leaves the HV unit, the channel and the trunk. -/
theorem of_still (hv : t.hv = s.hv) (channel : t.channel x = s.channel x) (hot : t.hot x = s.hot x) (trunk : t.trunk x = s.trunk x) : Dark x s t :=
  ⟨fun _ => by rw [hv], by rw [hv], fun _ _ => by rw [hv]; exact ⟨rfl, rfl, rfl⟩, fun _ out => by rwa [Unisolated, channel],
    hot, fun _ out => by rwa [trunk]⟩

end Dark

theorem dark_setBench (x y : Station) (b : Bench) (s : State) : Dark x s (s.setBench y b) := .of_still rfl rfl rfl rfl

theorem dark_raise (x : Station) (p : Port) (n : Nat) (s : State) : Dark x s (raise p n s) := .of_still rfl rfl rfl rfl

/-- A change of the lending that leaves the holder and what it owes. -/
theorem dark_setHv {h : Hv} (x : Station) (supply : h.supply = s.hv.supply) (latch : h.latch = s.hv.latch)
    (lending : Shelved s.hv → h.holder = s.hv.holder ∧ h.releasePending = s.hv.releasePending ∧ h.quiet = s.hv.quiet) : Dark x s (s.setHv h) :=
  ⟨fun _ => supply, latch, fun _ => lending, fun _ => id, rfl, fun _ => id⟩

theorem dark_setStepAsk (x y : Station) (v : Bool) (s : State) : Dark x s (s.setHv (s.hv.setStepAsk y v)) :=
  dark_setHv x rfl rfl fun _ => ⟨rfl, rfl, rfl⟩

theorem dark_keepSource (x : Station) (s : State) : Dark x s (keepSource s) := dark_setHv x rfl rfl fun _ => ⟨rfl, rfl, rfl⟩

/-! ## The trunk -/

/-- Leaving SETTLED cuts an aperture at most, where no isolation is pending (R49). -/
theorem left_unisolated (none_ : s.hv.energ = none) (out : Unisolated s x) : Unisolated (left x s) x := by
  unfold left
  split
  · rw [leaveSettled, cutEnergisation_uncut (Uncut.of_none none_), cutAperture]
    dsimp only
    obtain ⟨away, alone⟩ := out
    split
    · rw [alone]
      simp only [Bool.false_eq_true, if_false]
      rw [Unisolated, State.setChannel_channel_same]
      exact ⟨nofun, rfl⟩
    · exact ⟨away, alone⟩
  · exact out

theorem takeUp_unisolated (c : Configuration) (none_ : s.hv.energ = none) (out : Unisolated s x) : Unisolated (takeUp x c s).1 x := by
  have leaves := left_unisolated none_ out
  rcases takeUp_cases x c s _ _ rfl rfl with ⟨-, e⟩ | ⟨-, -, e⟩ | ⟨-, -, -, e⟩ | ⟨-, -, -, -, e⟩ | ⟨-, -, -, -, e⟩ <;> rw [e] <;> exact leaves

/-- A cold trunk is not GUARDED by what it takes up. -/
theorem takeUp_unguarded (c : Configuration) (cold : s.hot x = false) : ((takeUp x c s).1.trunk x).state ≠ .guarded := by
  have same : (if (s.trunk x).state = .settled then leaveSettled x s else s).hot x = s.hot x := left_hot x x s
  rcases takeUp_cases x c s _ _ rfl rfl with ⟨hot, -⟩ | ⟨-, -, e⟩ | ⟨-, -, -, e⟩ | ⟨-, -, -, -, e⟩ | ⟨-, -, -, -, e⟩
  · cases cold.symm.trans (same.symm.trans hot)
  · rw [e, requestLoad_trunk, State.setTrunk_trunk_same]; nofun
  · rw [e, requestLoad_trunk, State.setTrunk_trunk_same]; nofun
  · rw [e, State.setTrunk_trunk_same]; nofun
  · rw [e, State.setTrunk_trunk_same]; nofun

theorem dark_takeUp (x y : Station) (c : Configuration) (s : State) : Dark x s (takeUp y c s).1 := by
  have handing := handing_takeUp y c s
  have lending := handing.lending
  simp only [Hv.lending, Prod.mk.injEq] at lending
  obtain ⟨⟨holder, pending, quiet, -, -, -⟩, -⟩ := lending
  have latch : (takeUp y c s).1.hv.latch = s.hv.latch := congrArg (fun v => v.2.2.2.1) (worked_takeUp y c s).terms
  refine ⟨fun none => by rw [handing.hv (Uncut.of_none none)], latch, fun _ _ => ⟨holder, pending, quiet⟩, fun none out => ?_,
    (worked_takeUp y c s).hotAt x, fun cold out => ?_⟩
  · by_cases own : x = y
    · subst own
      exact takeUp_unisolated c none out
    · rw [Unisolated, handing.channel x own]
      exact out
  · by_cases own : x = y
    · subst own
      exact takeUp_unguarded c cold
    · rw [handing.trunk x own]
      exact out

/-- A trunk that is written with its state as it was. -/
theorem dark_setTrunk (x y : Station) (v : Trunk) (s : State) (state : v.state = (s.trunk y).state) : Dark x s (s.setTrunk y v) := by
  refine ⟨fun _ => rfl, rfl, fun _ _ => ⟨rfl, rfl, rfl⟩, fun _ => id, rfl, fun _ out => ?_⟩
  by_cases own : x = y
  · subst own
    rwa [State.setTrunk_trunk_same, state]
  · rwa [State.setTrunk_trunk_ne _ _ _ own]

theorem dark_arrive (x y : Station) (c : Configuration) (s : State) : Dark x s (arrive y c s).1 := by
  rcases arrive_cases y c s with e | e | e <;> rw [e]
  · exact dark_takeUp x y c s
  · exact dark_setTrunk x y _ s rfl
  · exact dark_setTrunk x y _ s rfl

theorem dark_handConfig (x y : Station) (c : Configuration) (s : State) : Dark x s (handConfig y c s) :=
  (dark_arrive x y c _).after (dark_setBench x y _ s)

theorem dark_handStep (x y : Station) (s : State) : Dark x s (handStep y s) := by
  unfold handStep
  split
  · exact dark_setBench x y _ s
  · split
    · exact dark_handConfig x y _ s
    · exact .refl x s

/-! ## The arbiter -/

theorem dark_stepMayGo (x y : Station) (s : State) : Dark x s (stepMayGo y s) := by
  unfold stepMayGo
  split
  · split
    · exact (dark_handStep x y _).after (dark_setBench x y _ s)
    · exact .refl x s
  · exact .refl x s

/-- No station is granted a latched source (R116). -/
theorem Shelved.next {h : Hv} (k : Shelved h) : h.next = none := by
  refine Hv.next_barred fun z => ?_
  obtain ⟨latched, -⟩ := k
  simp [Hv.grantable, Option.isSome_iff_ne_none.mp latched]

theorem dark_lookForGrant (x : Station) (s : State) : Dark x s (lookForGrant s) := by
  cases next : s.hv.next with
  | none =>
    rw [lookForGrant_none next]
    exact .refl x s
  | some w =>
    have free : ¬ Shelved s.hv := fun k => by
      rw [k.next] at next
      cases next
    have raised : Dark x s (raise w.port srcHvGranted (s.setHv (s.hv.granted w))) :=
      (dark_raise x _ _ _).after (dark_setHv x rfl rfl fun k => absurd k free)
    rw [lookForGrant_next next]
    unfold grant
    dsimp only
    split
    · exact (dark_stepMayGo x w _).after raised
    · exact raised

theorem dark_stepWaits (x y : Station) (s : State) : Dark x s (stepWaits y s) := by
  unfold stepWaits
  split
  · exact (dark_stepMayGo x y _).after (dark_setHv x rfl rfl fun _ => ⟨rfl, rfl, rfl⟩)
  · exact (dark_lookForGrant x _).after (dark_setStepAsk x y _ s)

theorem dark_releaseHolder (x : Station) (s : State) : Dark x s (releaseHolder s) := by
  cases held : s.hv.holder with
  | none =>
    rw [releaseHolder_none held]
    exact .refl x s
  | some y =>
    by_cases off : s.hv.sw = .off
    · have free : ¬ Shelved s.hv := fun k => (k.2 y held).2 off
      have released : Dark x s (released y s) := by
        unfold Machine.released
        split
        · exact dark_setHv x rfl rfl fun k => absurd k free
        · exact (dark_raise x _ _ _).after (dark_setHv x rfl rfl fun k => absurd k free)
      rw [releaseHolder_off held off]
      exact (dark_lookForGrant x _).after released
    · rw [releaseHolder_pending held off]
      exact dark_setHv x rfl rfl fun k => ⟨rfl, (k.2 y held).1.symm, rfl⟩

theorem dark_releaseIfDue (x : Station) (s : State) : Dark x s (releaseIfDue s) := by
  unfold releaseIfDue
  split
  · exact dark_releaseHolder x s
  · exact .refl x s

theorem dark_stepEnd (x y : Station) (queued : Bool) (s : State) : Dark x s (stepEnd y queued s) := by
  have counts (h : Hv) (e : ∃ a b, h = { s.hv with string := a, holderStep := b }) : Dark x s (s.setHv h) := by
    obtain ⟨a, b, rfl⟩ := e
    exact dark_setHv x rfl rfl fun _ => ⟨rfl, rfl, rfl⟩
  have counted : Dark x s (s.setHv { s.hv.countString with holderStep := false }) := counts _ ⟨_, _, rfl⟩
  unfold stepEnd
  dsimp only
  split
  · split
    · exact (dark_releaseHolder x _).after counted
    · split
      · split
        · refine (dark_releaseHolder x _).after ?_
          split
          · split
            · exact dark_setHv x rfl rfl fun _ => ⟨rfl, rfl, rfl⟩
            · exact dark_setHv x rfl rfl fun _ => ⟨rfl, rfl, rfl⟩
          · split
            · exact dark_setHv x rfl rfl fun _ => ⟨rfl, rfl, rfl⟩
            · exact counted
        · exact (dark_keepSource x _).after counted
      · exact (dark_releaseHolder x _).after counted
  · exact .refl x s

/-! ## The end of an activity -/

theorem dark_activityDone (x y : Station) (s : State) : Dark x s (activityDone y s) := by
  unfold activityDone
  dsimp only
  split
  · exact (dark_raise x _ _ _).after (dark_setBench x y _ s)
  · split
    · unfold takeUpQueued
      dsimp only
      have raised (b : Bench) : Dark x s (raise y.port srcStepDone (s.setBench y b)) := (dark_raise x _ _ _).after (dark_setBench x y _ s)
      split
      · exact (dark_setBench x y _ _).after (raised _)
      · exact (dark_stepWaits x y _).after ((dark_setBench x y _ _).after (raised _))
    · exact (dark_raise x _ _ _).after (dark_setBench x y _ s)
  all_goals exact dark_setBench x y _ s

theorem dark_handEmpty (x y : Station) (s : State) : Dark x s (handEmpty y s) := by
  have handed : Dark x s (arrive y .empty (s.setBench y { s.bench y with handed := .empty, wait := .allOpen })).1 :=
    (dark_arrive x y .empty _).after (dark_setBench x y _ s)
  unfold handEmpty
  dsimp only
  split
  · exact (dark_activityDone x y _).after handed
  · exact handed

theorem dark_finishStep (x y : Station) (s : State) : Dark x s (finishStep y s) := by
  unfold finishStep
  dsimp only
  split
  · refine (dark_handEmpty x y _).after ?_
    split
    · exact (dark_setStepAsk x y _ _).after (dark_setBench x y _ s)
    · exact (dark_stepEnd x y _ _).after (dark_setBench x y _ s)
  · exact .refl x s

theorem dark_markInterrupted (x y : Station) (s : State) : Dark x s (markInterrupted y s) := by
  have dropped : Dark x s (dropQueued y s) := by
    unfold dropQueued
    split
    · exact (dark_setStepAsk x y _ _).after (dark_setBench x y _ s)
    · exact .refl x s
  exact (dark_setBench x y _ _).after ((dark_setBench x y _ _).after dropped)

/-! ## The step's result -/

theorem dark_recordDefect (x y : Station) (short : Bool) (d : Defect) (s : State) : Dark x s (recordDefect y short d s) := by
  unfold recordDefect
  split
  · exact (dark_raise x _ _ _).after (dark_setBench x y _ s)
  · exact .refl x s

theorem dark_recordRanges (x y : Station) (st : StepRecord) (l : List Entry) (s : State) : Dark x s (recordRanges y st l s) := by
  induction l generalizing s with
  | nil => exact .refl x s
  | cons e l ih => exact (ih _).after (dark_recordDefect x y _ _ s)

theorem dark_handLocate (x y : Station) (s : State) : Dark x s (handLocate y s) := by
  unfold handLocate
  split
  · exact dark_setBench x y _ s
  · split
    · exact dark_handConfig x y _ s
    · exact .refl x s

theorem dark_locateNext (x y : Station) (st : StepRecord) (l : List Entry × List Entry) (s : State) : Dark x s (locateNext y st l s) := by
  have recorded : Dark x s (recordRanges y st l.2 (s.setBench y { s.bench y with locator := l.1 })) :=
    (dark_recordRanges x y st l.2 _).after (dark_setBench x y _ s)
  unfold locateNext
  dsimp only
  split
  · exact (dark_finishStep x y _).after recorded
  · exact (dark_handLocate x y _).after recorded

theorem dark_locateGoOn (x y : Station) (st : StepRecord) (l : List Entry) (s : State) : Dark x s (locateGoOn y st l s) := by
  unfold locateGoOn
  split
  · split
    · exact (dark_locateNext x y st _ _).after (dark_recordDefect x y _ _ s)
    · exact dark_locateNext x y st _ s
  · exact dark_locateNext x y st _ s

theorem dark_repeatConfig (x y : Station) (st : StepRecord) (s : State) : Dark x s (repeatConfig y st s) :=
  (dark_handConfig x y _ _).after (dark_setBench x y _ s)

theorem dark_stepResult (x y : Station) (e : EnergResult) (s : State) : Dark x s (stepResult y e s) := by
  have began (st : StepRecord) : Dark x s (s.setBench y { s.bench y with step := some st }) := dark_setBench x y _ s
  unfold stepResult
  dsimp only
  split
  · split
    · split
      · exact (dark_finishStep x y _).after ((dark_markInterrupted x y _).after (began _))
      iterate 3 exact (dark_finishStep x y _).after (began _)
      · split
        · unfold locateResult
          split
          · exact (dark_locateNext x y _ _ _).after (began _)
          · exact (dark_locateGoOn x y _ _ _).after (began _)
        · unfold stepReading
          split
          · exact (dark_finishStep x y _).after (began _)
          · split
            · exact (dark_locateGoOn x y _ _ _).after ((dark_setBench x y _ _).after (began _))
            · exact (dark_finishStep x y _).after ((dark_recordDefect x y _ _ _).after (began _))
      · exact (dark_finishStep x y _).after ((dark_recordDefect x y _ _ _).after (began _))
      · exact (dark_repeatConfig x y _ _).after (began _)
    · exact .refl x s
  · exact .refl x s

end

end Sys2Proof.Machine

/-! The fall of a monitor whose trunk has the source: FAULTED, or discharging with no run to tell (R119, R125, R126). -/

namespace Sys2Proof.Machine

section
variable {x y z : Station} {s t u w : State} {p : Port} {r : RunRecord} {c : Configuration} {e : Energisation}

/-! ## The trunk's side of a fall -/

/-- A trunk taken up is not SETTLED. -/
theorem takeUp_unsettled (x : Station) (c : Configuration) (s : State) : ((takeUp x c s).1.trunk x).state ≠ .settled := by
  rcases takeUp_cases x c s _ _ rfl rfl with ⟨-, e⟩ | ⟨-, -, e⟩ | ⟨-, -, -, e⟩ | ⟨-, -, -, -, e⟩ | ⟨-, -, -, -, e⟩ <;> rw [e]
  · rw [State.setTrunk_trunk_same]; nofun
  · rw [requestLoad_trunk, State.setTrunk_trunk_same]; nofun
  · rw [requestLoad_trunk, State.setTrunk_trunk_same]; nofun
  · rw [State.setTrunk_trunk_same]; nofun
  · rw [State.setTrunk_trunk_same]; nofun

theorem completeConfig_unsettled (x : Station) (s : State) : ((completeConfig x false s).1.trunk x).state ≠ .settled := by
  unfold completeConfig
  dsimp only
  split
  · exact takeUp_unsettled x _ _
  · simp only [Bool.false_eq_true, if_false, State.setTrunk_trunk_same]
    nofun

/-- The trunk controller's work at a fall: the HV unit, channels and stations stand, and a trunk that reports is not SETTLED. -/
theorem unguardTrunk_still (x : Station) (s : State) :
    (unguardTrunk x s).1.hv = s.hv ∧ (unguardTrunk x s).1.channels = s.channels ∧ (unguardTrunk x s).1.benches = s.benches ∧
    ((unguardTrunk x s).2.isSome = true → ((unguardTrunk x s).1.trunk x).state ≠ .settled) := by
  by_cases guarded : (s.trunk x).state = .guarded
  · by_cases part : (s.trunk x).part = .deviceAllOpen
    · simp only [unguardTrunk, guarded, part, if_true]
      exact ⟨rfl, rfl, rfl, nofun⟩
    · cases own : ownLoadRuns s x
      · have took := (handing_takeUp x ((s.trunk x).config.getD .empty) s)
        obtain ⟨hv, channels⟩ := took.settled (by rw [guarded]; nofun)
        have unsettled := takeUp_unsettled x ((s.trunk x).config.getD .empty) s
        have benches := took.benches
        simp only [unguardTrunk, guarded, part, own, if_true, if_false, Bool.false_eq_true]
        generalize takeUp x ((s.trunk x).config.getD .empty) s = v at *
        split
        · have ends : (completeConfig x false v.1).1.hv = v.1.hv ∧ (completeConfig x false v.1).1.channels = v.1.channels ∧
              (completeConfig x false v.1).1.benches = v.1.benches := by
            unfold completeConfig
            dsimp only
            split
            next d _ =>
              have again := handing_takeUp x d (v.1.setTrunk x { v.1.trunk x with waiting := none })
              obtain ⟨hv, channels⟩ := again.settled (by rw [State.setTrunk_trunk_same]; exact unsettled)
              exact ⟨hv, channels, again.benches⟩
            next => exact ⟨rfl, rfl, rfl⟩
          obtain ⟨hv', channels', benches'⟩ := ends
          exact ⟨hv'.trans hv, channels'.trans channels, benches'.trans benches, fun _ => completeConfig_unsettled x v.1⟩
        · exact ⟨hv, channels, benches, nofun⟩
      · simp only [unguardTrunk, guarded, part, own, if_true, if_false]
        exact ⟨rfl, rfl, rfl, nofun⟩
  · simp only [unguardTrunk, guarded, if_false]
    exact ⟨trivial, trivial, trivial, nofun⟩

theorem dark_endSweep (x y : Station) (o : Continuity) (s : State) : Dark x s (endSweep y o s) :=
  (dark_handEmpty x y _).after (dark_setBench x y _ s)

theorem dark_requestMeasurement (x y : Station) (m : Measurement) (s : State) : Dark x s (requestMeasurement y m s).1 := by
  have writes (c : Channel) (iso : c.isoPending = (s.channel y).isoPending) (state : c.state = .isolated → (s.channel y).state = .isolated) :
      Dark x s (s.setChannel y c) := by
    refine ⟨fun _ => rfl, rfl, fun _ _ => ⟨rfl, rfl, rfl⟩, fun _ out => ?_, rfl, fun _ => id⟩
    by_cases own : x = y
    · subst own
      rw [Unisolated, State.setChannel_channel_same, iso]
      exact ⟨fun e => out.1 (state e), out.2⟩
    · rw [Unisolated, State.setChannel_channel_ne _ _ _ own]
      exact out
  unfold requestMeasurement
  dsimp only
  split
  · exact writes _ rfl id
  · exact writes _ rfl nofun

theorem dark_measure (x y : Station) (m : Sweep) (s : State) : Dark x s (measure y m s) := by
  have asked := (dark_requestMeasurement x y (m.measurement (s.window y) (s.bench y).locator)
    (s.setBench y { s.bench y with wait := .channel })).after (dark_setBench x y _ s)
  unfold measure
  dsimp only
  split
  · exact asked
  · exact (dark_handConfig x y _ _).after asked

/-- An energisation is refused on a trunk that is not SETTLED. -/
theorem energise_unsettled (volts dwell : Nat) (unsettled : (s.trunk x).state ≠ .settled) :
    ∃ why, energise x volts dwell s = (s, some why) := by
  have refused : ∃ why, energiseRefusal x s = some why := by
    unfold energiseRefusal
    split
    · exact ⟨_, rfl⟩
    · split
      · exact ⟨_, rfl⟩
      · split
        · exact ⟨_, rfl⟩
        · exact ⟨_, rfl⟩
  obtain ⟨why, h⟩ := refused
  exact ⟨why, by simp only [energise, h]⟩

theorem dark_askEnergise (x : Station) (st : StepRecord) (dwell : Nat) (unsettled : (s.trunk y).state ≠ .settled) :
    Dark x s (askEnergise y st dwell s) := by
  have began := dark_setBench x y { s.bench y with step := some st, wait := .energisation } s
  obtain ⟨why, refused⟩ := energise_unsettled (s := s.setBench y { s.bench y with step := some st, wait := .energisation })
    st.voltage dwell unsettled
  have finishes := (dark_finishStep x y _).after ((dark_markInterrupted x y _).after began)
  unfold askEnergise
  dsimp only
  rw [refused]
  cases why
  · exact finishes
  · exact finishes
  · exact finishes
  · exact (dark_repeatConfig x y st _).after began

theorem dark_onTrunkDone (x : Station) (unsettled : (s.trunk y).state ≠ .settled) : Dark x s (onTrunkDone y s) := by
  unfold onTrunkDone
  dsimp only
  split
  · exact dark_activityDone x y s
  · split
    · split
      · split
        · exact dark_endSweep x y _ s
        · exact dark_measure x y _ s
      · exact .refl x s
    · unfold stepSettled
      split
      · split
        · exact dark_askEnergise x _ _ unsettled
        · exact dark_askEnergise x _ _ unsettled
        all_goals exact .refl x s
      · exact .refl x s
    all_goals exact .refl x s
  all_goals exact .refl x s

theorem dark_trunkCold (x : Station) (s : State) : Dark x s (trunkCold x s) := by
  obtain ⟨hv, channels, -, reports⟩ := unguardTrunk_still x s
  have channel : (unguardTrunk x s).1.channel x = s.channel x := congrArg (fun v : Both Channel => v.get x) channels
  have first : Dark x s (unguardTrunk x s).1 := by
    refine ⟨fun _ => by rw [hv], by rw [hv], fun _ _ => by rw [hv]; exact ⟨rfl, rfl, rfl⟩, fun _ out => by rwa [Unisolated, channel],
      (worked_unguardTrunk x s).hotAt x, fun _ out => ?_⟩
    simp only [unguardTrunk, out, if_false]
    exact out
  unfold trunkCold tellTrunk
  split
  next v told =>
    exact (dark_onTrunkDone x (reports (by rw [told]; rfl))).after first
  next => exact first

/-- With no run of its station a trunk reports to nobody. -/
theorem trunkCold_noRun (run : (s.bench x).run = .noRun) :
    (trunkCold x s).hv = s.hv ∧ (trunkCold x s).channels = s.channels ∧ ((trunkCold x s).bench x).run = .noRun := by
  obtain ⟨hv, channels, benches, -⟩ := unguardTrunk_still x s
  have same : (unguardTrunk x s).1.bench x = s.bench x := congrArg (fun v : Both Bench => v.get x) benches
  unfold trunkCold tellTrunk
  split
  · unfold onTrunkDone
    dsimp only
    rw [same, run]
    split
    · unfold activityDone
      dsimp only
      rw [same, run]
      exact ⟨hv, channels, by rw [State.setBench_bench_same]⟩
    all_goals exact ⟨hv, channels, by rw [same]; exact run⟩
  · exact ⟨hv, channels, by rw [same]; exact run⟩

end

end Sys2Proof.Machine

/-! The fall of a monitor whose trunk has the source: FAULTED, or discharging with no run to tell (R119, R125, R126). -/

namespace Sys2Proof.Machine

section
variable {x y z : Station} {s t u w : State} {p : Port} {r : RunRecord} {c : Configuration} {e : Energisation}

theorem leaveIsolation_unisolated (x : Station) (s : State) : Unisolated (leaveIsolation x s) x := by
  rw [Unisolated, leaveIsolation, State.setChannel_channel_same]
  refine ⟨?_, rfl⟩
  dsimp only
  split
  · split <;> nofun
  next out => exact out

/-! ## FAULTED (R126) -/

/-- The source stands FAULTED on trunk X, latched, and its holder X waits for its release. -/
structure Stranded (s : State) (x : Station) : Prop where
  energ : s.hv.energ = none
  source : s.hv.source = .faulted
  sw : s.hv.sw = .to x
  holder : s.hv.holder = some x
  pending : s.hv.releasePending = true
  latch : s.hv.latch = some x

/-- Between s and t the FAULTED source has been disconnected from trunk X and its holder released; the latch stays. -/
structure Freed (x : Station) (s t : State) : Prop where
  energ : t.hv.energ = none
  source : t.hv.source = .faulted
  sw : t.hv.sw = .off
  path : t.hv.path = false
  holder : t.hv.holder = none
  pending : t.hv.releasePending = false
  latch : t.hv.latch = some x
  channel : Unisolated t x
  told : s.hv.quiet = false → Notified s t x.port srcHvReleased

theorem sourceCold_frees (h : Stranded s x) : Freed x s (sourceCold x s) := by
  generalize hv : leaveIsolation x (s.setHv { s.hv with sw := .off, path := false }) = v
  have goes : sourceCold x s = releaseHolder v := by
    unfold sourceCold
    split
    next e he => cases h.energ.symm.trans he
    next =>
      rw [if_pos ⟨h.source, h.sw⟩]
      exact congrArg releaseHolder hv
  have same : v.hv = { s.hv with sw := .off, path := false } := by rw [← hv]; rfl
  have latched : ({ v.hv with holder := none } : Hv).next = none :=
    Shelved.next ⟨by rw [same]; exact Option.isSome_iff_exists.mpr ⟨x, h.latch⟩, nofun⟩
  rw [goes, releaseHolder_nobody (x := x) (by rw [same]; exact h.holder) (by rw [same]) latched]
  refine ⟨?_, ?_, ?_, ?_, ?_, ?_, ?_, ?_, fun quiet => ?_⟩
  · rw [released_hv, same]; exact h.energ
  · rw [released_hv, same]; exact h.source
  · rw [released_hv, same]; rfl
  · rw [released_hv, same]; rfl
  · rw [released_hv]; rfl
  · rw [released_hv]; rfl
  · rw [released_hv, same]; exact h.latch
  · rw [Unisolated, State.channel, released_channels, ← hv]
    exact leaveIsolation_unisolated x _
  · have raised := notified_released (x := x) (s := v) (by rw [same]; exact quiet)
    rw [← hv] at raised ⊢
    exact raised

/-- What works in the dark keeps a FAULTED source where it is. -/
theorem Stranded.dark (h : Stranded s x) (k : Dark x s t) : Stranded t x ∧ t.hv.quiet = s.hv.quiet := by
  have shelved : Shelved s.hv := ⟨by rw [h.latch]; rfl, fun _ _ => ⟨h.pending, by rw [h.sw]; nofun⟩⟩
  obtain ⟨holder, pending, quiet⟩ := k.lending h.energ shelved
  have supply := k.supply h.energ
  simp only [Hv.supply, Prod.mk.injEq] at supply
  obtain ⟨source, energ, sw, -, -⟩ := supply
  exact ⟨⟨energ.trans h.energ, source.trans h.source, sw.trans h.sw, holder.trans h.holder, pending.trans h.pending, k.latch.trans h.latch⟩, quiet⟩

theorem Freed.dark (h : Freed x s t) (k : Dark x t u) (worked : Worked t u) : Freed x s u := by
  have shelved : Shelved t.hv := ⟨by rw [h.latch]; rfl, fun y held => by
    rw [h.holder] at held
    cases held⟩
  obtain ⟨holder, pending, -⟩ := k.lending h.energ shelved
  have supply := k.supply h.energ
  simp only [Hv.supply, Prod.mk.injEq] at supply
  obtain ⟨source, energ, sw, -, path⟩ := supply
  exact ⟨energ.trans h.energ, source.trans h.source, sw.trans h.sw, path.trans h.path, holder.trans h.holder, pending.trans h.pending,
    k.latch.trans h.latch, k.aside h.energ h.channel, fun quiet => (h.told quiet).worked worked⟩

/-- The fall of a FAULTED trunk, whichever of trunk controller and HV unit sees it first (log 6). -/
theorem bothCold_frees (h : Stranded s x) : Freed x s (bothCold x s) := by
  have first (v : State) (k : Stranded v x) : Freed x v (trunkCold x (sourceCold x v)) :=
    (sourceCold_frees k).dark (dark_trunkCold x _) (worked_trunkCold x _)
  have second (v : State) (k : Stranded v x) : Freed x v (sourceCold x (trunkCold x v)) := by
    obtain ⟨stays, quiet⟩ := k.dark (dark_trunkCold x v)
    obtain ⟨energ, source, sw, path, holder, pending, latch, channel, told⟩ := sourceCold_frees stays
    exact ⟨energ, source, sw, path, holder, pending, latch, channel, fun loud =>
      (told (quiet.trans loud)).of_worked (worked_trunkCold x v)⟩
  have turned : Stranded s.advanceFree x := ⟨h.energ, h.source, h.sw, h.holder, h.pending, h.latch⟩
  have back {t : State} (k : Freed x s.advanceFree t) : Freed x s t :=
    ⟨k.energ, k.source, k.sw, k.path, k.holder, k.pending, k.latch, k.channel, k.told⟩
  unfold bothCold
  split
  · split
    · exact back (first _ turned)
    · exact back (second _ turned)
  · exact first s h

/-! ## A discharge with no run to tell (R119, R125) -/

/-- The source discharges on trunk X, whose station holds it under a pending release with no run open, and nobody is in line. -/
structure Draining (s : State) (x : Station) (e : Energisation) : Prop where
  energ : s.hv.energ = some e
  trunk : e.trunk = x
  stage : e.stage = .discharging
  run : (s.bench x).run = .noRun
  holder : s.hv.holder = some x
  pending : s.hv.releasePending = true
  line : s.hv.line = []

/-- The HV unit with its discharge over and its holder released. -/
def Hv.drained (h : Hv) (e : Energisation) (o : EnergOutcome) : Hv := (h.discharged e o).released

/-- The end of a discharge on trunk X, told to its engine (R125). -/
theorem sourceCold_discharges (he : s.hv.energ = some e) (trunk : e.trunk = x) (stage : e.stage = .discharging) :
    sourceCold x s = releaseIfDue (stepResult x (e.result (e.settle (.cut .trunk)))
      (leaveIsolation x (s.setHv (s.hv.discharged e (e.settle (.cut .trunk)))))) := by
  subst trunk
  simp [sourceCold, he, stage, tellEngine, endDischarge, Hv.discharged]

/-- Between s and t the discharge on trunk X has ended, and its holder is released. -/
structure Drained (x : Station) (e : Energisation) (s t : State) : Prop where
  hv : t.hv = s.hv.drained e (e.settle (.cut .trunk))
  channel : Unisolated t x
  told : s.hv.quiet = false → Notified s t x.port srcHvReleased

theorem sourceCold_drains (h : Draining s x e) :
    Drained x e s (sourceCold x s) ∧ ((sourceCold x s).bench x).run = .noRun := by
  generalize hv : leaveIsolation x (s.setHv (s.hv.discharged e (e.settle (.cut .trunk)))) = v
  have same : v.hv = s.hv.discharged e (e.settle (.cut .trunk)) := by rw [← hv]; rfl
  have bench : v.bench x = s.bench x := by rw [← hv]; rfl
  have idle : stepResult x (e.result (e.settle (.cut .trunk))) v = v :=
    stepResult_discarded _ (.inr fun k => by
      rw [bench, h.run] at k
      cases k.1)
  have due : v.hv.releasePending = true := by rw [same]; exact h.pending
  have nobody : ({ v.hv with holder := none } : Hv).next = none := Hv.next_of_empty (by
    show v.hv.line = []
    rw [same]
    exact h.line)
  have goes : sourceCold x s = released x v := by
    rw [sourceCold_discharges h.energ h.trunk h.stage, hv, idle, releaseIfDue, if_pos due,
      releaseHolder_nobody (x := x) (by rw [same]; exact h.holder) (by rw [same]; rfl) nobody]
  rw [goes]
  refine ⟨⟨by rw [released_hv, same]; rfl, ?_, fun quiet => ?_⟩, by rw [released_bench, bench, h.run]⟩
  · rw [Unisolated, State.channel, released_channels, ← hv]
    exact leaveIsolation_unisolated x _
  · have raised := notified_released (x := x) (s := v) (by rw [same]; exact quiet)
    rw [← hv] at raised ⊢
    exact raised

theorem bothCold_drains (h : Draining s x e) : Drained x e s (bothCold x s) := by
  have first (v : State) (k : Draining v x e) : Drained x e v (trunkCold x (sourceCold x v)) := by
    obtain ⟨⟨hv, channel, told⟩, run⟩ := sourceCold_drains k
    obtain ⟨hv', channels', -⟩ := trunkCold_noRun run
    exact ⟨hv'.trans hv, by rw [Unisolated, State.channel, channels']; exact channel, fun quiet => (told quiet).worked (worked_trunkCold x _)⟩
  have second (v : State) (k : Draining v x e) : Drained x e v (sourceCold x (trunkCold x v)) := by
    obtain ⟨hv, -, run⟩ := trunkCold_noRun k.run
    obtain ⟨⟨hv', channel, told⟩, -⟩ := sourceCold_drains (s := trunkCold x v)
      ⟨by rw [hv]; exact k.energ, k.trunk, k.stage, run, by rw [hv]; exact k.holder, by rw [hv]; exact k.pending, by rw [hv]; exact k.line⟩
    rw [hv] at hv' told
    exact ⟨hv', channel, fun quiet => (told quiet).of_worked (worked_trunkCold x v)⟩
  have turned : Draining s.advanceFree x e := ⟨h.energ, h.trunk, h.stage, h.run, h.holder, h.pending, h.line⟩
  have back {t : State} (k : Drained x e s.advanceFree t) : Drained x e s t := ⟨k.hv, k.channel, k.told⟩
  unfold bothCold
  split
  · split
    · exact back (first _ turned)
    · exact back (second _ turned)
  · exact first s h

end

end Sys2Proof.Machine

/-! A step whose trunk has gone cold: its end, what it records, and the range test it goes on to (R142 to R144, R147). -/

namespace Sys2Proof.Machine

section
variable {x y z : Station} {s t u w : State} {p : Port} {r : RunRecord} {c : Configuration} {st : StepRecord} {ds es : List Defect}

/-! ## What is recorded -/

/-- Between s and t exactly these defects are recorded in the run of station X, a run is open, and units have been raised at most. -/
structure Wrote (x : Station) (ds : List Defect) (s t : State) : Prop where
  recorded : Recorded s t x false ds
  open_ : (t.bench x).record.isSome = true
  units : ∀ p, RaisedFrom (s.unit p) (t.unit p)

theorem Wrote.trans (h : Wrote x ds s t) (k : Wrote x es t u) : Wrote x (ds ++ es) s u := by
  obtain ⟨record, banks, notified⟩ := h.recorded
  obtain ⟨record', banks', notified'⟩ := k.recorded
  obtain ⟨sameRecord, sameBanks⟩ := recorded_congr record banks false es
  rw [recorded_append] at sameRecord sameBanks
  refine ⟨⟨record'.trans sameRecord, banks'.trans sameBanks, fun some_ => ?_⟩, k.open_, fun p => (h.units p).trans (k.units p)⟩
  by_cases empty : ds = []
  · exact Notified.of_raised (h.units x.port) (notified' fun none => some_ (by rw [empty, none]; rfl))
  · exact (notified empty).raised (k.units x.port)

/-- The last operation first: it fixes the state in between. -/
theorem Wrote.after (k : Wrote x es t u) (h : Wrote x ds s t) : Wrote x (ds ++ es) s u := h.trans k

/-- What leaves run record and banks records nothing. -/
theorem wrote_nothing (open_ : (s.bench x).record.isSome = true) (record : (t.bench x).record = (s.bench x).record)
    (banks : (t.bench x).banks = (s.bench x).banks) (units : ∀ p, RaisedFrom (s.unit p) (t.unit p)) : Wrote x [] s t :=
  ⟨⟨record, banks, nofun⟩, by rw [record]; exact open_, units⟩

theorem recorded_open (b : Bench) (ds : List Defect) (open_ : b.record.isSome = true) : (b.recorded false ds).record.isSome = true := by
  induction ds generalizing b with
  | nil => exact open_
  | cons d ds ih =>
    unfold Bench.recorded
    split
    · exact ih _ rfl
    · exact open_

theorem wrote_recording (ds : List Defect) (open_ : (s.bench x).record.isSome = true) : Wrote x ds s (recording x false ds s) := by
  obtain ⟨r, record⟩ := Option.isSome_iff_exists.mp open_
  have bench := recording_bench x false ds s
  refine ⟨⟨by rw [bench], by rw [bench], fun some_ => recording_notifies false some_ record⟩, ?_, (booked_recording x false ds s).units⟩
  rw [bench]
  exact recorded_open _ ds open_

theorem wrote_setBench (b : Bench) (open_ : (s.bench x).record.isSome = true) (record : b.record = (s.bench x).record)
    (banks : b.banks = (s.bench x).banks) : Wrote x [] s (s.setBench x b) :=
  wrote_nothing open_ (by rw [State.setBench_bench_same]; exact record) (by rw [State.setBench_bench_same]; exact banks) fun _ => .refl _

/-! ## The step in hand -/

/-- The step of station X, with this record, stands on its SETTLED cold trunk with a relay of its cards closed, and its run is open. -/
structure Poised (s : State) (x : Station) (st : StepRecord) : Prop where
  step : (s.bench x).step = some st
  open_ : (s.bench x).record.isSome = true
  ready : s.matrix.state = .ready
  settled : (s.trunk x).state = .settled
  cold : s.hot x = false
  closed : Closed s x

theorem Poised.setBench {b : Bench} {st' : StepRecord} (h : Poised s x st) (step : b.step = some st') (record : b.record = (s.bench x).record) :
    Poised (s.setBench x b) x st' :=
  ⟨by rw [State.setBench_bench_same, step], by rw [State.setBench_bench_same, record]; exact h.open_, h.ready, h.settled, h.cold, h.closed⟩

theorem Poised.recording (h : Poised s x st) (ds : List Defect) : Poised (recording x false ds s) x st := by
  have booked := booked_recording x false ds s
  have bench := recording_bench x false ds s
  obtain ⟨-, -, -, -, -, step, -⟩ := recorded_keeps (s.bench x) false ds
  have wrote := wrote_recording ds h.open_
  generalize Machine.recording x false ds s = v at *
  have matrix := booked.matrix
  exact ⟨by rw [bench, step]; exact h.step, wrote.open_, by rw [matrix]; exact h.ready, by rw [State.trunk, matrix]; exact h.settled,
    by rw [State.hot, matrix]; exact h.cold, closed_of_ground (by rw [matrix]) h.closed⟩

/-- A poised step enters FINISH, and the empty configuration is in work (R144). -/
theorem Poised.finishes (h : Poised s x st) : StepFinishes (finishStep x s) x st ∧ Wrote x [] s (finishStep x s) := by
  obtain ⟨-, bench, -⟩ := finishStep_pending h.step (.inl h.closed)
  have config := finishStep_config h.step h.ready (.inr h.settled) (.inl h.closed)
  refine ⟨?_, wrote_nothing h.open_ (by rw [bench]; rfl) (by rw [bench]; rfl) (worked_finishStep x s).units⟩
  rw [StepFinishes, bench]
  exact ⟨rfl, rfl, rfl, rfl, config⟩

/-! ## The range test (R143) -/

theorem range_eq (st : StepRecord) (e : Entry) :
    st.range e = (List.range (e.last + 1 - e.first)).map (fun i => st.returned.getD (e.first + i) (.net 0)) := by
  rw [StepRecord.range, span, List.map_map]
  rfl

/-- The range test of the top entry is handed, or waits behind a check. -/
theorem Poised.tests {e : Entry} {rest : List Entry} (h : Poised s x st) (stack : (s.bench x).locator = e :: rest) :
    RangeTested s (handLocate x s) x st e.first e.last ∧ ((handLocate x s).bench x).locator = e :: rest ∧ Wrote x [] s (handLocate x s) := by
  have units := (worked_handLocate x s).units
  by_cases checks : s.store.state = .checking
  · have holds : handLocate x s = holdRead x .locate s := if_pos (decide_eq_true checks)
    have bench : (handLocate x s).bench x = { s.bench x with wait := .read .locate } := by
      rw [holds, holdRead, State.setBench_bench_same]
    refine ⟨⟨by rw [bench]; exact h.step, fun _ => by rw [bench], fun free => absurd checks free⟩, by rw [bench]; exact stack,
      wrote_nothing h.open_ (by rw [bench]) (by rw [bench]) units⟩
  · have hands : handLocate x s =
        handConfig x { drive := netsPoints s.store.words st.selected, ret := driversPoints s.store.words (st.range e) } s := by
      have free : ¬ checking s = true := by simpa [checking] using checks
      unfold handLocate
      rw [if_neg free]
      simp only [h.step, stack]
    have handed := handConfig_handed x { drive := netsPoints s.store.words st.selected, ret := driversPoints s.store.words (st.range e) } s
    have bench := handConfig_bench_same x { drive := netsPoints s.store.words st.selected, ret := driversPoints s.store.words (st.range e) } s
    rw [← hands] at handed bench
    rw [range_eq] at handed
    refine ⟨⟨by rw [bench]; exact h.step, fun c => absurd c checks, fun _ => handed⟩, by rw [bench]; exact stack,
      wrote_nothing h.open_ (by rw [bench]; rfl) (by rw [bench]; rfl) units⟩

/-! ## The locate goes on (R143) -/

/-- The INS-LOW of a finished range. -/
def StepRecord.rangeLow (st : StepRecord) (e : Entry) : Defect :=
  st.insLow (.range (st.candidate e.first) (st.candidate e.last)) (e.value.getD 0)

theorem recordRanges_eq (x : Station) (st : StepRecord) (l : List Entry) (s : State) :
    recordRanges x st l s = recording x false (l.map st.rangeLow) s := by
  induction l generalizing s with
  | nil => rfl
  | cons e l ih =>
    rw [List.map_cons, recording_cons]
    exact ih _

/-- The station with the stack that the locate goes on with, its finished ranges recorded. -/
def located (x : Station) (st : StepRecord) (l : List Entry × List Entry) (s : State) : State :=
  recording x false (l.2.map st.rangeLow) (s.setBench x { s.bench x with locator := l.1 })

theorem locateNext_eq (x : Station) (st : StepRecord) (l : List Entry × List Entry) (s : State) :
    locateNext x st l s = if l.1 = [] then finishStep x (located x st l s) else handLocate x (located x st l s) := by
  unfold locateNext located
  dsimp only
  rw [recordRanges_eq]

theorem Poised.located (h : Poised s x st) (l : List Entry × List Entry) :
    Poised (located x st l s) x st ∧ Wrote x (l.2.map st.rangeLow) s (located x st l s) ∧
    ((Machine.located x st l s).bench x).locator = l.1 ∧ (Machine.located x st l s).store = s.store := by
  have stacked : Poised (s.setBench x { s.bench x with locator := l.1 }) x st := h.setBench h.step rfl
  have wrote := (wrote_recording (l.2.map st.rangeLow) stacked.open_).after
    (wrote_setBench { s.bench x with locator := l.1 } h.open_ rfl rfl)
  obtain ⟨-, -, locator, -⟩ := recorded_keeps ((s.setBench x { s.bench x with locator := l.1 }).bench x) false (l.2.map st.rangeLow)
  refine ⟨stacked.recording _, wrote, ?_, (booked_recording x false _ _).store⟩
  rw [Machine.located, recording_bench, locator, State.setBench_bench_same]

theorem Poised.locateEnds {l : List Entry × List Entry} (h : Poised s x st) (empty : l.1 = []) :
    StepFinishes (locateNext x st l s) x st ∧ Wrote x (l.2.map st.rangeLow) s (locateNext x st l s) := by
  obtain ⟨poised, wrote, -, -⟩ := h.located l
  obtain ⟨finishes, none⟩ := poised.finishes
  rw [locateNext_eq, if_pos empty]
  have all := none.after wrote
  rw [List.append_nil] at all
  exact ⟨finishes, all⟩

theorem Poised.locateTests {l : List Entry × List Entry} {e : Entry} {rest : List Entry} (h : Poised s x st) (stack : l.1 = e :: rest) :
    RangeTested s (locateNext x st l s) x st e.first e.last ∧ ((locateNext x st l s).bench x).locator = e :: rest ∧
    Wrote x (l.2.map st.rangeLow) s (locateNext x st l s) := by
  obtain ⟨poised, wrote, locator, store⟩ := h.located l
  obtain ⟨tests, same, none⟩ := poised.tests (locator.trans stack)
  rw [locateNext_eq, if_neg (by rw [stack]; nofun)]
  have all := none.after wrote
  rw [List.append_nil] at all
  rw [RangeTested, store] at tests
  exact ⟨tests, same, all⟩

/-- The upper half of a range whose lower half is done with. -/
theorem upperHalf_eq (g : Entry) (h : g.first < g.last) :
    g.upperHalf =
      { first := g.first + (g.last + 2 - g.first) / 2, last := g.last, state := .toMeasure, value := none, halfFailed := false } := by
  have mid : g.mid + 1 = g.first + (g.last + 2 - g.first) / 2 := by
    simp only [Entry.mid, Entry.size]
    omega
  simp only [Entry.upperHalf, Entry.due, mid]

/-- A finished range gives way to what is below it. -/
theorem locatorUnwind_finished {g : Entry} (rest : List Entry) (upper : g.state = .upper) :
    locatorUnwind (g :: rest) = ((locatorUnwind rest).1, (if g.halfFailed then [] else [g]) ++ (locatorUnwind rest).2) := by
  simp only [locatorUnwind, upper]
  cases g.halfFailed <;> rfl

theorem rangeDefects_eq (st : StepRecord) (g : Entry) : (if g.halfFailed then [] else [g]).map st.rangeLow = st.rangeDefects g := by
  unfold StepRecord.rangeDefects
  cases g.halfFailed <;> rfl

theorem Poised.upperTested {l : List Entry × List Entry} {g : Entry} {rest : List Entry} (h : Poised s x st)
    (stack : l.1 = g.upperHalf :: { g with state := .upper } :: rest) (wide : g.first < g.last) :
    UpperTested s (locateNext x st l s) x st g rest ∧ Wrote x (l.2.map st.rangeLow) s (locateNext x st l s) := by
  obtain ⟨tests, locator, wrote⟩ := h.locateTests stack
  rw [upperHalf_eq g wide] at tests locator
  exact ⟨⟨tests, locator⟩, wrote⟩

/-- The top entry removed and its defects recorded, the locate goes on with what is below it. -/
theorem Poised.goesOn (h : Poised w x st) (before : Wrote x ds s w) (store : w.store = s.store) (rest : List Entry) :
    LocateGoesOn s (locateNext x st (locatorUnwind rest) w) x st rest ds := by
  have ended {t : State} {es : List Defect} (k : Wrote x es w t) : Recorded s t x false (ds ++ es) := (k.after before).recorded
  refine ⟨fun none => ?_, fun g top => ?_⟩
  · subst none
    obtain ⟨finishes, wrote⟩ := h.locateEnds (l := locatorUnwind []) rfl
    have recorded := ended wrote
    rw [show (locatorUnwind []).2.map st.rangeLow = [] from rfl, List.append_nil] at recorded
    exact ⟨finishes, recorded⟩
  · obtain ⟨below, rfl⟩ : ∃ below, rest = g :: below := by
      cases rest with
      | nil => cases top
      | cons e l =>
        cases top
        exact ⟨l, rfl⟩
    refine ⟨fun lower wide => ?_, fun upper => ⟨fun last => ?_, fun k next lower wide => ?_⟩⟩
    · have unwound := locatorUnwind_lower (rest := below) lower
      obtain ⟨tested, wrote⟩ := h.upperTested (l := locatorUnwind (g :: below)) (by rw [unwound]) wide
      have recorded := ended wrote
      rw [show (locatorUnwind (g :: below)).2.map st.rangeLow = [] by rw [unwound]; rfl, List.append_nil] at recorded
      rw [UpperTested, RangeTested, store] at tested
      exact ⟨tested, recorded⟩
    · have unwound := locatorUnwind_finished below upper
      rw [show below = [] from last] at unwound ⊢
      obtain ⟨finishes, wrote⟩ := h.locateEnds (l := locatorUnwind [g]) (by rw [unwound]; rfl)
      rw [show (locatorUnwind [g]).2 = (if g.halfFailed then [] else [g]) by rw [unwound]; exact List.append_nil _, rangeDefects_eq] at wrote
      exact ⟨finishes, ended wrote⟩
    · obtain ⟨under, rfl⟩ : ∃ under, below = k :: under := by
        cases below with
        | nil => cases next
        | cons e l =>
          cases next
          exact ⟨l, rfl⟩
      have unwound := locatorUnwind_finished (k :: under) upper
      rw [locatorUnwind_lower (rest := under) lower, List.append_nil] at unwound
      obtain ⟨tested, wrote⟩ := h.upperTested (l := locatorUnwind (g :: k :: under)) (by rw [unwound]) wide
      rw [show (locatorUnwind (g :: k :: under)).2 = (if g.halfFailed then [] else [g]) by rw [unwound], rangeDefects_eq] at wrote
      rw [UpperTested, RangeTested, store] at tested
      exact ⟨tested, ended wrote⟩

end

end Sys2Proof.Machine

/-! The result of an energisation at its step (R142, R143, R145). -/

namespace Sys2Proof.Machine

section
variable {x y z : Station} {s t u w : State} {p : Port} {c : Configuration} {st : StepRecord} {ds es : List Defect} {r : EnergResult}

/-! ## The step record behind a result -/

theorem after_cut (h : r.outcome.isCut = true) : st.after r = st := by
  unfold StepRecord.after
  cases o : r.outcome with
  | cut c => simp [EnergOutcome.isCut]
  | sampled _ _ _ => simp [EnergOutcome.isCut, o] at h
  | arc _ => simp [EnergOutcome.isCut, o] at h
  | fault => simp [EnergOutcome.isCut, o] at h

theorem after_arc {a : ArcCause} (h : r.outcome = .arc a) : st.after r = st.counted none := by
  simp [StepRecord.after, StepRecord.counted, h, EnergOutcome.isCut]

theorem after_sampled {a b n : Nat} (h : r.outcome = .sampled a b n) : st.after r = st.counted (some n) := by
  simp [StepRecord.after, StepRecord.counted, h, EnergOutcome.isCut]

/-- A step whose energisation has discharged waits for its result on its trunk, cold again. -/
structure Awaits (s : State) (x : Station) (st : StepRecord) : Prop where
  poised : Poised s x st
  run : (s.bench x).run = .insulation
  wait : (s.bench x).wait = .energisation

/-- The step with its energisation noted. -/
def noted (x : Station) (st : StepRecord) (s : State) : State := s.setBench x { s.bench x with step := some st }

theorem noted_locator (x : Station) (st : StepRecord) (s : State) : ((noted x st s).bench x).locator = (s.bench x).locator := by
  rw [noted, State.setBench_bench_same]

theorem Awaits.noted (h : Awaits s x st) (st' : StepRecord) : Poised (noted x st' s) x st' ∧ Wrote x [] s (noted x st' s) :=
  ⟨h.poised.setBench rfl rfl, wrote_setBench _ h.poised.open_ rfl rfl⟩

section
variable (h : Awaits s x st)
include h

/-! ## What ends the step -/

/-- Any result but a FAULT ends an interrupted step, without a defect (R145). -/
theorem Awaits.interrupted (mark : st.interrupted = true) (fault : r.outcome ≠ .fault) :
    StepFinishes (stepResult x r s) x (st.after r) ∧ Wrote x [] s (stepResult x r s) := by
  have ends := stepResult_ends (s := s) (x := x) (r := r) h.poised.step h.run h.wait (show (st.after r).interrupted = true from mark) fault
  obtain ⟨poised, wrote⟩ := h.noted (st.after r)
  obtain ⟨finishes, none⟩ := poised.finishes
  rw [ends]
  exact ⟨finishes, none.after wrote⟩

section
variable (calm : st.interrupted = false)
include calm

theorem Awaits.cut (cut : r.outcome.isCut = true) : stepResult x r s = repeatConfig x st (Machine.noted x st s) := by
  have same := after_cut (st := st) cut
  unfold stepResult
  dsimp only
  simp only [h.poised.step]
  rw [if_pos ⟨h.run, h.wait⟩, same, calm]
  cases o : r.outcome with
  | cut c => rfl
  | sampled _ _ _ => simp [EnergOutcome.isCut, o] at cut
  | arc _ => simp [EnergOutcome.isCut, o] at cut
  | fault => simp [EnergOutcome.isCut, o] at cut

/-- A cut hands the same configuration again, and does not count (R141, R143). -/
theorem Awaits.repeats (cut : r.outcome.isCut = true) :
    Handed (stepResult x r s) x (s.bench x).handed ∧
    ((stepResult x r s).bench x).step = some { st with state := if st.state = .energise then .configure else st.state } ∧
    Wrote x [] s (stepResult x r s) := by
  rw [h.cut calm cut]
  have handed := handConfig_handed x (s.bench x).handed ((Machine.noted x st s).setBench x { (Machine.noted x st s).bench x with
    step := some { st with state := if st.state = .energise then .configure else st.state } })
  have bench := handConfig_bench_same x (s.bench x).handed ((Machine.noted x st s).setBench x { (Machine.noted x st s).bench x with
    step := some { st with state := if st.state = .energise then .configure else st.state } })
  have same : ((Machine.noted x st s).bench x).handed = (s.bench x).handed := by rw [Machine.noted, State.setBench_bench_same]
  have goes : repeatConfig x st (Machine.noted x st s) = handConfig x (s.bench x).handed ((Machine.noted x st s).setBench x
      { (Machine.noted x st s).bench x with step := some { st with state := if st.state = .energise then .configure else st.state } }) := by
    rw [repeatConfig, same]
  have units := (worked_repeatConfig x st (Machine.noted x st s)).units
  rw [← goes] at handed bench
  rw [State.setBench_bench_same] at bench
  refine ⟨handed, by rw [bench]; rfl, wrote_nothing h.poised.open_ (by rw [bench, Machine.noted, State.setBench_bench_same]; rfl)
    (by rw [bench, Machine.noted, State.setBench_bench_same]; rfl) units⟩

/-- An ARC ends the step with a defect (R142). -/
theorem Awaits.arcs {a : ArcCause} (arc : r.outcome = .arc a) :
    StepFinishes (stepResult x r s) x (st.counted none) ∧ Wrote x [(st.counted none).arc r.setpoint] s (stepResult x r s) := by
  have ends : stepResult x r s = finishStep x (recording x false [(st.counted none).arc r.setpoint] (Machine.noted x (st.counted none) s)) := by
    have same := after_arc (st := st) arc
    unfold stepResult
    dsimp only
    simp only [h.poised.step]
    rw [if_pos ⟨h.run, h.wait⟩, same, show (st.counted none).interrupted = false from calm, arc]
    rfl
  obtain ⟨poised, wrote⟩ := h.noted (st.counted none)
  obtain ⟨finishes, none⟩ := (poised.recording [(st.counted none).arc r.setpoint]).finishes
  have all := (none.after (wrote_recording _ poised.open_)).after wrote
  rw [List.append_nil, List.nil_append] at all
  rw [ends]
  exact ⟨finishes, all⟩

/-! ## A reading of the step's own energisation (R142) -/

section
variable {a b n : Nat} (sampled : r.outcome = .sampled a b n)
include sampled

theorem Awaits.reading (own : st.state = .energise) :
    stepResult x r s = stepReading x (st.counted (some n)) n (Machine.noted x (st.counted (some n)) s) := by
  rw [stepResult_sampled h.poised.step h.run h.wait calm sampled (by rw [own]; nofun), after_sampled sampled]
  rfl

theorem Awaits.passes (own : st.state = .energise) (pass : st.threshold ≤ n) :
    StepFinishes (stepResult x r s) x (st.counted (some n)) ∧ Wrote x [] s (stepResult x r s) := by
  obtain ⟨poised, wrote⟩ := h.noted (st.counted (some n))
  obtain ⟨finishes, none⟩ := poised.finishes
  rw [h.reading calm sampled own, stepReading, if_pos (show (st.counted (some n)).threshold ≤ n from pass)]
  exact ⟨finishes, none.after wrote⟩

section
variable (own : st.state = .energise) (low : n < st.threshold)
include own low

theorem Awaits.fails (plain : st.locate = false) :
    StepFinishes (stepResult x r s) x (st.counted (some n)) ∧ Wrote x [(st.counted (some n)).insLow .all n] s (stepResult x r s) := by
  have ends : stepResult x r s =
      finishStep x (recording x false [(st.counted (some n)).insLow .all n] (Machine.noted x (st.counted (some n)) s)) := by
    rw [h.reading calm sampled own, stepReading, if_neg (show ¬ (st.counted (some n)).threshold ≤ n from Nat.not_le.mpr low),
      if_neg (by rw [show (st.counted (some n)).locate = false from plain]; nofun)]
    rfl
  obtain ⟨poised, wrote⟩ := h.noted (st.counted (some n))
  obtain ⟨finishes, none⟩ := (poised.recording [(st.counted (some n)).insLow .all n]).finishes
  have all := (none.after (wrote_recording _ poised.open_)).after wrote
  rw [List.append_nil, List.nil_append] at all
  rw [ends]
  exact ⟨finishes, all⟩

/-- The locate begins with the whole returned set (R143). -/
theorem Awaits.locates (locate : st.locate = true) :
    stepResult x r s =
      locateGoOn x (st.counted (some n)) (locatorFail n [Entry.due 0 (st.returned.length - 1)])
        (Machine.noted x { st.counted (some n) with state := .locate } s) := by
  rw [h.reading calm sampled own, stepReading, if_neg (show ¬ (st.counted (some n)).threshold ≤ n from Nat.not_le.mpr low),
    if_pos (show (st.counted (some n)).locate = true from locate)]
  have twice : ((Machine.noted x (st.counted (some n)) s).setBench x { (Machine.noted x (st.counted (some n)) s).bench x with
      step := some { st.counted (some n) with state := .locate } }) = Machine.noted x { st.counted (some n) with state := .locate } s := by
    rw [Machine.noted, State.setBench_bench_same]
    cases x <;> rfl
  rw [twice]
  rfl

end

/-- A reading of a range test (R143). -/
theorem Awaits.tested (testing : st.state = .locate) :
    stepResult x r s = locateResult x (st.counted (some n)) n (Machine.noted x (st.counted (some n)) s) := by
  have same := after_sampled (st := st) sampled
  unfold stepResult
  dsimp only
  simp only [h.poised.step]
  rw [if_pos ⟨h.run, h.wait⟩, same, show (st.counted (some n)).interrupted = false from calm, sampled]
  exact if_pos testing

end

end

end

/-! ## The locate (R143) -/

/-- The state of the step does not bear on what the locate records. -/
theorem locateNext_state (x : Station) (st : StepRecord) (q : StepState) (l : List Entry × List Entry) (s : State) :
    locateNext x st l s = locateNext x { st with state := q } l s := by
  rw [locateNext_eq, locateNext_eq]
  rfl

/-- A range of one that fails is recorded, and the locate goes on below it. -/
theorem locateGoOn_single {e : Entry} (rest : List Entry) (one : e.state = .confirm) :
    locateGoOn x st (e :: rest) s =
      locateNext x st (locatorUnwind rest)
        (recording x false [st.insLow (.single ((st.candidate e.first).subject s.store.words)) (e.value.getD 0)] s) := by
  simp only [locateGoOn, one, if_true]
  rfl

theorem locateGoOn_range {e : Entry} (rest : List Entry) (due : e.state = .toMeasure) :
    locateGoOn x st (e :: rest) s = locateNext x st (e :: rest, []) s := by
  simp only [locateGoOn, due]
  rfl

theorem locatorFail_single {e : Entry} (n : Nat) (rest : List Entry) (one : e.first = e.last) :
    locatorFail n (e :: rest) = { e with state := .confirm, value := some n } :: markHalf rest := if_pos one

theorem locatorFail_range {e : Entry} (n : Nat) (rest : List Entry) (wide : e.first ≠ e.last) :
    locatorFail n (e :: rest) = e.lowerHalf :: { e with state := .lower, value := some n, halfFailed := false } :: markHalf rest := if_neg wide

theorem subject_eq (m : List ImageCell) (d : Driver) : d.subject m = candidateSubject m d := by
  cases d <;> rfl

/-- A range of one that failed: its INS-LOW, and the locate below it. -/
theorem Poised.single {e : Entry} {n : Nat} (h : Poised w x st) (before : Wrote x [] s w) (store : w.store = s.store) (rest : List Entry)
    (one : e.first = e.last) :
    LocateGoesOn s (locateGoOn x st (locatorFail n (e :: rest)) w) x st (markHalf rest)
      [st.insLow (.single (candidateSubject s.store.words (st.candidate e.first))) n] := by
  rw [locatorFail_single n rest one, locateGoOn_single (markHalf rest) rfl, subject_eq, store]
  have wrote := (wrote_recording [st.insLow (.single (candidateSubject s.store.words (st.candidate e.first))) n] h.open_).after before
  exact (h.recording _).goesOn wrote ((booked_recording x false _ w).store.trans store) (markHalf rest)

/-- A larger range that failed: its lower half is tested next. -/
theorem Poised.splits {e : Entry} {n : Nat} (h : Poised w x st) (before : Wrote x [] s w) (store : w.store = s.store) (rest : List Entry)
    (wide : e.first ≠ e.last) :
    RangeTested s (locateGoOn x st (locatorFail n (e :: rest)) w) x st e.first e.mid ∧
    ((locateGoOn x st (locatorFail n (e :: rest)) w).bench x).locator =
      Entry.due e.first e.mid :: { e with state := .lower, value := some n, halfFailed := false } :: markHalf rest ∧
    Wrote x [] s (locateGoOn x st (locatorFail n (e :: rest)) w) := by
  rw [locatorFail_range n rest wide, locateGoOn_range _ rfl]
  obtain ⟨tests, locator, wrote⟩ := h.locateTests
    (l := (e.lowerHalf :: { e with state := .lower, value := some n, halfFailed := false } :: markHalf rest, [])) rfl
  rw [RangeTested, store] at tests
  exact ⟨tests, locator, wrote.after before⟩

end

end Sys2Proof.Machine

/-! The fall that ends a step's discharge (R119, R125, R142 to R145, R147). -/

namespace Sys2Proof.Machine

section
variable {x y z : Station} {s t u w : State} {p : Port} {c : Configuration} {st : StepRecord} {ds es : List Defect} {r : EnergResult}
  {e : Energisation} {o : EnergOutcome}

/-! ## Behind the step's result -/

/-- Between u and t station X and its trunk stand, and units have been raised at most. -/
structure Carried (x : Station) (u t : State) : Prop where
  bench : t.bench x = u.bench x
  trunk : t.trunk x = u.trunk x
  units : ∀ p, RaisedFrom (u.unit p) (t.unit p)

section
variable (h : Carried x u t)
include h

theorem Carried.finishes (k : StepFinishes u x st) : StepFinishes t x st := by
  rw [StepFinishes, h.bench, h.trunk]
  exact k

theorem Carried.handed (k : Handed u x c) : Handed t x c := k.congr h.bench h.trunk

theorem Carried.recorded (k : Recorded s u x false ds) : Recorded s t x false ds := by
  obtain ⟨record, banks, notified⟩ := k
  exact ⟨by rw [h.bench, record], by rw [h.bench, banks], fun some_ => (notified some_).raised (h.units x.port)⟩

theorem Carried.ranged {first last : Nat} (k : RangeTested s u x st first last) : RangeTested s t x st first last := by
  obtain ⟨step, waits, hands⟩ := k
  exact ⟨by rw [h.bench, step], fun checks => by rw [h.bench]; exact waits checks, fun free => h.handed (hands free)⟩

theorem Carried.upper {g : Entry} {rest : List Entry} (k : UpperTested s u x st g rest) : UpperTested s t x st g rest := by
  obtain ⟨tested, locator⟩ := k
  exact ⟨h.ranged tested, by rw [h.bench, locator]⟩

theorem Carried.goesOn {rest : List Entry} (k : LocateGoesOn s u x st rest ds) : LocateGoesOn s t x st rest ds := by
  obtain ⟨ends, goes⟩ := k
  refine ⟨fun none => ?_, fun g top => ⟨fun lower wide => ?_, fun upper => ⟨fun last => ?_, fun l next lower wide => ?_⟩⟩⟩
  · obtain ⟨finishes, recorded⟩ := ends none
    exact ⟨h.finishes finishes, h.recorded recorded⟩
  · obtain ⟨tested, recorded⟩ := (goes g top).1 lower wide
    exact ⟨h.upper tested, h.recorded recorded⟩
  · obtain ⟨finishes, recorded⟩ := ((goes g top).2 upper).1 last
    exact ⟨h.finishes finishes, h.recorded recorded⟩
  · obtain ⟨tested, recorded⟩ := ((goes g top).2 upper).2 l next lower wide
    exact ⟨h.upper tested, h.recorded recorded⟩

end

/-! ## The fall -/

/-- A discharge on its SETTLED trunk ends with the fall of the monitor: the step is told, a pending release follows, and the chain goes on. -/
theorem exec_fall_discharges (w : StepDischarges s x e st) (ho : o = e.outcome.getD (.cut .trunk)) :
    exec (.monitorFall x) s = .next (chainStart (releaseIfDue (stepResult x (e.result o) (discharged x e o s)))) := by
  obtain ⟨running, hot, ready, he, trunk, stage, settled, -, -, -, -⟩ := w
  have source : sourceCold x (setHot x false s) = releaseIfDue (stepResult x (e.result o) (discharged x e o s)) := by
    rw [sourceCold_discharges (s := setHot x false s) he trunk stage, ho]
    rfl
  have both : bothCold x (setHot x false s) = trunkCold x (sourceCold x (setHot x false s)) := by
    unfold bothCold
    exact if_neg fun h => by
      have guarded : (s.trunk x).state = .guarded := h.1
      rw [settled] at guarded
      cases guarded
  have dark : Dark x (discharged x e o s) (releaseIfDue (stepResult x (e.result o) (discharged x e o s))) :=
    (dark_releaseIfDue x _).after (dark_stepResult x x _ _)
  have worked : Worked (discharged x e o s) (releaseIfDue (stepResult x (e.result o) (discharged x e o s))) :=
    (worked_releaseIfDue _).after (worked_stepResult x _ _)
  have unguarded := dark.unguarded (discharged_cold x e o s) (by rw [discharged_trunk, settled]; nofun)
  rw [exec_monitorFall running hot, both, source, fall_ends (worked.matrixState.trans ready) unguarded]

/-- What the fall leaves of the source, whatever the step makes of its result (R125). -/
theorem fall_source (t : State)
    (ht : t = chainStart (releaseIfDue (stepResult x (e.result o) (discharged x e o s)))) :
    t.hot x = false ∧ t.hv.energ = none ∧ t.hv.source = .off ∧ t.hv.sw = .off ∧ t.hv.path = false ∧ t.hv.last = some (e.result o) ∧
    (t.channel x).state ≠ .isolated := by
  have dark : Dark x (discharged x e o s) (releaseIfDue (stepResult x (e.result o) (discharged x e o s))) :=
    (dark_releaseIfDue x _).after (dark_stepResult x x _ _)
  have supply := dark.supply rfl
  simp only [Hv.supply, Prod.mk.injEq] at supply
  obtain ⟨source, energ, sw, last, path⟩ := supply
  rw [ht, chainStart_hot, chainStart_hv, chainStart_channel]
  exact ⟨dark.hot.trans (discharged_cold x e o s), energ, source, sw, path, last, (dark.aside rfl (leaveIsolation_unisolated x _)).1⟩

theorem StepDischarges.awaits (w : StepDischarges s x e st) (open_ : (s.bench x).record.isSome = true) : Awaits (discharged x e o s) x st := by
  obtain ⟨-, -, ready, -, -, -, settled, closed, run, wait, step⟩ := w
  exact ⟨⟨step, open_, ready, settled, discharged_cold x e o s, closed⟩, run, wait⟩

/-- Behind a step that does not wait for a grant, station X and its trunk stand. -/
theorem carried_fall (idle : NotWaiting u x) : Carried x u (chainStart (releaseIfDue u)) := by
  have untouched := untouched_releaseIfDue idle
  exact ⟨(chainStart_bench _ x).trans untouched.bench, (chainStart_trunk _ x).trans untouched.trunk, (worked_releaseIfDue u).units⟩

theorem notWaiting_of_step {q : StepRecord} (step : (u.bench x).step = some q) (away : q.state ≠ .waitHv) : NotWaiting u x := fun k hk => by
  cases step.symm.trans hk
  exact away

/-- A step whose locate goes on, or ends it, does not wait for a grant. -/
theorem Poised.notWaiting (h : Poised s x st) (l : List Entry × List Entry) (away : st.state ≠ .waitHv) : NotWaiting (locateNext x st l s) x := by
  cases stack : l.1 with
  | nil =>
    obtain ⟨finishes, -⟩ := h.locateEnds stack
    exact notWaiting_of_step finishes.1 nofun
  | cons e rest =>
    obtain ⟨tested, -, -⟩ := h.locateTests stack
    exact notWaiting_of_step tested.1 away

/-! ## The pending release (R119) -/

/-- The holder that gives up under a pending release, nobody else in line. -/
structure Owing (h : Hv) (x : Station) : Prop where
  holder : h.holder = some x
  pending : h.releasePending = true
  off : h.sw = .off
  line : h.line = []
  asks : h.asks x = false

/-- A step ask withdrawn where the station has no other ask leaves the line. -/
theorem Owing.setStepAsk {h : Hv} (k : Owing h x) : Owing (h.setStepAsk x false) x := by
  have reserve : h.reserveAsk.get x = false := by
    have asks := k.asks
    simp only [Hv.asks, Bool.or_eq_false_iff] at asks
    exact asks.2
  have asks : (h.setStepAsk x false).asks x = false := by
    show ((h.stepAsk.set x false).get x || h.reserveAsk.get x) = false
    rw [Both.get_set_same, reserve]
    rfl
  refine ⟨k.holder, k.pending, k.off, ?_, asks⟩
  show (if ({ h with stepAsk := h.stepAsk.set x false } : Hv).asks x then _ else h.line.filter _) = []
  rw [show ({ h with stepAsk := h.stepAsk.set x false } : Hv).asks x = false from asks, k.line]
  rfl

theorem releaseHolder_owing (k : Owing s.hv x) : releaseHolder s = released x s :=
  releaseHolder_nobody k.holder k.off (Hv.next_of_empty (show ({ s.hv with holder := none } : Hv).line = [] from k.line))

/-- The end of a step whose holder owes its release makes the release, at the step end or behind it. -/
theorem finishStep_frees (poised : Poised s x st) (idle : s.hv.energ = none) (owing : Owing s.hv x) :
    (releaseIfDue (finishStep x s)).hv.holder = none ∧ (releaseIfDue (finishStep x s)).hv.releasePending = false ∧
    (s.hv.quiet = false → Notified s (releaseIfDue (finishStep x s)) x.port srcHvReleased) := by
  obtain ⟨apart, -, -⟩ := finishStep_pending poised.step (.inl poised.closed)
  have units (p : Port) : (finishStep x s).unit p = (stepClosed x st s).unit p := congrArg (fun v : PerPort Attention => v.get p) apart.attention
  by_cases waits : st.state = .waitHv
  · have closed : stepClosed x st s = (s.setBench x ((s.bench x).finishing st)).setHv (s.hv.setStepAsk x false) := by
      rw [stepClosed, if_pos waits]
    have same : (finishStep x s).hv = s.hv.setStepAsk x false := by
      rw [apart.hv (Uncut.of_none (by rw [closed]; exact idle)), closed]
      rfl
    have still : Owing (finishStep x s).hv x := by rw [same]; exact owing.setStepAsk
    rw [releaseIfDue, if_pos still.pending, releaseHolder_owing still, released_hv]
    refine ⟨rfl, rfl, fun quiet => Notified.of_worked (worked_finishStep x s) (notified_released ?_)⟩
    rw [same]
    exact quiet
  · have ends : stepClosed x st s =
        released x ((s.setBench x ((s.bench x).finishing st)).setHv { s.hv.countString with holderStep := false }) := by
      have still : Owing ({ s.hv.countString with holderStep := false } : Hv) x :=
        ⟨owing.holder, owing.pending, owing.off, owing.line, owing.asks⟩
      rw [stepClosed, if_neg waits, stepEnd, if_pos (show (s.setBench x _).hv.holder = some x from owing.holder)]
      dsimp only
      rw [if_pos (show (s.setBench x ((s.bench x).finishing st)).hv.countString.releasePending = true from owing.pending)]
      exact releaseHolder_owing (s := (s.setBench x ((s.bench x).finishing st)).setHv { s.hv.countString with holderStep := false }) still
    have same : (finishStep x s).hv = ({ s.hv.countString with holderStep := false } : Hv).released := by
      rw [apart.hv (Uncut.of_none (by rw [ends, released_hv]; exact idle)), ends, released_hv]
      rfl
    have settled : ¬ (finishStep x s).hv.releasePending = true := by rw [same]; nofun
    rw [releaseIfDue, if_neg settled, same]
    refine ⟨rfl, rfl, fun quiet on => ?_⟩
    rw [units, ends]
    exact notified_released (x := x)
      (s := (s.setBench x ((s.bench x).finishing st)).setHv { s.hv.countString with holderStep := false }) quiet on

/-- An interrupted step whose discharge ends leaves the source to be released, also by a FAULT (R119, R126, R145). -/
theorem Awaits.frees (h : Awaits s x st) (mark : st.interrupted = true) (idle : s.hv.energ = none) (owing : Owing s.hv x) :
    (releaseIfDue (stepResult x r s)).hv.holder = none ∧ (releaseIfDue (stepResult x r s)).hv.releasePending = false ∧
    (s.hv.quiet = false → Notified s (releaseIfDue (stepResult x r s)) x.port srcHvReleased) := by
  obtain ⟨poised, -⟩ := h.noted (st.after r)
  by_cases fault : r.outcome = .fault
  · have ends : stepResult x r s = finishStep x (markInterrupted x (Machine.noted x (st.after r) s)) :=
      stepResult_fault h.poised.step h.run h.wait fault
    have marked : markInterrupted x (Machine.noted x (st.after r) s) =
        ((Machine.noted x (st.after r) s).setBench x ((Machine.noted x (st.after r) s).bench x).interrupted).setHv
          (s.hv.unqueued x ((Machine.noted x (st.after r) s).bench x).queued.isSome) := markInterrupted_eq x _
    have step : (((Machine.noted x (st.after r) s).bench x).interrupted).step = some { st.after r with interrupted := true } := by
      rw [Bench.interrupted, poised.step]
      rfl
    have open_ := poised.open_
    have poised' : Poised (markInterrupted x (Machine.noted x (st.after r) s)) x { st.after r with interrupted := true } := by
      rw [marked]
      refine ⟨by rw [State.setHv_bench, State.setBench_bench_same, step], ?_, poised.ready, poised.settled, poised.cold, poised.closed⟩
      rw [State.setHv_bench, State.setBench_bench_same, Bench.interrupted]
      show (Option.map _ _).isSome = true
      rw [Option.isSome_map]
      exact open_
    have unit : (markInterrupted x (Machine.noted x (st.after r) s)).hv =
        s.hv.unqueued x ((Machine.noted x (st.after r) s).bench x).queued.isSome := by rw [marked]; rfl
    have still : Owing (markInterrupted x (Machine.noted x (st.after r) s)).hv x := by
      rw [unit]
      unfold Hv.unqueued
      split
      · exact owing.setStepAsk
      · exact owing
    have same : (markInterrupted x (Machine.noted x (st.after r) s)).hv.energ = none ∧
        (markInterrupted x (Machine.noted x (st.after r) s)).hv.quiet = s.hv.quiet := by
      rw [unit]
      unfold Hv.unqueued
      split <;> exact ⟨idle, rfl⟩
    obtain ⟨energ, quiet⟩ := same
    obtain ⟨holder, pending, told⟩ := finishStep_frees poised' energ still
    rw [ends]
    refine ⟨holder, pending, fun loud => ?_⟩
    have raised := told (quiet.trans loud)
    have units (p : Port) : (markInterrupted x (Machine.noted x (st.after r) s)).unit p = s.unit p := by rw [marked]; rfl
    rwa [Notified, units] at raised
  · have ends := stepResult_ends (s := s) (x := x) (r := r) h.poised.step h.run h.wait (show (st.after r).interrupted = true from mark) fault
    rw [ends]
    exact finishStep_frees (s := Machine.noted x (st.after r) s) poised idle owing

end

end Sys2Proof.Machine

/-! MONITOR FALL (R2, R5, R6, R10, R13, R16, R119, R125, R126, R142 to R147). -/

namespace Sys2Proof.Machine

section
variable {x y z : Station} {s t u w : State} {p : Port} {c : Configuration} {st : StepRecord} {ds es : List Defect} {r : EnergResult}
  {e : Energisation} {o : EnergOutcome}

/-! ## The trunk alone -/

theorem bothCold_unguarded (none_ : Sourceless s.hv) (unguarded : (s.trunk x).state ≠ .guarded) : bothCold x s = s := by
  unfold bothCold
  rw [if_neg fun h => unguarded h.1, sourceCold_sourceless none_, trunkCold_unguarded unguarded]

/-- With nothing that waits the fall is no more than the monitor's. -/
theorem fall_quiet (running : s.inReset = false) (hot : s.hot x = true) (none_ : Sourceless s.hv) (unguarded : (s.trunk x).state ≠ .guarded)
    (ready : s.matrix.state = .ready) (hk : s.matrix.hk = none) (slots : s.matrix.slots = ⟨none, none⟩) :
    exec (.monitorFall x) s = .next (setHot x false s) := by
  rw [exec_monitorFall running hot, bothCold_unguarded (s := setHot x false s) none_ unguarded, clearingPass_ready (s := setHot x false s) ready]
  refine congrArg _ ?_
  have still : (setHot x false s).matrix.arbitrate = (setHot x false s).matrix := by
    cases load : (setHot x false s).matrix.load with
    | some l => exact arbitrate_busy load
    | none =>
      rw [arbitrate_trunk load (fun k hk' => nomatch (show s.matrix.hk = some k from hk').symm.trans hk), startTrunk_none (m := (setHot x false s).matrix) slots]
  rw [chainStart, still]
  rfl

/-- A housekeeping request that waited for the monitor starts (R5). -/
theorem fall_starts {k : Housekeeping} (running : s.inReset = false) (hot : s.hot x = true) (none_ : Sourceless s.hv)
    (unguarded : (s.trunk x).state ≠ .guarded) (ready : s.matrix.state = .ready) (load : s.matrix.load = none) (hk : s.matrix.hk = some k)
    (may : (setHot x false s).matrix.mayStart k = true) :
    exec (.monitorFall x) s = .next ((setHot x false s).setMatrix
      { (setHot x false s).matrix with load := some ((setHot x false s).matrix.housekeepingLoad k), hk := none }) := by
  rw [exec_monitorFall running hot, bothCold_unguarded (s := setHot x false s) none_ unguarded, clearingPass_ready (s := setHot x false s) ready,
    chainStart, arbitrate_starts (m := (setHot x false s).matrix) load hk may]

/-- An UNKNOWN matrix with both monitors cold begins its clearing pass (R6). -/
theorem fall_clears (running : s.inReset = false) (hot : s.hot x = true) (none_ : Sourceless s.hv) (unguarded : (s.trunk x).state ≠ .guarded)
    (unknown : s.matrix.state = .unknown) (cold : s.hot x.other = false) (load : s.matrix.load = none) :
    exec (.monitorFall x) s = .next ((setHot x false s).setMatrix
      { (setHot x false s).matrix with state := .clearing, hk := none, load := some clearingLoad }) := by
  have both (y : Station) : (setHot x false s).hot y = false := by
    by_cases own : y = x
    · subst own
      exact setHot_hot y false s
    · rw [Station.eq_other own]
      exact (Both.get_set_ne _ _ (Station.other_ne x)).trans cold
  rw [exec_monitorFall running hot, bothCold_unguarded (s := setHot x false s) none_ unguarded,
    clearingPass_begins (s := setHot x false s) unknown (both .a) (both .b)]
  refine congrArg _ ?_
  by_cases asked : s.matrix.hk = some .clearing
  · have placed : requestHousekeeping .clearing ((setHot x false s).setMatrix (setHot x false s).matrix.clearingNow) =
        (setHot x false s).setMatrix (setHot x false s).matrix.clearingNow := if_pos asked
    rw [placed, chainStart, State.setMatrix_matrix, arbitrate_starts (m := (setHot x false s).matrix.clearingNow) load asked rfl]
    rfl
  · have placed := requestHousekeeping_eq (k := .clearing) (s := (setHot x false s).setMatrix (setHot x false s).matrix.clearingNow) asked
    rw [State.setMatrix_matrix, arbitrate_starts (m := (setHot x false s).matrix.clearingNow.requesting .clearing) load rfl rfl] at placed
    rw [placed, chainStart_busy (l := clearingLoad) rfl]
    rfl

/-! ## The locate's ranges -/

/-- The first candidates of a list, by their positions. -/
theorem take_eq_map (l : List Driver) {n : Nat} (le : n ≤ l.length) : (List.range n).map (fun i => l.getD (0 + i) (.net 0)) = l.take n := by
  refine List.ext_getElem (by simp [le]) fun i h1 h2 => ?_
  have small : i < l.length := by
    simp only [List.length_map, List.length_range] at h1
    omega
  simp [List.getD_eq_getElem?_getD, small]

theorem locateGoOn_state (x : Station) (st : StepRecord) (q : StepState) (l : List Entry) (s : State) :
    locateGoOn x st l s = locateGoOn x { st with state := q } l s := by
  cases l with
  | nil => exact locateNext_state x st q ([], []) s
  | cons e rest =>
    unfold locateGoOn
    dsimp only
    split
    · exact locateNext_state x st q _ _
    · exact locateNext_state x st q _ _

/-! ## The step's reading below its threshold (R142, R143) -/

section
variable {a b n : Nat} (h : Awaits s x st) (calm : st.interrupted = false) (sampled : r.outcome = .sampled a b n)
include h calm sampled

/-- The locate begins on a returned set of one: its one candidate is recorded. -/
theorem Awaits.recordsOne {d : Driver} (own : st.state = .energise) (low : n < st.threshold) (locate : st.locate = true)
    (one : st.returned = [d]) :
    StepFinishes (stepResult x r s) x (st.counted (some n)) ∧
    Recorded s (stepResult x r s) x false [(st.counted (some n)).insLow (.single (candidateSubject s.store.words d)) n] := by
  obtain ⟨poised, wrote⟩ := h.noted { st.counted (some n) with state := .locate }
  obtain ⟨ends, -⟩ := poised.single (n := n) (e := Entry.due 0 (st.returned.length - 1)) wrote rfl [] (by rw [one]; rfl)
  rw [h.locates calm sampled own low locate, locateGoOn_state x _ .locate]
  obtain ⟨finishes, recorded⟩ := ends rfl
  have candidate : ({ st.counted (some n) with state := .locate } : StepRecord).candidate 0 = d := by
    show st.returned.getD 0 (.net 0) = d
    rw [one]
    rfl
  rw [show (Entry.due 0 (st.returned.length - 1)).first = 0 from rfl, candidate] at recorded
  exact ⟨finishes, recorded⟩

/-- The locate begins on a larger returned set: its lower half is tested. -/
theorem Awaits.begins (own : st.state = .energise) (low : n < st.threshold) (locate : st.locate = true) (many : 2 ≤ st.returned.length) :
    Recorded s (stepResult x r s) x false [] ∧
    RangeTested s (stepResult x r s) x { st.counted (some n) with state := .locate } 0 ((st.returned.length + 1) / 2 - 1) ∧
    ((stepResult x r s).bench x).locator =
      [{ first := 0, last := (st.returned.length + 1) / 2 - 1, state := .toMeasure, value := none, halfFailed := false },
       { first := 0, last := st.returned.length - 1, state := .lower, value := some n, halfFailed := false }] := by
  obtain ⟨poised, wrote⟩ := h.noted { st.counted (some n) with state := .locate }
  obtain ⟨tests, locator, none⟩ := poised.splits (n := n) (e := Entry.due 0 (st.returned.length - 1)) wrote rfl []
    (by show 0 ≠ st.returned.length - 1; omega)
  have mid : (Entry.due 0 (st.returned.length - 1)).mid = (st.returned.length + 1) / 2 - 1 := by
    simp only [Entry.mid, Entry.size, Entry.due]
    omega
  rw [h.locates calm sampled own low locate, locateGoOn_state x _ .locate]
  rw [mid] at tests locator
  exact ⟨none.recorded, tests, locator⟩

section
variable {f : Entry} {rest : List Entry} (testing : st.state = .locate) (stack : (s.bench x).locator = f :: rest)
include testing stack

theorem Awaits.single (low : n < st.threshold) (one : f.first = f.last) :
    LocateGoesOn s (stepResult x r s) x (st.counted (some n)) (markHalf rest)
      [(st.counted (some n)).insLow (.single (candidateSubject s.store.words (st.returned.getD f.first (.net 0)))) n] ∧
    NotWaiting (stepResult x r s) x := by
  obtain ⟨poised, wrote⟩ := h.noted (st.counted (some n))
  have goes := poised.single (n := n) wrote rfl rest one
  rw [h.tested calm sampled testing, locateResult, if_neg (show ¬ (st.counted (some n)).threshold ≤ n from Nat.not_le.mpr low),
    noted_locator, stack]
  refine ⟨goes, ?_⟩
  rw [locatorFail_single n rest one, locateGoOn_single (markHalf rest) rfl]
  exact (poised.recording _).notWaiting _ (by rw [show (st.counted (some n)).state = .locate from testing]; nofun)

theorem Awaits.splits (low : n < st.threshold) (wide : f.first < f.last) :
    Recorded s (stepResult x r s) x false [] ∧
    RangeTested s (stepResult x r s) x (st.counted (some n)) f.first (f.first + (f.last - f.first) / 2) ∧
    ((stepResult x r s).bench x).locator =
      { first := f.first, last := f.first + (f.last - f.first) / 2, state := .toMeasure, value := none, halfFailed := false } ::
        { f with state := .lower, value := some n, halfFailed := false } :: markHalf rest := by
  obtain ⟨poised, wrote⟩ := h.noted (st.counted (some n))
  have mid : f.mid = f.first + (f.last - f.first) / 2 := by
    simp only [Entry.mid, Entry.size]
    omega
  rw [h.tested calm sampled testing, locateResult, if_neg (show ¬ (st.counted (some n)).threshold ≤ n from Nat.not_le.mpr low),
    noted_locator, stack]
  obtain ⟨tests, locator, none⟩ := poised.splits (n := n) wrote rfl rest (Nat.ne_of_lt wide)
  rw [mid] at tests locator
  exact ⟨none.recorded, tests, locator⟩

theorem Awaits.clean (pass : st.threshold ≤ n) : LocateGoesOn s (stepResult x r s) x (st.counted (some n)) rest [] ∧
    NotWaiting (stepResult x r s) x := by
  obtain ⟨poised, wrote⟩ := h.noted (st.counted (some n))
  rw [h.tested calm sampled testing, locateResult, if_pos (show (st.counted (some n)).threshold ≤ n from pass),
    noted_locator, stack]
  exact ⟨poised.goesOn wrote rfl rest, poised.notWaiting _ (by rw [show (st.counted (some n)).state = .locate from testing]; nofun)⟩

end

end

end

end Sys2Proof.Machine

/-! MONITOR FALL as a whole (R2, R5, R6, R10, R13, R16, R119, R125, R126, R142 to R147). -/

namespace Sys2Proof.Machine

section
variable {x : Station} {s : State} {c : Configuration} {st : StepRecord} {e : Energisation} {o : EnergOutcome}

/-- A GUARDED trunk that takes its held configuration up as its relays have it (R10, R13). -/
theorem fall_opens (running : s.inReset = false) (hot : s.hot x = true) (none_ : Sourceless s.hv) (guarded : (s.trunk x).state = .guarded)
    (part : (s.trunk x).part ≠ .deviceAllOpen) (own : ownLoadRuns s x = false) (config : (s.trunk x).config = some c)
    (opens : (trunkRelays s x).opensSome (targetOf (s.window x) c) = true) :
    ∃ t, exec (.monitorFall x) s = .next t ∧ t.hot x = false ∧ (t.trunk x).state = .opening ∧ (t.trunk x).config = some c ∧
      (t.trunk x).waiting = (s.trunk x).waiting ∧ (t.trunk x).target = targetOf (s.window x) c ∧ t.matrix.image = s.matrix.image := by
  have later : ¬ DoneAtOnce (setHot x false s) x c := fun done => by
    obtain ⟨-, -, still, -⟩ := done
    cases opens.symm.trans still
  obtain ⟨t, ht, takes, cold, image⟩ := fall_takes running hot none_ guarded part own config later
  obtain ⟨opening, -⟩ := (takes _ rfl _ rfl _ rfl).2 (setHot_hot x false s)
  obtain ⟨trunk, -⟩ := opening opens
  exact ⟨t, ht, cold, by rw [trunk], by rw [trunk], by rw [trunk], by rw [trunk]; rfl, image⟩

theorem fall_closes (running : s.inReset = false) (hot : s.hot x = true) (none_ : Sourceless s.hv) (guarded : (s.trunk x).state = .guarded)
    (part : (s.trunk x).part ≠ .deviceAllOpen) (own : ownLoadRuns s x = false) (config : (s.trunk x).config = some c)
    (still : (trunkRelays s x).opensSome (targetOf (s.window x) c) = false) :
    ∃ t, exec (.monitorFall x) s = .next t ∧ t.hot x = false ∧ t.matrix.image = s.matrix.image ∧
      ((trunkRelays s x).closesSome (targetOf (s.window x) c) = true →
        (t.trunk x).state = .closing ∧ (t.trunk x).config = some c ∧ (t.trunk x).waiting = (s.trunk x).waiting ∧
        (t.trunk x).target = targetOf (s.window x) c) ∧
      ((trunkRelays s x).closesSome (targetOf (s.window x) c) = false → c ≠ .empty →
        t.trunk x = { s.trunk x with
          state := .settling, target := targetOf (s.window x) c, part := .load, settleTimer := some (s.trunk x).settleTime }) ∧
      ((trunkRelays s x).closesSome (targetOf (s.window x) c) = false → c = .empty → (s.trunk x).waiting = none →
        (s.bench x).wait = .nothing →
        t.trunk x = { s.trunk x with state := .idle, config := none, target := .allOpen, part := .load, settleTimer := none }) := by
  by_cases done : DoneAtOnce (setHot x false s) x c
  · obtain ⟨empty, -, -, closes⟩ := id done
    have closes' : (trunkRelays s x).closesSome (targetOf (s.window x) c) = false := closes
    obtain ⟨cold, image⟩ := fall_image x s
    refine ⟨_, exec_monitorFall running hot, cold, image, fun k => (nomatch closes'.symm.trans k), fun _ points => absurd empty points,
      fun _ _ alone idle => ?_⟩
    obtain ⟨t, ht, -, -, trunk⟩ := fall_rests running hot none_ guarded part own config done alone idle
    cases (exec_monitorFall running hot).symm.trans ht
    exact trunk
  · obtain ⟨t, ht, takes, cold, image⟩ := fall_takes running hot none_ guarded part own config done
    obtain ⟨-, closing, settling⟩ := (takes _ rfl _ rfl _ rfl).2 (setHot_hot x false s)
    refine ⟨t, ht, cold, image, fun closes => ?_, fun rests points => ?_, fun rests empty _ _ => ?_⟩
    · obtain ⟨trunk, -⟩ := closing still closes
      exact ⟨by rw [trunk], by rw [trunk], by rw [trunk], by rw [trunk]; rfl⟩
    · rw [settling still rests points, ← config]
      rfl
    · exact absurd ⟨empty, setHot_hot x false s, still, rests⟩ done

/-- The fall of a FAULTED trunk disconnects the source and releases its holder; the latch stays (R126). -/
theorem fall_frees (running : s.inReset = false) (hot : s.hot x = true)
    (idle : s.hv.energ = none) (source : s.hv.source = .faulted) (sw : s.hv.sw = .to x) (held : s.hv.holder = some x)
    (due : s.hv.releasePending = true) (latch : s.hv.latch = some x) :
    ∃ t, exec (.monitorFall x) s = .next t ∧ t.hot x = false ∧ (t.channel x).state ≠ .isolated ∧ t.hv.sw = .off ∧
      t.hv.path = false ∧ t.hv.holder = none ∧ t.hv.releasePending = false ∧ t.hv.source = .faulted ∧ t.hv.latch = some x ∧
      (s.hv.quiet = false → Notified s t x.port srcHvReleased) := by
  obtain ⟨cold, -⟩ := fall_image x s
  have freed := bothCold_frees (s := setHot x false s) (x := x) ⟨idle, source, sw, held, due, latch⟩
  have chain := chained_fall (bothCold x (setHot x false s))
  refine ⟨_, exec_monitorFall running hot, cold, by rw [chain.channel]; exact freed.channel.1, by rw [chain.hv]; exact freed.sw,
    by rw [chain.hv]; exact freed.path, by rw [chain.hv]; exact freed.holder, by rw [chain.hv]; exact freed.pending,
    by rw [chain.hv]; exact freed.source, by rw [chain.hv]; exact freed.latch, fun quiet on => ?_⟩
  rw [chain.unit]
  exact freed.told quiet on

/-- The discharge of a station without a run ends, and the source is free (R119, R125). -/
theorem fall_drains (running : s.inReset = false) (hot : s.hot x = true) (he : s.hv.energ = some e) (trunk : e.trunk = x)
    (stage : e.stage = .discharging) (run : (s.bench x).run = .noRun) (held : s.hv.holder = some x) (due : s.hv.releasePending = true)
    (line : s.hv.line = []) :
    ∃ t, exec (.monitorFall x) s = .next t ∧ t.hot x = false ∧ (t.channel x).state ≠ .isolated ∧
      t.hv = s.hv.drained e (e.settle (.cut .trunk)) ∧ (s.hv.quiet = false → Notified s t x.port srcHvReleased) := by
  obtain ⟨cold, -⟩ := fall_image x s
  have drained := bothCold_drains (s := setHot x false s) (x := x) (e := e) ⟨he, trunk, stage, run, held, due, line⟩
  have chain := chained_fall (bothCold x (setHot x false s))
  refine ⟨_, exec_monitorFall running hot, cold, by rw [chain.channel]; exact drained.channel.1, chain.hv.trans drained.hv,
    fun quiet on => ?_⟩
  rw [chain.unit]
  exact drained.told quiet on

/-- Settles O24: the trunk and the source by what stood on them, and the step by the result of its energisation. -/
theorem monitorFallReleases : Obligations.MonitorFallReleases := by
  refine ⟨fun s x running hot => ⟨fun unguarded energ source ready hk a b => ?_, fun unguarded energ source load u hu => ?_,
    fun guarded energ source => ⟨fun part => fall_allOpen running hot ⟨energ, source⟩ guarded part,
      fun part own => fall_loads running hot ⟨energ, source⟩ guarded part own, fun part own c config u hu later => ?_⟩,
    fun c config guarded part own energ source => fall_opens running hot ⟨energ, source⟩ guarded part own config,
    fun c config guarded part own energ source => fall_closes running hot ⟨energ, source⟩ guarded part own config,
    fall_frees running hot, fun e he o ho trunk stage run held due line => ?_⟩, fun s x running e he st hs open_ o ho w => ?_⟩
  · have slots : s.matrix.slots = ⟨none, none⟩ := congrArg₂ Both.mk a b
    exact fall_quiet running hot ⟨energ, source⟩ unguarded ready hk slots
  · subst hu
    exact ⟨fun ready k hk may => fall_starts running hot ⟨energ, source⟩ unguarded ready load hk may,
      fun unknown cold => fall_clears running hot ⟨energ, source⟩ unguarded unknown cold load⟩
  · subst hu
    obtain ⟨t, ht, takes, -⟩ := fall_takes running hot ⟨energ, source⟩ guarded part own config later
    exact ⟨t, ht, takes⟩
  · subst ho
    exact fall_drains running hot he trunk stage run held due line
  have awaits : Awaits (discharged x e o s) x st := StepDischarges.awaits w open_
  obtain ⟨cold, energ, source, sw, path, last, channel⟩ := fall_source (s := s) (x := x) (e := e) (o := o) _ rfl
  refine ⟨_, exec_fall_discharges w ho, cold, energ, source, sw, path, last, channel, fun held due mark line asks => ?_,
    fun mark fault => ?_, fun calm => ⟨fun cut state => ?_, fun cause arc => ?_, fun v i n sampled => ⟨fun own pass => ?_,
      fun own low => ⟨fun plain => ?_, fun d one locate => ?_, fun locate many => ?_⟩, fun f top testing due rest hrest => ?_⟩⟩⟩
  · obtain ⟨holder, pending, told⟩ := awaits.frees (r := e.result o) mark rfl ⟨held, due, rfl, line, asks⟩
    exact ⟨holder, pending, told⟩
  · obtain ⟨finishes, wrote⟩ := awaits.interrupted (r := e.result o) mark fault
    have carried := carried_fall (notWaiting_of_step finishes.1 nofun)
    refine ⟨carried.recorded wrote.recorded, fun cut => ?_, fun cause arc => ?_, fun v i n sampled => ?_⟩
    · rw [after_cut (r := e.result o) cut] at finishes
      exact carried.finishes finishes
    · rw [after_arc (r := e.result o) arc] at finishes
      exact carried.finishes finishes
    · rw [after_sampled (r := e.result o) sampled] at finishes
      exact carried.finishes finishes
  · obtain ⟨handed, step, wrote⟩ := awaits.repeats (r := e.result o) calm cut
    have carried := carried_fall (notWaiting_of_step step (by rcases state with state | state <;> simp [state]))
    exact ⟨carried.recorded wrote.recorded, carried.handed handed, by rw [carried.bench]; exact step⟩
  · obtain ⟨finishes, wrote⟩ := awaits.arcs (r := e.result o) calm arc
    have carried := carried_fall (notWaiting_of_step finishes.1 nofun)
    exact ⟨carried.finishes finishes, carried.recorded wrote.recorded⟩
  · obtain ⟨finishes, wrote⟩ := awaits.passes (r := e.result o) calm sampled own pass
    have carried := carried_fall (notWaiting_of_step finishes.1 nofun)
    exact ⟨carried.finishes finishes, carried.recorded wrote.recorded⟩
  · obtain ⟨finishes, wrote⟩ := awaits.fails (r := e.result o) calm sampled own low plain
    have carried := carried_fall (notWaiting_of_step finishes.1 nofun)
    exact ⟨carried.finishes finishes, carried.recorded wrote.recorded⟩
  · obtain ⟨finishes, recorded⟩ := awaits.recordsOne (r := e.result o) calm sampled own low locate one
    have carried := carried_fall (notWaiting_of_step finishes.1 nofun)
    exact ⟨carried.finishes finishes, carried.recorded recorded⟩
  · obtain ⟨recorded, tested, locator⟩ := awaits.begins (r := e.result o) calm sampled own low locate many
    have carried := carried_fall (notWaiting_of_step tested.1 nofun)
    obtain ⟨step, waits, hands⟩ := carried.ranged tested
    refine ⟨carried.recorded recorded, step, by rw [carried.bench]; exact locator, waits, fun free => ?_⟩
    have handed := hands free
    rw [show (st.returned.length + 1) / 2 - 1 + 1 - 0 = (st.returned.length + 1) / 2 by omega] at handed
    rw [← take_eq_map st.returned (by omega)]
    exact handed
  · have stack : ((discharged x e o s).bench x).locator = f :: rest := by
      show (s.bench x).locator = f :: rest
      cases l : (s.bench x).locator with
      | nil =>
        rw [l] at top
        cases top
      | cons g l' =>
        rw [l] at top hrest
        cases top
        rw [hrest]
        rfl
    refine ⟨fun low one => ?_, fun low wide => ?_, fun pass => ?_⟩
    · obtain ⟨goes, idle⟩ := awaits.single (r := e.result o) calm sampled testing stack low one
      exact (carried_fall idle).goesOn goes
    · obtain ⟨recorded, tested, locator⟩ := awaits.splits (r := e.result o) calm sampled testing stack low wide
      have carried := carried_fall (notWaiting_of_step tested.1 (by rw [show (st.counted (some n)).state = .locate from testing]; nofun))
      exact ⟨carried.recorded recorded, carried.ranged tested, by rw [carried.bench]; exact locator⟩
    · obtain ⟨goes, idle⟩ := awaits.clean (r := e.result o) calm sampled testing stack pass
      exact (carried_fall idle).goesOn goes

end

end Sys2Proof.Machine
